-- ==== Sys2Proof/Word.lean ====
section
/-! DEFINITION. The words of the part: bytes on the links, the hall clock, the encoder count, and the membership
fields that stand for sets of cells, event kinds and cause kinds. -/

namespace Sys2Proof

/-- A byte on a link or on the load bus (R181, R126). -/
abbrev Byte := BitVec 8

/-- The hall clock: a 32-bit count of milliseconds that wraps (R177). -/
abbrev Clock := BitVec 32

/-- A set of floor cells as its membership field: bit `c` stands for cell `c`, 0 to 63 (R184). -/
abbrev CellSet := BitVec 64

/-- A set of event kinds: bit `i` stands for the i-th of the ten kinds (R184, R191). -/
abbrev EventSet := BitVec 10

/-- A set of cause and record kinds: bit `i` stands for the kind of code `i` (R190). -/
abbrev KindSet := BitVec 32

/-- The count of one good encoder read, 0 to 16 777 215 (R13). -/
abbrev Count := BitVec 24

end Sys2Proof
end

