-- ==== Sys2Proof/Syntax.lean ====
section
/-! DEFINITION. The commands of the part: one constructor of `Instr` for each row of spec/opcode_table.json, with the
data a command carries. A request carries the fields of its payload as the wire has them (R184, R187, R190), so that a
number or a code outside its range reaches the block that refuses it. -/

namespace Sys2Proof

/-- A number 1 to 8: a tier, a station or a plan (00_scope, Numbering). -/
inductive Idx8
  | n1 | n2 | n3 | n4 | n5 | n6 | n7 | n8
  deriving DecidableEq, Repr

abbrev Tier := Idx8
abbrev Station := Idx8
abbrev PlanNo := Idx8

/-- The two link ports (R180). -/
inductive Port
  | A | B
  deriving DecidableEq, Repr

/-- The role of an axis in its tier: rotation, jack A, jack B (00_scope, Numbering). -/
inductive Role
  | R | A | B
  deriving DecidableEq, Repr

/-- The two jacks of a tilt pair. -/
inductive Jack
  | A | B
  deriving DecidableEq, Repr

/-- One of the 24 axes 1R to 8B. -/
structure Axis where
  tier : Tier
  role : Role
  deriving DecidableEq, Repr

/-- Where a request came from: its port and the TAG of its frame (R181). -/
structure Src where
  port : Port
  tag : Byte
  deriving DecidableEq, Repr

inductive Mode
  | setup | run
  deriving DecidableEq, Repr

inductive StopState
  | clear | holding | held | stopping | stopped | tripped | repowering
  deriving DecidableEq, Repr

/-- The kinds of move (R21). -/
inductive MoveKind
  | rotate | tilt
  deriving DecidableEq, Repr

inductive SpeedClass
  | full | reduced | crawl
  deriving DecidableEq, Repr

/-- The outcome of a move (02, Outcomes). -/
inductive MoveOutcome
  | done | cancelled | aborted | failed
  deriving DecidableEq, Repr

/-- The reason that goes with an outcome (02, Outcomes). -/
inductive Reason
  | none | operator | stop | trip | lockTimeout | settleTimeout | lockLost | planEnded | inhibit
  deriving DecidableEq, Repr

/-- The stages of a move or a jog (04). SUSPENDED stands among them, as on the wire (R186). -/
inductive Stage
  | withdrawLock | liftBrake | travel | settle | setBrake | engageLock | suspending | halting | suspended
  deriving DecidableEq, Repr

/-- Why a pending move was passed over (R21, R50). -/
inductive HoldReason
  | order | tierBusy | load | drive | posture | cells | power | aged
  deriving DecidableEq, Repr

/-- The origin of a move (R21). -/
inductive Origin
  | direct
  | plan (number : PlanNo) (step : Nat)
  deriving DecidableEq, Repr

inductive LockState
  | engaged | withdrawn | withdrawing | engaging | conflicted
  deriving DecidableEq, Repr

inductive LockCmd
  | engage | withdraw
  deriving DecidableEq, Repr

/-- The tier causes, which set the tier inhibit (R77). -/
inductive TierCause
  | lockTimeout | settleTimeout | lockConflict
  deriving DecidableEq, Repr

/-- Cause and record kinds (R152, R162). -/
inductive Kind
  | hold | enableLapse | stop | following | overspeed | softLimit | skew | overload | lockLost | stowLost
  | estop | limitHit | driveLost | encoder | skewSevere | enableLost
  | lockTimeout | settleTimeout | lockConflict | powerOn | restart | driveNotReady
  deriving DecidableEq, Repr

/-- The phases of an axis controller or a pair unit (R88, R112). -/
inductive Phase
  | idle | lifting | travel | settle | stopping | still | setting
  deriving DecidableEq, Repr

/-- What an axis or a pair serves (R88). -/
inductive Served
  | none
  | move (number : Nat)
  | jog
  deriving DecidableEq, Repr

/-- Which deceleration a stop order asks for: a or a_qs (R99). -/
inductive StopRate
  | a | aqs
  deriving DecidableEq, Repr

inductive JogTarget
  | rotation | pair
  deriving DecidableEq, Repr

/-- A direction of motion: toward larger or toward smaller positions. -/
inductive Dir
  | up | down
  deriving DecidableEq, Repr

inductive TimerState
  | quiet | watching | lapsed
  deriving DecidableEq, Repr

inductive PlanState
  | idle | running | held | done | failed | aborted
  deriving DecidableEq, Repr

inductive StartCond
  | sequential | parallel | barrier
  deriving DecidableEq, Repr

/-- A reply's status (R185). -/
inductive Status
  | ok | adjusted | badLength | unknownKind | badValue | mode | authority | stopped | busy | full | notFound
  | conflict | interlock
  deriving DecidableEq, Repr

/-- The ten event kinds, in the order of R191. -/
inductive EventKind
  | moveEnd | plan | stop | fault | tier | load | enable | stalemate | mode | authority
  deriving DecidableEq, Repr

/-- What raised a TIER event (R186, R192). -/
inductive TierMatter
  | inhibitSet | inhibitCleared | jogEnded | degrade | owed
  deriving DecidableEq, Repr

/-- Why a plan failed or was aborted, in the three forms of R190. -/
inductive PlanReason
  | moveEnd (outcome : MoveOutcome) (reason : Reason)
  | refused (status : Status)
  | aborted (reason : Reason)
  deriving DecidableEq, Repr

/-- What a PLAN event carries beyond plan number and state (R148). -/
inductive PlanDetail
  | plain
  | adjusted (step : Nat) (target : Nat)
  | failed (step : Nat) (reason : PlanReason)
  | aborted (reason : PlanReason)
  deriving DecidableEq, Repr

/-- The outcome record of a move (R35): plan and step stand in it through its origin. -/
structure OutcomeRec where
  number : Nat
  hostTag : Nat
  tier : Tier
  kind : MoveKind
  outcome : MoveOutcome
  reason : Reason
  time : Clock
  origin : Origin
  deriving DecidableEq, Repr

/-- An end that a tier sequencer reports to admission (R35, R66). -/
structure MoveEnd where
  number : Nat
  hostTag : Nat
  tier : Tier
  kind : MoveKind
  outcome : MoveOutcome
  reason : Reason
  origin : Origin
  deriving DecidableEq, Repr

/-- A cause as reported to the stop manager (R152): the fields the reporting block has. -/
structure Cause where
  kind : Kind
  tier : Option Tier
  axis : Option Axis
  served : Served
  demand : Option Int
  actual : Option Int
  /-- the net load that an OVERLOAD report carries (R135) -/
  netLoad : Option Int
  deriving DecidableEq, Repr

/-- An event on its way to the event latch, with what its notice carries (R191, R192). -/
inductive Event
  | moveEnd (record : OutcomeRec)
  | plan (number : PlanNo) (state : PlanState) (detail : PlanDetail)
  | stop (state : StopState) (cause : Option Kind)
  | fault (kind : Kind) (tier : Option Tier) (axis : Option Axis) (tookEffect : Bool)
  | tier (tier : Tier) (matter : TierMatter)
  | load (tier : Tier) (valid occupied : Bool) (net : Int)
  | enable (mode : Mode) (state : TimerState) (lost : Bool)
  | stalemate (pendingCount : Nat)
  | mode (mode : Mode)
  | authority (holder : Option Port)
  deriving DecidableEq, Repr

/-- One encoder read: a count, or a miss (R90). -/
inductive EncoderRead
  | good (count : Count)
  | miss
  deriving DecidableEq, Repr

/-- How a poll ended that was not cut by a held bus: no acknowledge, or three data bytes (R126, R127). -/
inductive PollResult
  | noAck
  | data (first second third : Byte)
  deriving DecidableEq, Repr

/-- The fields of the hall record (R3). -/
structure HallRec where
  capacity : Nat
  bypassLimit : Nat
  releaseMargin : Nat
  tEn : Nat
  tEsc : Nat
  deriving DecidableEq, Repr

/-- The tilt group part of a tier record (R8). -/
structure TiltRec where
  jackMin : Nat
  jackMax : Nat
  stow : Nat
  skewWarn : Nat
  skewTrip : Nat
  ks : Nat
  demandA : Nat
  demandB : Nat
  raised : CellSet
  deriving DecidableEq, Repr

/-- A tier record as SET_TIER sends it (R184): the flag bytes as sent, the load cell list as its bytes. -/
structure TierWrite where
  present : Nat
  travelMin : Int
  travelMax : Int
  lockTime : Nat
  presence : Nat
  overload : Nat
  rotDemand : Nat
  cells : List Nat
  tiltFlag : Nat
  tilt : Option TiltRec
  deriving DecidableEq, Repr

/-- The fields of an axis record (R11). The brake times are in milliseconds, as written. -/
structure AxisRec where
  vLim : Nat
  a : Nat
  aQs : Nat
  kff : Nat
  kp : Nat
  feLimit : Nat
  window : Nat
  settleCount : Nat
  settleTimeout : Nat
  liftTime : Nat
  setTime : Nat
  zero : Nat
  deriving DecidableEq, Repr

/-- A step of PLAN_WRITE, its codes as sent (R190). -/
structure RawStep where
  tier : Nat
  kind : Nat
  target : Nat
  cls : Nat
  cond : Nat
  deriving DecidableEq, Repr

/-- The commands of the part, one constructor for each row of the opcode table. -/
inductive Instr
  | powerOn
  | resetNAssert
  | resetNRelease
  | byteReceived (port : Port) (byte : Byte) (framingError : Bool)
  | gapTimerExpiry (port : Port)
  | frameDispatch (port : Port)
  | transmitDone (port : Port)
  | hallStatus (q : Src)
  | tierStatus (q : Src) (tier : Nat)
  | moveStatus (q : Src) (number : Nat)
  | readCells (q : Src)
  | readTable (q : Src) (selector first second : Nat)
  | planStatus (q : Src) (plan : Nat)
  | readFault (q : Src)
  | takeAuthority (q : Src)
  | forceAuthority (q : Src)
  | giveAuthority (q : Src)
  | enable (q : Src)
  | setModeRun (q : Src)
  | setModeSetup (q : Src) (mode : Nat)
  | restart (q : Src)
  | hold (q : Src)
  | resume (q : Src)
  | stop (q : Src)
  | resetFaultHall (q : Src)
  | resetFaultTier (q : Src) (tier : Nat)
  | move (q : Src) (tier kind target cls hostTag : Nat)
  | cancel (q : Src) (number : Nat)
  | jog (q : Src) (tier target dir : Nat)
  | jogStop (q : Src)
  | setHall (q : Src) (w : HallRec)
  | setTier (q : Src) (tier : Nat) (w : TierWrite)
  | setAxis (q : Src) (axis : Nat) (w : AxisRec)
  | setBand (q : Src) (tier band : Nat) (cells : List Nat)
  | setStation (q : Src) (tier station form : Nat) (angle : Int)
  | setStationHere (q : Src) (tier station : Nat)
  | setPosition (q : Src) (axis : Nat) (value : Int)
  | tare (q : Src) (tier : Nat)
  | planWrite (q : Src) (plan : Nat) (steps : List RawStep)
  | planClear (q : Src) (plan : Nat)
  | planStart (q : Src) (plan : Nat)
  | planAbort (q : Src)
  | setNotices (q : Src) (mask : BitVec 16)
  | clearEvents (q : Src) (mask : BitVec 16)
  | lockInputChange (tier : Tier) (lockIn lockOut : Bool)
  | limitInputChange (axis : Axis) (active : Bool)
  | driveReadyChange (axis : Axis) (ready : Bool)
  | estopInputChange (active : Bool)
  | axisUpdate (axis : Axis) (read : EncoderRead)
  | liftComplete (tier : Tier)
  | setComplete (tier : Tier)
  | settleEnd (axis : Axis)
  | settleTimeout (axis : Axis)
  | pairUpdate (tier : Tier)
  | pairLiftComplete (tier : Tier)
  | pairSetComplete (tier : Tier)
  | jackPositionReport (tier : Tier) (jack : Jack) (position : Int) (valid : Bool)
  | pollSlot
  | pollEnd (result : PollResult)
  | busHeldLow
  | busRecoveryEnd (stillLow : Bool)
  | lockTimerExpiry (tier : Tier)
  | repoweringTimeout
  | enableExpiry
  | escalationExpiry
  | grantPass
  | bandReleaseReport (tier : Tier) (served : Served) (position : Int)
  | stowedChangeReport (tier : Tier) (stowed : Bool)
  | moveEndAtArbiter (tier : Tier) (outcome : MoveOutcome) (entered : Bool) (position : Int)
  | moveEndReport (e : MoveEnd)
  | stepEnd (number : Nat) (outcome : MoveOutcome) (reason : Reason)
  | freedEntry
  | emptyPendingList (reason : Reason)
  | causeReport (cause : Cause)
  | tierCauseReport (tier : Tier) (cause : TierCause) (number : Option Nat)
  | brakedReport (tier : Tier) (braked : Bool)
  | motionReport (tier : Tier) (moving : Bool)
  | travelMarkReport (tier : Tier) (mark : Option Nat)
  | arbiterTripReport
  | holdOrder (tier : Tier)
  | quickStopOrder (tier : Tier)
  | tripOrder (tier : Tier)
  | resumeOrder (tier : Tier)
  | planHoldOrder
  | planResumeOrder
  | planStopOrder (reason : Reason)
  | brakeReleaseOrder (axis : Axis) (served : Served)
  | travelOrder (tier : Tier) (target : Int) (cls : SpeedClass)
  | stopOrder (tier : Tier) (rate : StopRate)
  | brakeApplyOrder (axis : Axis)
  | axisTripOrder (axis : Axis)
  | pairReleaseOrder (tier : Tier) (served : Served)
  | pairTravelOrder (tier : Tier) (target : Int) (cls : SpeedClass)
  | pairStopOrder (tier : Tier) (rate : StopRate)
  | pairApplyOrder (tier : Tier)
  | pairTripOrder (tier : Tier)
  | contactorReport (axis : Axis) (closed : Bool)
  | latchEvent (event : Event)
  deriving DecidableEq, Repr

end Sys2Proof
end

