-- ==== Sys2Proof/Decode.lean ====
section
/-! DEFINITION. The opcode table gives no bits to any of its rows: the part has no instruction words, and a request's
bytes are read by its link port (R184, Machine/Operands.lean). -/

namespace Sys2Proof

/-- No word of the table's bits spells a command. -/
def decodeTableWord (_nbits _w : Nat) : Option Instr := none

end Sys2Proof
end

