-- ==== Sys2Proof/Config.lean ====
section
/-! DEFINITION. The fixed figures of the part: capacities of its lists and queues, and its fixed times. The spec leaves
no value of the part to an implementation, so there is no free value here. -/

namespace Sys2Proof.Config

/-- The pending list holds at most 32 records (R22). -/
def pendingCapacity : Nat := 32
/-- The outcomes list holds at most 16 records (R36). -/
def outcomesCapacity : Nat := 16
/-- A port's input queue holds at most 4 frames (R183). -/
def inputCapacity : Nat := 4
/-- A port's notice queue holds at most 8 notices (R192). -/
def noticeCapacity : Nat := 8
/-- The gap timer drops a frame at 20 ms (R182). -/
def gapLimit : Nat := 20
/-- The repowering timer runs 2 000 ms (R165). -/
def repowerTime : Nat := 2000
/-- The bypass count saturates at 15 (R53). -/
def bypassMax : Nat := 15
/-- The further-fault count saturates at 255 (R150). -/
def furtherMax : Nat := 255
/-- A cell's miss count saturates at 255 (R124). -/
def missMax : Nat := 255
/-- A cell is FAILED from its fourth consecutive miss (R128). -/
def failedMisses : Nat := 4
/-- Speed references lie within -8 191 to +8 191 (R101). -/
def speedMax : Int := 8191
/-- Zero offsets lie within 0 to 16 777 215 (R11). -/
def zeroMax : Nat := 16777215
/-- A plan holds at most 24 steps (R137). -/
def planSteps : Nat := 24
/-- Fine units in a base unit (00_scope, Positions and motion). -/
def fine : Int := 256

end Sys2Proof.Config
end

