-- ==== Sys2Proof/Machine/Arith.lean ====
section
/-! DEFINITION. Plain arithmetic of the part: clamps, bands of rotation, rounding, codes of numbers and axes, and
big-endian bytes. -/

namespace Sys2Proof.Machine

open Sys2Proof

/-- Clamped into [lo, hi]: raised to `lo` first, then lowered to `hi` (R93, R8). -/
def clampInt (lo hi x : Int) : Int := min hi (max lo x)

/-- Clamped into [lo, hi] (R3, R5, R8, R11). -/
def clampNat (lo hi x : Nat) : Nat := min hi (max lo x)

/-- A duration in milliseconds as whole 10 ms updates, rounded up (00_scope, Load and time). -/
def updatesOf (ms : Nat) : Nat := (ms + 9) / 10

/-- Half of `n`, rounded up, or a quarter, rounded up (R47). -/
def shareUp (n d : Nat) : Nat := (n + d - 1) / d

/-- The lower end of band `b` in centidegrees (00_scope, Band of an angle). -/
def bandStart (b : Nat) : Int := -18000 + 1000 * (b : Int)

/-- The band of a rotation position in fine units (R15). -/
def bandOf (p : Int) : Nat :=
  min 35 ((p / Config.fine + 18000) / 1000).toNat

/-- The bands from `s` to `g` inclusive, in the order of the path (R42). -/
def bandsBetween (s g : Nat) : List Nat :=
  if s ≤ g then List.range' s (g + 1 - s) else (List.range' g (s + 1 - g)).reverse

/-- A band clamped into the path from `s` to `g` (R57, R58). -/
def clampBand (s g b : Nat) : Nat := clampNat (min s g) (max s g) b

/-- The direction of a path (R56). -/
def pathDir (s g : Nat) : Dir := if s < g then .up else .down

/-- A position in fine units divided by 256 and rounded to the nearest whole number, a half away from zero (R18). -/
def nearestBase (p : Int) : Int :=
  if 0 ≤ p then (p + 128) / 256 else -((-p + 128) / 256)

/-- The numbers 1 to 8 in order. -/
def Idx8.all : List Idx8 := [.n1, .n2, .n3, .n4, .n5, .n6, .n7, .n8]

/-- The number of an `Idx8`. -/
def Idx8.num : Idx8 → Nat
  | .n1 => 1 | .n2 => 2 | .n3 => 3 | .n4 => 4 | .n5 => 5 | .n6 => 6 | .n7 => 7 | .n8 => 8

/-- The `Idx8` of a number, when it is 1 to 8. -/
def Idx8.ofNat? : Nat → Option Idx8
  | 1 => some .n1 | 2 => some .n2 | 3 => some .n3 | 4 => some .n4
  | 5 => some .n5 | 6 => some .n6 | 7 => some .n7 | 8 => some .n8
  | _ => none

/-- The number of an optional `Idx8`, 0 when absent (R186). -/
def numOr0 (x : Option Idx8) : Nat := (x.map Idx8.num).getD 0

/-- The offset of a role in the axis code (R186). -/
def roleCode : Role → Nat
  | .R => 0 | .A => 1 | .B => 2

/-- The code of an axis (R186). -/
def axisCode (a : Axis) : Nat := (Idx8.num a.tier - 1) * 3 + roleCode a.role

/-- The axes of a tier in the order R, A, B. -/
def axesOf (t : Tier) : List Axis := [⟨t, .R⟩, ⟨t, .A⟩, ⟨t, .B⟩]

/-- The 24 axes in axis order 1R, 1A, 1B, 2R to 8B (R163). -/
def allAxes : List Axis := Idx8.all.flatMap axesOf

/-- The axis of a code, when it is one of the 24 (R186). -/
def axisOfCode? (n : Nat) : Option Axis := allAxes[n]?

/-- The axis of a jack. -/
def jackAxis (t : Tier) : Jack → Axis
  | .A => ⟨t, .A⟩
  | .B => ⟨t, .B⟩

/-- The other jack of a pair. -/
def Jack.other : Jack → Jack
  | .A => .B
  | .B => .A

/-- `n` as `k` bytes, high byte first (R181). -/
def beBytes : Nat → Nat → List Byte
  | 0, _ => []
  | k + 1, n => BitVec.ofNat 8 (n / 256 ^ k) :: beBytes k n

/-- A signed value as `k` bytes in two's complement, high byte first (R181). -/
def beSigned (k : Nat) (x : Int) : List Byte := beBytes k (BitVec.ofInt (8 * k) x).toNat

/-- A flag as one byte (R186). -/
def flagByte (b : Bool) : List Byte := [if b then 1 else 0]

/-- The cells of a set in ascending order. -/
def cellList (c : CellSet) : List Nat := (List.range 64).filter fun i => c.getLsbD i

/-- The number of cells in a set. -/
def cellCount (c : CellSet) : Nat := (cellList c).length

/-- The set of one cell. -/
def cellBit (c : Nat) : CellSet := 1#64 <<< c

/-- The set of the cells in a list. -/
def cellsOf (l : List Nat) : CellSet := l.foldl (fun acc c => acc ||| cellBit c) 0

end Sys2Proof.Machine
end

