-- ==== Sys2Proof/Machine/State.lean ====
section
/-! DEFINITION. The state of the part, block by block, as plain data, and its value after reset. -/

namespace Sys2Proof.Machine

/-- One value for each number 1 to 8 (tiers, stations, plans). -/
structure Eight (α : Type) where
  n1 : α
  n2 : α
  n3 : α
  n4 : α
  n5 : α
  n6 : α
  n7 : α
  n8 : α
  deriving DecidableEq, Repr

/-- One value for each axis of a tier: rotation, jack A, jack B. -/
structure Axes (α : Type) where
  r : α
  a : α
  b : α
  deriving DecidableEq, Repr

/-- One value for each link port, or for each jack. -/
structure Both (α : Type) where
  a : α
  b : α
  deriving DecidableEq, Repr

/-- The same value for each number 1 to 8. -/
def Eight.fill {α : Type} (x : α) : Eight α := ⟨x, x, x, x, x, x, x, x⟩

/-- A running timer: the clock when it was started and its duration in milliseconds. Its expiry is their sum; it has
run out when the time elapsed, wrapping or not, reaches the duration (R177). -/
structure Timer where
  start : Clock
  duration : Nat
  deriving DecidableEq, Repr

/-! ### Hall tables (01) -/

/-- A tier record as stored (R5). -/
structure TierRec where
  present : Bool
  travelMin : Int
  travelMax : Int
  lockTime : Nat
  presence : Nat
  overload : Nat
  cells : List Nat
  rotDemand : Nat
  tilt : Option TiltRec
  deriving DecidableEq, Repr

/-- The five hall tables (R1). -/
structure Tables where
  hall : HallRec
  tiers : Eight TierRec
  axes : Eight (Axes AxisRec)
  bands : Eight (Vector CellSet 36)
  stations : Eight (Eight (Option Int))
  deriving DecidableEq, Repr

/-! ### Admission (02) -/

/-- What a move aims at: a station, or a height in base units (R21). -/
inductive Goal
  | rotate (station : Station)
  | tilt (height : Nat)
  deriving DecidableEq, Repr

/-- A move record (R21). Its state is PENDING in the pending list, ACTIVE or SUSPENDED in a slot. -/
structure MoveRec where
  number : Nat
  hostTag : Nat
  tier : Tier
  goal : Goal
  cls : SpeedClass
  origin : Origin
  time : Clock
  bypass : Nat
  lastRefusal : Option HoldReason
  deriving DecidableEq, Repr

/-- Admission: the pending list, the outcomes list and the allocator's last number (R22, R26, R36). -/
structure Admission where
  waiting : List MoveRec
  outcomes : List OutcomeRec
  lastNumber : Nat
  deriving DecidableEq, Repr

/-! ### Grant arbiter (03) -/

/-- The path of an active move: bands `s` to `g`, and of a ROTATE the next band to be released (R42, R56). -/
structure Path where
  number : Nat
  rotate : Bool
  s : Nat
  g : Nat
  next : Nat
  deriving DecidableEq, Repr

/-- What the arbiter holds for one tier (R40, R47, R56), its mark of an active move (R52) and the stowed condition as
last reported to it (R50). -/
structure Holding where
  band : Option Nat
  standing : CellSet
  reserved : CellSet
  demand : Nat
  active : Bool
  path : Option Path
  stowed : Bool
  deriving DecidableEq, Repr

/-- One owed cell of one tier, with the time at which it joined the owed set (R43). -/
structure OwedClaim where
  tier : Tier
  cell : Nat
  time : Clock
  deriving DecidableEq, Repr

/-- The grant arbiter. `owed` holds the owed claims of all tiers, the oldest first (R43). -/
structure Arbiter where
  tiers : Eight Holding
  owed : List OwedClaim
  passRequested : Bool
  armed : Bool
  deriving DecidableEq, Repr

/-! ### Tier sequencers (04) -/

/-- The active move of a tier (R64). -/
structure Active where
  move : MoveRec
  stage : Stage
  entered : Bool
  context : Option Stage
  fixedEnd : Option (MoveOutcome × Reason)
  /-- SET_BRAKE was entered after a settle timeout (R73) -/
  settleTimedOut : Bool
  /-- its last resume took it out of SUSPENDED with context SETTLE (R83) -/
  fromSettle : Bool
  deriving DecidableEq, Repr

/-- The record of a move whose slot has been emptied, with the stage in which it ended: it stands until admission makes its
outcome record (R35). -/
structure Ending where
  move : MoveRec
  stage : Stage
  deriving DecidableEq, Repr

/-- The events of R86 that end a jog and are kept as its fixed cause (R85). -/
inductive JogEnd
  | jogStop | enableLapse | hold | quickStop | lockConflict | stowLost
  deriving DecidableEq, Repr

/-- The jog context (R85). -/
structure Jog where
  target : JogTarget
  dir : Dir
  stage : Stage
  startLimits : Axes Bool
  cause : Option JogEnd
  deriving DecidableEq, Repr

/-- A tier sequencer (R64), its input levels, and what it has last reported of its tier (R82, R135). -/
structure Seq where
  slot : Option Active
  /-- moves ended here whose end admission has not taken yet, the oldest first (R35, R39; notes/assumptions/46.md) -/
  ending : List Ending
  lockCmd : LockCmd
  lockTimer : Option Timer
  pendingStation : Option Station
  lockIn : Bool
  lockOut : Bool
  lockState : LockState
  station : Option Station
  inhibit : Option TierCause
  jog : Option Jog
  braked : Bool
  toldBraked : Bool
  toldMotion : Bool
  toldTravel : Option Nat
  deriving DecidableEq, Repr

/-! ### Axis controllers (05) and tilt pair units (06) -/

/-- A release point with its direction (R56, R100). -/
structure ReleasePoint where
  position : Int
  dir : Dir
  deriving DecidableEq, Repr

/-- An axis controller (R88), the field inputs it keeps (R92) and the contactor position as last reported (R151). -/
structure AxisCtl where
  count : Option Count
  position : Int
  valid : Bool
  missRun : Nat
  previous : Option Int
  phase : Phase
  served : Served
  demand : Int
  v : Nat
  dir : Dir
  r : Nat
  target : Option Int
  cap : Option Nat
  stopDecel : Option Nat
  phaseCount : Nat
  settleRun : Nat
  settleAge : Nat
  release : Option ReleasePoint
  markFollowing : Bool
  markOverspeed : Bool
  markSoftLimit : Bool
  encoderMiss : Bool
  saturated : Bool
  released : Bool
  speed : Int
  limit : Bool
  ready : Bool
  contactor : Bool
  deriving DecidableEq, Repr

/-- The settle gather of one jack (R112). -/
inductive Gather
  | counting | ended | timedOut
  deriving DecidableEq, Repr

/-- A position as reported, with its validity (R114). -/
structure Reported where
  position : Int
  valid : Bool
  deriving DecidableEq, Repr

/-- A tilt pair unit (R112) and the stowed condition it last reported (R122). -/
structure PairUnit where
  phase : Phase
  served : Served
  demand : Option Int
  v : Nat
  dir : Dir
  r : Nat
  target : Option Int
  cls : Option SpeedClass
  stopDecel : Option Nat
  phaseCount : Nat
  gather : Both Gather
  latest : Both Reported
  skew : Option Int
  degrade : Bool
  markSkew : Bool
  markSevere : Bool
  stowed : Bool
  toldStowed : Bool
  deriving DecidableEq, Repr

/-! ### Load monitor (07) -/

inductive CellState
  | fresh | stale | failed
  deriving DecidableEq, Repr

/-- The record of one load cell (R124). -/
structure LoadCell where
  reading : Option Int
  saturated : Bool
  misses : Nat
  state : CellState
  deriving DecidableEq, Repr

/-- What the load monitor holds for one tier (R124). The in-travel mark carries the travelling move's number (R135). -/
structure TierLoad where
  cells : List LoadCell
  tare : Int
  net : Int
  valid : Bool
  occupied : Bool
  inTravel : Option Nat
  overMark : Bool
  deriving DecidableEq, Repr

/-- The load bus transaction (R124): `lost` is a poll in flight whose cell is no longer configured (R129). -/
inductive Transaction
  | idle
  | poll (tier : Tier) (cell : Nat)
  | lost
  | recovery
  deriving DecidableEq, Repr

/-- The load monitor. `pollAt` is the (tier, cell index) last polled, or none for the start. -/
structure LoadMonitor where
  tiers : Eight TierLoad
  pollAt : Option (Tier × Nat)
  transaction : Transaction
  recoveryOwed : Bool
  deriving DecidableEq, Repr

/-! ### Plans (08) -/

/-- A step of a stored plan (R137). -/
structure PlanStep where
  tier : Tier
  goal : Goal
  cls : SpeedClass
  cond : StartCond
  deriving DecidableEq, Repr

/-- The status of a step of the run context (R139). -/
inductive StepStatus
  | notSubmitted
  | waitingRoom
  | submitted (number : Nat)
  | done
  | endedBad (number : Option Nat)
  deriving DecidableEq, Repr

/-- A step of the run context: its status and its adjusted mark (R139). -/
structure StepRun where
  status : StepStatus
  adjusted : Bool
  deriving DecidableEq, Repr

/-- The plan store and the plan run context (R137, R139). `next` counts steps from 1. -/
structure Plans where
  store : Eight (List PlanStep)
  plan : Option PlanNo
  state : PlanState
  next : Option Nat
  steps : List StepRun
  failing : Option Nat
  reason : Option PlanReason
  deriving DecidableEq, Repr

/-! ### Stop manager (09) -/

/-- The first-fault record (R162). -/
structure FaultRec where
  kind : Kind
  tier : Option Tier
  axis : Option Axis
  number : Option Nat
  demand : Option Int
  actual : Option Int
  time : Clock
  deriving DecidableEq, Repr

/-- The stop manager (R150). An axis's brake and inputs are held by its controller, which reports their changes to the
stop manager in the event of the change. -/
structure StopManager where
  state : StopState
  record : Option FaultRec
  seen : KindSet
  further : Nat
  contactor : Bool
  repower : Option Timer
  braked : Eight Bool
  exempt : Eight (Axes Bool)
  estop : Bool
  /-- the stop entered from CLEAR, HOLDING or HELD has its order to empty the pending list not taken
  yet (R32; notes/assumptions/52.md) -/
  emptying : Bool
  deriving DecidableEq, Repr

/-! ### Mode and authority unit (10) -/

/-- The enable timer (R174). In LAPSED an absent escalation is a spent one. -/
inductive EnableTimer
  | quiet
  | watching (expiry : Timer)
  | lapsed (escalation : Option Timer)
  deriving DecidableEq, Repr

/-- The mode and authority unit (R167, R171, R174). -/
structure Authority where
  mode : Mode
  holder : Option Port
  timer : EnableTimer
  moving : Eight Bool
  deriving DecidableEq, Repr

/-! ### Link ports (11) and event latch (12) -/

/-- The phases of a receiver (R182). -/
inductive RxPhase
  | hunt | length | body | check
  deriving DecidableEq, Repr

/-- A frame without its SYNC, LEN and CRC (R181). -/
structure Frame where
  kind : Byte
  tag : Byte
  payload : List Byte
  deriving DecidableEq, Repr

/-- A receiver: its phase, the bytes since the last SYNC taken, and the milliseconds since the last byte (R180). -/
structure Receiver where
  phase : RxPhase
  buffer : List Byte
  gap : Option Nat
  deriving DecidableEq, Repr

/-- A link port (R180, R192, R193, R194). `sending` holds the bytes of the frame being sent. -/
structure LinkPort where
  rx : Receiver
  input : List Frame
  reply : Option Frame
  notices : List Frame
  enabled : EventSet
  sending : Option (List Byte)
  attn : Bool
  deriving DecidableEq, Repr

/-- Why a step faults: the part has no fault that ends its operation, so no command raises one. -/
inductive Fault
  deriving DecidableEq, Repr

/-- Why a step is refused. -/
inductive Refusal
  /-- Raised by `exec` alone, for a command that has no meaning yet. Safe: the step stops. -/
  | notModelled (mnemonic : String)
  deriving DecidableEq, Repr

/-- The whole part. `mail` holds the reports, orders and events sent by one block and not yet taken by another, the
oldest first; `held` says that RESET_N is held low; `pending` is the queue of commands waiting. -/
structure State where
  tables : Tables
  adm : Admission
  arb : Arbiter
  seqs : Eight Seq
  axes : Eight (Axes AxisCtl)
  pairs : Eight PairUnit
  mon : LoadMonitor
  plans : Plans
  man : StopManager
  auth : Authority
  latched : EventSet
  ports : Both LinkPort
  clock : Clock
  held : Bool
  mail : List Instr
  pending : List Instr
  deriving DecidableEq, Repr

/-! ### The state after reset -/

/-- The defaults of R3. -/
def HallRec.initial : HallRec := ⟨100, 4, 50, 500, 10000⟩

/-- The defaults of R5. -/
def TierRec.initial : TierRec := ⟨false, -18000, 18000, 2000, 100, 20000, [], 0, none⟩

/-- The defaults of R11. -/
def AxisRec.initial : AxisRec := ⟨256, 16, 32, 0, 16, 100, 256, 10, 300, 200, 200, 0⟩

/-- The hall tables after reset (R1). -/
def Tables.initial : Tables where
  hall := HallRec.initial
  tiers := .fill .initial
  axes := .fill ⟨AxisRec.initial, AxisRec.initial, AxisRec.initial⟩
  bands := .fill (Vector.replicate 36 0)
  stations := .fill (.fill none)

/-- A tier's holdings after reset (R40, R63). -/
def Holding.initial : Holding := ⟨none, 0, 0, 0, false, none, true⟩

/-- The arbiter after reset (R63). -/
def Arbiter.initial : Arbiter := ⟨.fill .initial, [], false, false⟩

/-- A sequencer after reset, both lock inputs inactive (R64, R67). -/
def Seq.initial : Seq where
  slot := none
  ending := []
  lockCmd := .engage
  lockTimer := none
  pendingStation := none
  lockIn := false
  lockOut := false
  lockState := .conflicted
  station := none
  inhibit := none
  jog := none
  braked := true
  toldBraked := true
  toldMotion := false
  toldTravel := none

/-- An axis controller after reset, its inputs inactive (R88). -/
def AxisCtl.initial : AxisCtl where
  count := none
  position := 0
  valid := false
  missRun := 0
  previous := none
  phase := .idle
  served := .none
  demand := 0
  v := 0
  dir := .up
  r := 0
  target := none
  cap := none
  stopDecel := none
  phaseCount := 0
  settleRun := 0
  settleAge := 0
  release := none
  markFollowing := false
  markOverspeed := false
  markSoftLimit := false
  encoderMiss := false
  saturated := false
  released := false
  speed := 0
  limit := false
  ready := false
  contactor := false

/-- A pair unit after reset (R112): no tier has a tilt group then, so the tier is stowed. -/
def PairUnit.initial : PairUnit where
  phase := .idle
  served := .none
  demand := none
  v := 0
  dir := .up
  r := 0
  target := none
  cls := none
  stopDecel := none
  phaseCount := 0
  gather := ⟨.counting, .counting⟩
  latest := ⟨⟨0, false⟩, ⟨0, false⟩⟩
  skew := none
  degrade := false
  markSkew := false
  markSevere := false
  stowed := true
  toldStowed := true

/-- A tier's load data after reset (R124). -/
def TierLoad.initial : TierLoad := ⟨[], 0, 0, false, false, none, false⟩

/-- The load monitor after reset (R124). -/
def LoadMonitor.initial : LoadMonitor := ⟨.fill .initial, none, .idle, false⟩

/-- The plan store and run context after reset (R137, R139). -/
def Plans.initial : Plans := ⟨.fill [], none, .idle, none, [], none, none⟩

/-- The first-fault record that power-on and RESET_N write (R150, R162). -/
def FaultRec.powerOn : FaultRec := ⟨.powerOn, none, none, none, none, none, 0⟩

/-- The stop manager after reset with ESTOP inactive (R150): the seen-kinds set holds POWER_ON, of code 20. -/
def StopManager.initial : StopManager where
  state := .tripped
  record := some .powerOn
  seen := 1 <<< 20
  further := 0
  contactor := false
  repower := none
  braked := .fill true
  exempt := .fill ⟨false, false, false⟩
  estop := false
  emptying := false

/-- The mode and authority unit after reset (R167, R171, R174). -/
def Authority.initial : Authority := ⟨.setup, none, .quiet, .fill false⟩

/-- A link port after reset (R180). -/
def LinkPort.initial : LinkPort := ⟨⟨.hunt, [], none⟩, [], none, [], 0, none, false⟩

/-- The part right after power-on or the release of RESET_N (R178), with every field input at its inactive level. -/
def State.reset : State where
  tables := .initial
  adm := ⟨[], [], 0⟩
  arb := .initial
  seqs := .fill .initial
  axes := .fill ⟨.initial, .initial, .initial⟩
  pairs := .fill .initial
  mon := .initial
  plans := .initial
  man := .initial
  auth := .initial
  latched := 0
  ports := ⟨.initial, .initial⟩
  clock := 0
  held := false
  mail := []
  pending := []

end Sys2Proof.Machine
end

