-- ==== Sys2Proof/Machine/Operands.lean ====
section
/-! DEFINITION. The operands of a request: the fields of its payload, the length its kind asks for, and the request a
payload spells (R184, R187, R190); and the values that the codes of R186 stand for. -/

namespace Sys2Proof.Machine

open Sys2Proof

/-! ### Fields of a payload -/

/-- `n` bytes from offset `i` as a number, high byte first (R181). -/
def field (l : List Byte) (i n : Nat) : Nat := ((l.drop i).take n).foldl (fun acc b => acc * 256 + b.toNat) 0

/-- Two bytes from offset `i` as a signed number (R181). -/
def signed16 (l : List Byte) (i : Nat) : Int := (BitVec.ofNat 16 (field l i 2)).toInt

/-- `n` one-byte numbers from offset `i`. -/
def numbers (l : List Byte) (i n : Nat) : List Nat := ((l.drop i).take n).map BitVec.toNat

/-! ### The records that requests carry -/

def hallOf (l : List Byte) : HallRec := ⟨field l 0 2, field l 2 1, field l 3 2, field l 5 2, field l 7 2⟩

def tiltOf (l : List Byte) (i : Nat) : TiltRec where
  jackMin := field l i 2
  jackMax := field l (i + 2) 2
  stow := field l (i + 4) 2
  skewWarn := field l (i + 6) 2
  skewTrip := field l (i + 8) 2
  ks := field l (i + 10) 1
  demandA := field l (i + 11) 2
  demandB := field l (i + 13) 2
  raised := BitVec.ofNat 64 (field l (i + 15) 8)

/-- The tier record of a SET_TIER payload: `k` addresses, then the tilt group flag and, when it is set, the part. -/
def tierOf (l : List Byte) : TierWrite :=
  let k := field l 16 1
  let flag := field l (17 + k) 1
  { present := field l 1 1
    travelMin := signed16 l 2
    travelMax := signed16 l 4
    lockTime := field l 6 2
    presence := field l 8 2
    overload := field l 10 4
    rotDemand := field l 14 2
    cells := numbers l 17 k
    tiltFlag := flag
    tilt := if flag = 1 then some (tiltOf l (18 + k)) else none }

def axisOf (l : List Byte) : AxisRec where
  vLim := field l 1 2
  a := field l 3 1
  aQs := field l 4 1
  kff := field l 5 2
  kp := field l 7 1
  feLimit := field l 8 2
  window := field l 10 2
  settleCount := field l 12 1
  settleTimeout := field l 13 2
  liftTime := field l 15 2
  setTime := field l 17 2
  zero := field l 19 3

def stepOf (l : List Byte) (i : Nat) : RawStep :=
  ⟨field l i 1, field l (i + 1) 1, field l (i + 2) 2, field l (i + 4) 1, field l (i + 5) 1⟩

/-! ### Length and request of a kind (R183, R184) -/

/-- The payload length that a SET_TIER's own counts and flag give: a flag of 1 adds the 23 bytes of the tilt group
part, any other flag byte none. -/
def tierLength (l : List Byte) : Nat :=
  let k := field l 16 1
  if field l (17 + k) 1 = 1 then 41 + k else 18 + k

/-- What a port makes of a frame: a request, or its own answer (R183). -/
inductive Parsed
  | unknownKind
  | badLength
  | request (c : Instr)
  deriving DecidableEq, Repr

/-- A request when the payload has the length given. -/
def ofLength (l : List Byte) (n : Nat) (c : Instr) : Parsed := if l.length = n then .request c else .badLength

/-- The request that a kind code and a payload spell (R184, R187, R190). -/
def parseRequest (q : Src) (kind : Byte) (l : List Byte) : Parsed :=
  match kind.toNat with
  | 0x01 => ofLength l 0 (.hallStatus q)
  | 0x02 => ofLength l 1 (.tierStatus q (field l 0 1))
  | 0x03 => ofLength l 2 (.moveStatus q (field l 0 2))
  | 0x04 => ofLength l 0 (.readCells q)
  | 0x05 => ofLength l 3 (.readTable q (field l 0 1) (field l 1 1) (field l 2 1))
  | 0x06 => ofLength l 1 (.planStatus q (field l 0 1))
  | 0x07 => ofLength l 0 (.readFault q)
  | 0x10 => ofLength l 0 (.takeAuthority q)
  | 0x11 => ofLength l 0 (.forceAuthority q)
  | 0x12 => ofLength l 0 (.giveAuthority q)
  | 0x13 => ofLength l 0 (.enable q)
  | 0x14 => ofLength l 1 (if field l 0 1 = 1 then .setModeRun q else .setModeSetup q (field l 0 1))
  | 0x15 => ofLength l 0 (.restart q)
  | 0x18 => ofLength l 0 (.hold q)
  | 0x19 => ofLength l 0 (.resume q)
  | 0x1A => ofLength l 0 (.stop q)
  | 0x1B => ofLength l 1 (if field l 0 1 = 0 then .resetFaultHall q else .resetFaultTier q (field l 0 1))
  | 0x20 => ofLength l 7 (.move q (field l 0 1) (field l 1 1) (field l 2 2) (field l 4 1) (field l 5 2))
  | 0x21 => ofLength l 2 (.cancel q (field l 0 2))
  | 0x22 => ofLength l 3 (.jog q (field l 0 1) (field l 1 1) (field l 2 1))
  | 0x23 => ofLength l 0 (.jogStop q)
  | 0x28 => ofLength l 9 (.setHall q (hallOf l))
  | 0x29 => ofLength l (tierLength l) (.setTier q (field l 0 1) (tierOf l))
  | 0x2A => ofLength l 22 (.setAxis q (field l 0 1) (axisOf l))
  | 0x2B => ofLength l (3 + field l 2 1) (.setBand q (field l 0 1) (field l 1 1) (numbers l 3 (field l 2 1)))
  | 0x2C =>
    ofLength l 5 (if field l 2 1 = 1 then .setStationHere q (field l 0 1) (field l 1 1)
      else .setStation q (field l 0 1) (field l 1 1) (field l 2 1) (signed16 l 3))
  | 0x2D => ofLength l 3 (.setPosition q (field l 0 1) (signed16 l 1))
  | 0x2E => ofLength l 1 (.tare q (field l 0 1))
  | 0x30 =>
    ofLength l (2 + 6 * field l 1 1)
      (.planWrite q (field l 0 1) ((List.range (field l 1 1)).map fun i => stepOf l (2 + 6 * i)))
  | 0x31 => ofLength l 1 (.planClear q (field l 0 1))
  | 0x32 => ofLength l 1 (.planStart q (field l 0 1))
  | 0x33 => ofLength l 0 (.planAbort q)
  | 0x38 => ofLength l 2 (.setNotices q (BitVec.ofNat 16 (field l 0 2)))
  | 0x39 => ofLength l 2 (.clearEvents q (BitVec.ofNat 16 (field l 0 2)))
  | _ => .unknownKind

/-! ### Values of codes (R186) -/

def kindOfCode? : Nat → Option MoveKind
  | 0 => some .rotate | 1 => some .tilt | _ => none

def classOfCode? : Nat → Option SpeedClass
  | 0 => some .full | 1 => some .reduced | 2 => some .crawl | _ => none

def condOfCode? : Nat → Option StartCond
  | 0 => some .sequential | 1 => some .parallel | 2 => some .barrier | _ => none

def jogTargetOfCode? : Nat → Option JogTarget
  | 0 => some .rotation | 1 => some .pair | _ => none

def dirOfCode? : Nat → Option Dir
  | 0 => some .up | 1 => some .down | _ => none

/-- A move's target from its kind and target field: a station 1 to 8, or a height (R187). -/
def goalOf? (kind : MoveKind) (target : Nat) : Option Goal :=
  match kind with
  | .rotate => (Idx8.ofNat? target).map .rotate
  | .tilt => some (.tilt target)

/-- The source of a request, none for a command that is not a request. -/
def requestSrc : Instr → Option Src
  | .hallStatus q | .tierStatus q _ | .moveStatus q _ | .readCells q | .readTable q _ _ _ | .planStatus q _
  | .readFault q | .takeAuthority q | .forceAuthority q | .giveAuthority q | .enable q | .setModeRun q
  | .setModeSetup q _ | .restart q | .hold q | .resume q | .stop q | .resetFaultHall q | .resetFaultTier q _
  | .move q _ _ _ _ _ | .cancel q _ | .jog q _ _ _ | .jogStop q | .setHall q _ | .setTier q _ _ | .setAxis q _ _
  | .setBand q _ _ _ | .setStation q _ _ _ _ | .setStationHere q _ _ | .setPosition q _ _ | .tare q _
  | .planWrite q _ _ | .planClear q _ | .planStart q _ | .planAbort q | .setNotices q _ | .clearEvents q _ => some q
  | _ => none

end Sys2Proof.Machine
end

