-- ==== Sys2Proof/Machine/Ops.lean ====
section
/-! DEFINITION. The named operations over the state: reading and changing one block's part of it, sending a report,
an order or an event to another block, asking for a grant pass, timers, and the frame every command's meaning has. -/

namespace Sys2Proof.Machine

open Sys2Proof

/-! ### One of eight, one of three, one of two -/

def Eight.get {α : Type} (v : Eight α) : Idx8 → α
  | .n1 => v.n1 | .n2 => v.n2 | .n3 => v.n3 | .n4 => v.n4
  | .n5 => v.n5 | .n6 => v.n6 | .n7 => v.n7 | .n8 => v.n8

def Eight.set {α : Type} (v : Eight α) (i : Idx8) (x : α) : Eight α :=
  match i with
  | .n1 => { v with n1 := x } | .n2 => { v with n2 := x } | .n3 => { v with n3 := x } | .n4 => { v with n4 := x }
  | .n5 => { v with n5 := x } | .n6 => { v with n6 := x } | .n7 => { v with n7 := x } | .n8 => { v with n8 := x }

/-- Each value changed by a function of its number. -/
def Eight.mapIdx {α β : Type} (f : Idx8 → α → β) (v : Eight α) : Eight β :=
  ⟨f .n1 v.n1, f .n2 v.n2, f .n3 v.n3, f .n4 v.n4, f .n5 v.n5, f .n6 v.n6, f .n7 v.n7, f .n8 v.n8⟩

/-- Whether a test holds of all eight. -/
def Eight.all {α : Type} (f : α → Bool) (v : Eight α) : Bool := Idx8.all.all fun i => f (v.get i)

def Axes.get {α : Type} (v : Axes α) : Role → α
  | .R => v.r
  | .A => v.a
  | .B => v.b

def Axes.set {α : Type} (v : Axes α) (i : Role) (x : α) : Axes α :=
  match i with
  | .R => { v with r := x }
  | .A => { v with a := x }
  | .B => { v with b := x }

def Axes.map {α β : Type} (f : α → β) (v : Axes α) : Axes β := ⟨f v.r, f v.a, f v.b⟩

def Both.port {α : Type} (v : Both α) : Port → α
  | .A => v.a
  | .B => v.b

def Both.setPort {α : Type} (v : Both α) (p : Port) (x : α) : Both α :=
  match p with
  | .A => { v with a := x }
  | .B => { v with b := x }

def Both.jack {α : Type} (v : Both α) : Jack → α
  | .A => v.a
  | .B => v.b

def Both.setJack {α : Type} (v : Both α) (j : Jack) (x : α) : Both α :=
  match j with
  | .A => { v with a := x }
  | .B => { v with b := x }

/-! ### Reading the state -/

def State.tier (s : State) (t : Tier) : TierRec := s.tables.tiers.get t
def State.axisRec (s : State) (a : Axis) : AxisRec := (s.tables.axes.get a.tier).get a.role
def State.bandCells (s : State) (t : Tier) (b : Nat) : CellSet := (s.tables.bands.get t).getD b 0
def State.stationAngle (s : State) (t : Tier) (n : Station) : Option Int := (s.tables.stations.get t).get n
def State.holding (s : State) (t : Tier) : Holding := s.arb.tiers.get t
def State.seq (s : State) (t : Tier) : Seq := s.seqs.get t
def State.axis (s : State) (a : Axis) : AxisCtl := (s.axes.get a.tier).get a.role
def State.pair (s : State) (t : Tier) : PairUnit := s.pairs.get t
def State.loadOf (s : State) (t : Tier) : TierLoad := s.mon.tiers.get t
def State.port (s : State) (p : Port) : LinkPort := s.ports.port p

/-- A present axis: tR of a present tier, or a jack of a present tier with a tilt group (R6). -/
def State.axisPresent (s : State) (a : Axis) : Bool :=
  (s.tier a.tier).present && (a.role == .R || (s.tier a.tier).tilt.isSome)

/-- The travel range of an axis in base units: travel min and max, or jack min and max (R93). A jack of a tier with no
tilt group, which is given no orders, has the range of its base unit. -/
def State.axisRange (s : State) (a : Axis) : Int × Int :=
  match a.role with
  | .R => ((s.tier a.tier).travelMin, (s.tier a.tier).travelMax)
  | _ =>
    match (s.tier a.tier).tilt with
    | some g => (g.jackMin, g.jackMax)
    | none => (0, 20000)

/-- A position clamped into an axis's travel range times 256 (R93). -/
def State.clampToTravel (s : State) (a : Axis) (p : Int) : Int :=
  clampInt (Config.fine * (s.axisRange a).1) (Config.fine * (s.axisRange a).2) p

/-- The group figures of a pair: each the smaller of the two jacks' values (R113). -/
def State.groupVLim (s : State) (t : Tier) : Nat := min (s.axisRec ⟨t, .A⟩).vLim (s.axisRec ⟨t, .B⟩).vLim
def State.groupA (s : State) (t : Tier) : Nat := min (s.axisRec ⟨t, .A⟩).a (s.axisRec ⟨t, .B⟩).a
def State.groupAQs (s : State) (t : Tier) : Nat := min (s.axisRec ⟨t, .A⟩).aQs (s.axisRec ⟨t, .B⟩).aQs

/-! ### Changing one part -/

def State.modSeq (s : State) (t : Tier) (f : Seq → Seq) : State :=
  { s with seqs := s.seqs.set t (f (s.seqs.get t)) }

def State.modAxis (s : State) (a : Axis) (f : AxisCtl → AxisCtl) : State :=
  { s with axes := s.axes.set a.tier ((s.axes.get a.tier).set a.role (f ((s.axes.get a.tier).get a.role))) }

def State.modPair (s : State) (t : Tier) (f : PairUnit → PairUnit) : State :=
  { s with pairs := s.pairs.set t (f (s.pairs.get t)) }

def State.modHolding (s : State) (t : Tier) (f : Holding → Holding) : State :=
  { s with arb := { s.arb with tiers := s.arb.tiers.set t (f (s.arb.tiers.get t)) } }

def State.modLoad (s : State) (t : Tier) (f : TierLoad → TierLoad) : State :=
  { s with mon := { s.mon with tiers := s.mon.tiers.set t (f (s.mon.tiers.get t)) } }

def State.modPort (s : State) (p : Port) (f : LinkPort → LinkPort) : State :=
  { s with ports := s.ports.setPort p (f (s.ports.port p)) }

def State.modArb (s : State) (f : Arbiter → Arbiter) : State := { s with arb := f s.arb }
def State.modAdm (s : State) (f : Admission → Admission) : State := { s with adm := f s.adm }
def State.modPlans (s : State) (f : Plans → Plans) : State := { s with plans := f s.plans }
def State.modMan (s : State) (f : StopManager → StopManager) : State := { s with man := f s.man }
def State.modAuth (s : State) (f : Authority → Authority) : State := { s with auth := f s.auth }
def State.modMon (s : State) (f : LoadMonitor → LoadMonitor) : State := { s with mon := f s.mon }
def State.modTables (s : State) (f : Tables → Tables) : State := { s with tables := f s.tables }

/-! ### Sending to another block -/

/-- Send a report, an order or an event to the block that takes it. -/
def State.emit (s : State) (c : Instr) : State := { s with mail := s.mail ++ [c] }

/-- Send one command made from each entry of a list, in the list's order. -/
def State.emitAll (s : State) (cs : List Instr) : State := { s with mail := s.mail ++ cs }

/-- Raise an event: it reaches the event latch as an event of its own (R191). -/
def State.raise (s : State) (e : Event) : State := s.emit (.latchEvent e)

/-- Set the arbiter's pass-requested flag; the pass that it asks for follows (R49). -/
def State.requestPass (s : State) : State :=
  if s.arb.passRequested then s
  else (s.modArb fun x => { x with passRequested := true }).emit .grantPass

/-! ### Timers (R177) -/

def Timer.elapsed (tm : Timer) (now : Clock) : Nat := (now - tm.start).toNat
def Timer.due (tm : Timer) (now : Clock) : Bool := decide (tm.duration ≤ tm.elapsed now)
/-- The milliseconds until the timer runs out (R163). -/
def Timer.left (tm : Timer) (now : Clock) : Nat := tm.duration - tm.elapsed now

/-- Whether an optional timer is running and has run out. -/
def dueTimer (tm : Option Timer) (now : Clock) : Bool :=
  match tm with
  | some x => x.due now
  | none => false

/-! ### The frame of every meaning -/

/-- A command other than a reset: while RESET_N is held low it has no effect (R178); otherwise its effect is `f`. A
report, order or request taken is no longer in flight. -/
def live (c : Instr) (f : State → State) (s : State) : Host.Outcome State Fault Refusal :=
  .next (if s.held then { s with mail := s.mail.erase c } else f { s with mail := s.mail.erase c })

/-- Apply `f` when a test holds. -/
def State.when (s : State) (b : Bool) (f : State → State) : State := if b then f s else s

/-- Apply `f` for each entry of a list in turn. -/
def State.forEach {α : Type} (s : State) (l : List α) (f : α → State → State) : State := l.foldl (fun s x => f x s) s

end Sys2Proof.Machine
end

