-- ==== Sys2Proof/Machine/Flags.lean ====
section
/-! DEFINITION. The conditions and flags the part computes from its state: lock state, motion, stowed, occupied, degrade,
skew, cell ownership, demand, and which requests may be taken. -/

namespace Sys2Proof.Machine

open Sys2Proof

/-! ### Modes, authority, stop state -/

/-- The requesting port holds authority (R171). -/
def State.isHolder (s : State) (q : Src) : Bool := s.auth.holder == some q.port

/-- The requesting port holds authority, or no port does (R164, R173). -/
def State.holderOrNone (s : State) (q : Src) : Bool := s.isHolder q || s.auth.holder.isNone

def State.inSetup (s : State) : Bool := s.auth.mode == .setup
def State.inRun (s : State) : Bool := s.auth.mode == .run
def State.isClear (s : State) : Bool := s.man.state == .clear

/-- The stop states in which admission takes a MOVE (R23, check 3). -/
def admitsMoves : StopState → Bool
  | .clear | .holding | .held => true
  | _ => false

/-! ### Tiers -/

/-- A jog of the tier runs. -/
def Seq.jogging (q : Seq) : Bool := q.jog.isSome

/-- Some jog runs in the hall. -/
def State.jogRuns (s : State) : Bool := Idx8.all.any fun t => (s.seq t).jogging

/-- The tier whose jog runs, if any. -/
def State.joggedTier (s : State) : Option Tier := Idx8.all.find? fun t => (s.seq t).jogging

/-- Some tier has an active move, SUSPENDED ones included. -/
def State.anyActive (s : State) : Bool := Idx8.all.any fun t => (s.seq t).slot.isSome

/-- The number of tiers with an active move (R196). -/
def State.activeCount (s : State) : Nat := (Idx8.all.filter fun t => (s.seq t).slot.isSome).length

/-- A tier is in motion for a table write while a jog of it runs or any of its brake outputs is released (R2). -/
def State.tierBusy (s : State) (t : Tier) : Bool :=
  (s.seq t).jogging || (axesOf t).any fun a => (s.axis a).released

/-- A move's stages of motion (R82). -/
def moveInMotion : Stage → Bool
  | .liftBrake | .travel | .settle | .suspending | .halting => true
  | _ => false

/-- A jog's stages of motion (R82). -/
def jogInMotion : Stage → Bool
  | .liftBrake | .travel | .halting => true
  | _ => false

/-- The tier is in motion, as its sequencer reports it to the enable timer (R82). -/
def Seq.inMotion (q : Seq) : Bool :=
  (match q.slot with | some a => moveInMotion a.stage | none => false) ||
  (match q.jog with | some j => jogInMotion j.stage | none => false)

/-- The number of the active move while it is in TRAVEL (R135). -/
def Seq.travelling (q : Seq) : Option Nat :=
  match q.slot with
  | some a => if a.stage == .travel then some a.move.number else none
  | none => none

/-- The lock state from the two inputs and the transition that runs, if any (R67). -/
def lockStateOf (lockIn lockOut : Bool) (running : Option LockCmd) : LockState :=
  match lockIn, lockOut, running with
  | true, false, none => .engaged
  | true, false, some .withdraw => .withdrawing
  | true, false, some .engage => .engaged
  | false, true, none => .withdrawn
  | false, true, some .withdraw => .withdrawn
  | false, true, some .engage => .engaging
  | false, false, none => .conflicted
  | false, false, some .withdraw => .withdrawing
  | false, false, some .engage => .engaging
  | true, true, _ => .conflicted

/-- The lock transition that runs: the lock timer runs exactly while one does (R68). -/
def Seq.transition (q : Seq) : Option LockCmd := if q.lockTimer.isSome then some q.lockCmd else none

/-! ### Stowed and skew (R10, R113 to R117, R122) -/

/-- A jack is at or below stow height within its window, and its position is valid (R10). -/
def jackLow (g : TiltRec) (window : Nat) (p : Reported) : Bool :=
  p.valid && decide (p.position ≤ (g.stow : Int) * Config.fine + window)

/-- The stowed condition by the test of R10 on the latest reported positions (R122). -/
def State.stowedNow (s : State) (t : Tier) : Bool :=
  match (s.tier t).tilt with
  | none => true
  | some g =>
    jackLow g (s.axisRec ⟨t, .A⟩).window (s.pair t).latest.a && jackLow g (s.axisRec ⟨t, .B⟩).window (s.pair t).latest.b

/-- The skew from the two latest reported positions: A minus B, or unknown (R114). -/
def skewOf (latest : Both Reported) : Option Int :=
  if latest.a.valid && latest.b.valid then some (latest.a.position - latest.b.position) else none

/-- The degrade decision on a known skew (R116). -/
def degradeAfter (warn : Nat) (before : Bool) (skew : Int) : Bool :=
  if before then decide (warn * 128 < skew.natAbs) else decide (warn * 256 ≤ skew.natAbs)

/-- The speed cap of a class under a speed limit (R95). -/
def classCap (vLim : Nat) : SpeedClass → Nat
  | .full => vLim
  | .reduced => max 1 (vLim / 2)
  | .crawl => max 1 (vLim / 8)

/-- The cap in force of a pair: its class cap, halved while degrade is set (R113). -/
def pairCap (vLim : Nat) (cls : SpeedClass) (degrade : Bool) : Nat :=
  if degrade then max 1 (classCap vLim cls / 2) else classCap vLim cls

/-! ### Load (R130 to R132) -/

/-- The load status is VALID: the tier has cells and none is FAILED (R130). -/
def loadValid (cells : List LoadCell) : Bool := !cells.isEmpty && cells.all fun c => c.state != .failed

/-- The sum of the last readings; a cell with none counts 0 (R131). -/
def loadSum (cells : List LoadCell) : Int := (cells.map fun c => c.reading.getD 0).sum

/-- The occupied flag after a recomputation of a VALID tier (R132). -/
def occupiedAfter (threshold : Nat) (before : Bool) (net : Int) : Bool :=
  if before then decide (threshold * 3 / 4 < net.natAbs) else decide (threshold < net.natAbs)

/-! ### Floor cells and power (R40, R42, R47) -/

/-- The cells a tier owns: its standing and its reserved set (R40). -/
def Holding.owns (h : Holding) : CellSet := h.standing ||| h.reserved

/-- The cells owned by tiers other than `t`. -/
def Arbiter.ownedByOthers (x : Arbiter) (t : Tier) : CellSet :=
  Idx8.all.foldl (fun acc u => if u = t then acc else acc ||| (x.tiers.get u).owns) 0

/-- The cells owed to tiers other than `t` (R43). -/
def Arbiter.owedToOthers (x : Arbiter) (t : Tier) : CellSet :=
  x.owed.foldl (fun acc c => if c.tier = t then acc else acc ||| cellBit c.cell) 0

/-- The owed set of a tier (R43). -/
def Arbiter.owedSet (x : Arbiter) (t : Tier) : CellSet :=
  x.owed.foldl (fun acc c => if c.tier = t then acc ||| cellBit c.cell else acc) 0

/-- The cells that tier `t` owns, or that are FREE and owed to no other tier (R41, R50 check 8). -/
def Arbiter.takable (x : Arbiter) (t : Tier) : CellSet :=
  (x.tiers.get t).owns ||| ~~~(x.ownedByOthers t ||| x.owedToOthers t)

/-- The owner of a cell in the floor cell map, or none when it is FREE (R40). -/
def Arbiter.owner (x : Arbiter) (c : Nat) : Option Tier := Idx8.all.find? fun t => (x.tiers.get t).owns.getLsbD c

/-- The tier with the oldest claim owing a cell (R43, R61). -/
def Arbiter.oldestOwed (x : Arbiter) (c : Nat) : Option Tier := (x.owed.find? fun o => o.cell == c).map (·.tier)

/-- Committed power: the sum of the demands of all active moves (R47). -/
def Arbiter.committed (x : Arbiter) : Nat := (Idx8.all.map fun t => (x.tiers.get t).demand).sum

/-- The union of the band table's cells over some bands of a tier. -/
def State.bandUnion (s : State) (t : Tier) (bs : List Nat) : CellSet := bs.foldl (fun acc b => acc ||| s.bandCells t b) 0

/-- The raised set of a tier, empty when it has no tilt group (R9). -/
def State.raisedSet (s : State) (t : Tier) : CellSet :=
  match (s.tier t).tilt with
  | some g => g.raised
  | none => 0

/-- The standing set that the map is built with: the cells of the band of tR's actual position, with the raised set
when the tier is not stowed (R44, R169). -/
def State.standingAtEntry (s : State) (t : Tier) : CellSet :=
  s.bandCells t (bandOf (s.axis ⟨t, .R⟩).position) ||| (if (s.pair t).stowed then 0 else s.raisedSet t)

/-- The share of a rated demand that a speed class takes (R47). -/
def classDemand (rated : Nat) : SpeedClass → Nat
  | .full => rated
  | .reduced => shareUp rated 2
  | .crawl => shareUp rated 4

/-- A move's power demand (R47). -/
def State.demandOf (s : State) (m : MoveRec) : Nat :=
  match m.goal with
  | .rotate _ => classDemand (s.tier m.tier).rotDemand m.cls
  | .tilt _ =>
    match (s.tier m.tier).tilt with
    | some g => classDemand (g.demandA + g.demandB) m.cls
    | none => 0

/-- The band a ROTATE aims at: the band of its station's angle times 256 (R42). -/
def State.goalBand (s : State) (t : Tier) (n : Station) : Nat := bandOf (((s.stationAngle t n).getD 0) * Config.fine)

/-- The path of a move at grant (R42): for a ROTATE the bands from that of tR's actual position to that of the target,
for a TILT the tier's standing band. -/
def State.pathOf (s : State) (m : MoveRec) : Path :=
  let here := bandOf (s.axis ⟨m.tier, .R⟩).position
  match m.goal with
  | .rotate n => ⟨m.number, true, here, s.goalBand m.tier n, here⟩
  | .tilt _ => let b := (s.holding m.tier).band.getD here; ⟨m.number, false, b, b, b⟩

/-- The reserved set of a move (R42): for a ROTATE the cells of every band of its path; for a TILT the raised set when
the start or the target height lies above stow height. -/
def State.reservedFor (s : State) (m : MoveRec) : CellSet :=
  match m.goal with
  | .rotate _ => let p := s.pathOf m; s.bandUnion m.tier (bandsBetween p.s p.g)
  | .tilt h =>
    match (s.tier m.tier).tilt with
    | some g => if !(s.holding m.tier).stowed || decide (g.stow < h) then g.raised else 0
    | none => 0

/-- The axes of a move (R50, check 6). -/
def moveAxes (m : MoveRec) : List Axis :=
  match m.goal with
  | .rotate _ => [⟨m.tier, .R⟩]
  | .tilt _ => [⟨m.tier, .A⟩, ⟨m.tier, .B⟩]

def Goal.kind : Goal → MoveKind
  | .rotate _ => .rotate
  | .tilt _ => .tilt

/-! ### Events (R191, R194) -/

/-- The bit of an event kind (R191). -/
def eventBit : EventKind → Nat
  | .moveEnd => 0 | .plan => 1 | .stop => 2 | .fault => 3 | .tier => 4
  | .load => 5 | .enable => 6 | .stalemate => 7 | .mode => 8 | .authority => 9

/-- The kind of an event. -/
def eventKind : Event → EventKind
  | .moveEnd _ => .moveEnd
  | .plan _ _ _ => .plan
  | .stop _ _ => .stop
  | .fault _ _ _ _ => .fault
  | .tier _ _ => .tier
  | .load _ _ _ _ => .load
  | .enable _ _ _ => .enable
  | .stalemate _ => .stalemate
  | .mode _ => .mode
  | .authority _ => .authority

/-- The set of one event kind. -/
def eventSet (k : EventKind) : EventSet := 1#10 <<< eventBit k

/-- The code of a cause or record kind (R186). -/
def kindCode : Kind → Nat
  | .hold => 1 | .enableLapse => 2 | .stop => 3 | .following => 4 | .overspeed => 5 | .softLimit => 6 | .skew => 7
  | .overload => 8 | .lockLost => 9 | .stowLost => 10 | .estop => 11 | .limitHit => 12 | .driveLost => 13
  | .encoder => 14 | .skewSevere => 15 | .enableLost => 16 | .lockTimeout => 17 | .settleTimeout => 18
  | .lockConflict => 19 | .powerOn => 20 | .restart => 21 | .driveNotReady => 22

/-- The set of one cause or record kind (R190). -/
def kindSet (k : Kind) : KindSet := 1#32 <<< kindCode k

/-- The kind of a tier cause. -/
def tierCauseKind : TierCause → Kind
  | .lockTimeout => .lockTimeout
  | .settleTimeout => .settleTimeout
  | .lockConflict => .lockConflict

/-- The present axes whose limit input is active, in axis order (R163). -/
def State.limitsActive (s : State) : List Axis := allAxes.filter fun a => s.axisPresent a && (s.axis a).limit

/-- The present axes whose drive-ready input is inactive, in axis order (R163). -/
def State.drivesNotReady (s : State) : List Axis := allAxes.filter fun a => s.axisPresent a && !(s.axis a).ready

/-- The stop manager holds every tier as braked (R154, R157). -/
def State.allBraked (s : State) : Bool := s.man.braked.all id

end Sys2Proof.Machine
end

