-- ==== Sys2Proof/Machine/Wire.lean ====
section
/-! DEFINITION. What the part sends: the value codes of R186, the table records, the move and outcome records, the
TIER_STATUS blocks and the notices, as bytes (R185 to R190, R192). -/

namespace Sys2Proof.Machine

open Sys2Proof

/-! ### Value codes (R185, R186) -/

def statusCode : Status → Byte
  | .ok => 0x00 | .adjusted => 0x01 | .badLength => 0x10 | .unknownKind => 0x11 | .badValue => 0x12 | .mode => 0x13
  | .authority => 0x14 | .stopped => 0x15 | .busy => 0x16 | .full => 0x17 | .notFound => 0x18 | .conflict => 0x19
  | .interlock => 0x1A

def kindOfMoveCode : MoveKind → Byte
  | .rotate => 0 | .tilt => 1

def classCode : SpeedClass → Byte
  | .full => 0 | .reduced => 1 | .crawl => 2

def outcomeCode : MoveOutcome → Byte
  | .done => 0 | .cancelled => 1 | .aborted => 2 | .failed => 3

def reasonCode : Reason → Byte
  | .none => 0 | .operator => 1 | .stop => 2 | .trip => 3 | .lockTimeout => 4 | .settleTimeout => 5 | .lockLost => 6
  | .planEnded => 7 | .inhibit => 8

def stageCode : Stage → Byte
  | .withdrawLock => 1 | .liftBrake => 2 | .travel => 3 | .settle => 4 | .setBrake => 5 | .engageLock => 6
  | .suspending => 7 | .halting => 8 | .suspended => 9

def lockStateCode : LockState → Byte
  | .engaged => 0 | .withdrawn => 1 | .withdrawing => 2 | .engaging => 3 | .conflicted => 4

def phaseCode : Phase → Byte
  | .idle => 0 | .lifting => 1 | .travel => 2 | .settle => 3 | .stopping => 4 | .still => 5 | .setting => 6

def cellStateCode : CellState → Byte
  | .fresh => 0 | .stale => 1 | .failed => 2

def modeCode : Mode → Byte
  | .setup => 0 | .run => 1

def condCode : StartCond → Byte
  | .sequential => 0 | .parallel => 1 | .barrier => 2

def stopCode : StopState → Byte
  | .clear => 0 | .holding => 1 | .held => 2 | .stopping => 3 | .stopped => 4 | .tripped => 5 | .repowering => 6

def planCode : PlanState → Byte
  | .idle => 0 | .running => 1 | .held => 2 | .done => 3 | .failed => 4 | .aborted => 5

def stepCode : StepStatus → Byte
  | .notSubmitted => 0 | .waitingRoom => 1 | .submitted _ => 2 | .done => 3 | .endedBad _ => 4

def refusalCode : Option HoldReason → Byte
  | none => 0
  | some .order => 1 | some .tierBusy => 2 | some .load => 3 | some .drive => 4 | some .posture => 5
  | some .cells => 6 | some .power => 7 | some .aged => 8

def holderCode : Option Port → Byte
  | none => 0 | some .A => 1 | some .B => 2

def timerCode : TimerState → Byte
  | .quiet => 0 | .watching => 1 | .lapsed => 2

/-- The inhibit kind as TIER_STATUS sends it (R189). That the TIER notice, for which no rule gives the codes, sends it so too is
the model's choice (notes/assumptions/59.md). -/
def inhibitCode : Option TierCause → Byte
  | none => 0 | some .lockTimeout => 1 | some .settleTimeout => 2 | some .lockConflict => 3

def matterCode : TierMatter → Byte
  | .inhibitSet => 0 | .inhibitCleared => 1 | .jogEnded => 2 | .degrade => 3 | .owed => 4

/-- The state of the enable timer (R174). -/
def EnableTimer.state : EnableTimer → TimerState
  | .quiet => .quiet
  | .watching _ => .watching
  | .lapsed _ => .lapsed

/-- An optional cause or record kind: 0 when there is none (R186). -/
def kindByte (k : Option Kind) : List Byte := beBytes 1 ((k.map kindCode).getD 0)

/-- An optional axis: 0xFF when absent (R190). -/
def axisByte (a : Option Axis) : List Byte := beBytes 1 ((a.map axisCode).getD 0xFF)

/-- An optional tier, station or plan: 0 when absent (R186). -/
def idxByte (i : Option Idx8) : List Byte := beBytes 1 (numOr0 i)

/-- A position, skew, load or tare, four signed bytes (R190). -/
def longBytes (x : Int) : List Byte := beSigned 4 x

/-- A hall clock value (R190). -/
def clockBytes (c : Clock) : List Byte := beBytes 4 c.toNat

/-- A field that may be absent and has 0 among its values: a presence byte, then the field (R190). -/
def presence (x : Option (List Byte)) : List Byte :=
  match x with
  | none => [0]
  | some b => 1 :: b

/-- An event kind set, two bytes (R190). -/
def eventSetBytes (e : EventSet) : List Byte := beBytes 2 e.toNat

/-- A cell set as its membership field, eight bytes (R184). -/
def cellSetBytes (c : CellSet) : List Byte := beBytes 8 c.toNat

/-! ### Table records, as the payload of the request that writes them (R184, R190) -/

def hallBytes (h : HallRec) : List Byte :=
  beBytes 2 h.capacity ++ beBytes 1 h.bypassLimit ++ beBytes 2 h.releaseMargin ++ beBytes 2 h.tEn ++ beBytes 2 h.tEsc

def tiltBytes (g : TiltRec) : List Byte :=
  beBytes 2 g.jackMin ++ beBytes 2 g.jackMax ++ beBytes 2 g.stow ++ beBytes 2 g.skewWarn ++ beBytes 2 g.skewTrip ++
  beBytes 1 g.ks ++ beBytes 2 g.demandA ++ beBytes 2 g.demandB ++ cellSetBytes g.raised

def tierBytes (t : Tier) (r : TierRec) : List Byte :=
  beBytes 1 (Idx8.num t) ++ flagByte r.present ++ beSigned 2 r.travelMin ++ beSigned 2 r.travelMax ++
  beBytes 2 r.lockTime ++ beBytes 2 r.presence ++ beBytes 4 r.overload ++ beBytes 2 r.rotDemand ++
  beBytes 1 r.cells.length ++ r.cells.flatMap (beBytes 1) ++ presence (r.tilt.map tiltBytes)

def axisBytes (a : Axis) (r : AxisRec) : List Byte :=
  beBytes 1 (axisCode a) ++ beBytes 2 r.vLim ++ beBytes 1 r.a ++ beBytes 1 r.aQs ++ beBytes 2 r.kff ++ beBytes 1 r.kp ++
  beBytes 2 r.feLimit ++ beBytes 2 r.window ++ beBytes 1 r.settleCount ++ beBytes 2 r.settleTimeout ++
  beBytes 2 r.liftTime ++ beBytes 2 r.setTime ++ beBytes 3 r.zero

def bandBytes (t : Tier) (b : Nat) (c : CellSet) : List Byte :=
  beBytes 1 (Idx8.num t) ++ beBytes 1 b ++ beBytes 1 (cellCount c) ++ (cellList c).flatMap (beBytes 1)

/-- A station entry: form 0 with its angle, or form CLEAR when it is absent (R190), whose two angle bytes are sent as 0
(the model's choice, notes/assumptions/45.md). -/
def stationBytes (t : Tier) (n : Station) (x : Option Int) : List Byte :=
  beBytes 1 (Idx8.num t) ++ beBytes 1 (Idx8.num n) ++
  (match x with
   | some angle => 0 :: beSigned 2 angle
   | none => 2 :: beSigned 2 0)

/-! ### Moves, outcomes, plans (R38, R149, R187, R188) -/

/-- The target of a move as sent: a station number or a height. -/
def goalValue : Goal → Nat
  | .rotate n => Idx8.num n
  | .tilt h => h

/-- An origin: its code, plan number and step number, the last two 0 for DIRECT. -/
def originBytes : Origin → List Byte
  | .direct => [0, 0, 0]
  | .plan p k => 1 :: (beBytes 1 (Idx8.num p) ++ beBytes 1 k)

/-- The 14 bytes of an outcome record (R188). -/
def outcomeBytes (o : OutcomeRec) : List Byte :=
  beBytes 2 o.number ++ beBytes 2 o.hostTag ++ beBytes 1 (Idx8.num o.tier) ++
  [kindOfMoveCode o.kind, outcomeCode o.outcome, reasonCode o.reason] ++ clockBytes o.time ++
  (match o.origin with
   | .direct => [0, 0]
   | .plan p k => beBytes 1 (Idx8.num p) ++ beBytes 1 k)

/-- The fields of a move that a MOVE_STATUS reply carries for a pending or an active move (R38). -/
def moveBytes (m : MoveRec) : List Byte :=
  beBytes 2 m.hostTag ++ beBytes 1 (Idx8.num m.tier) ++ [kindOfMoveCode m.goal.kind] ++ beBytes 2 (goalValue m.goal) ++
  [classCode m.cls] ++ originBytes m.origin ++ clockBytes m.time ++ beBytes 1 m.bypass

/-- A plan failure reason, two bytes (R190). -/
def planReasonBytes : PlanReason → List Byte
  | .moveEnd o r => [outcomeCode o, reasonCode r]
  | .refused st => [0xFF, statusCode st]
  | .aborted r => [0xFE, reasonCode r]

/-- A stored plan step with every field, as PLAN_WRITE carries it (R190). -/
def stepBytes (p : PlanStep) : List Byte :=
  beBytes 1 (Idx8.num p.tier) ++ [kindOfMoveCode p.goal.kind] ++ beBytes 2 (goalValue p.goal) ++
  [classCode p.cls, condCode p.cond]

/-- A step of the run context: status, move number when SUBMITTED or ENDED_BAD after admission, adjusted mark (R149). -/
def stepRunBytes (r : StepRun) : List Byte :=
  stepCode r.status ::
    (beBytes 2 (match r.status with
      | .submitted n => n
      | .endedBad (some n) => n
      | _ => 0) ++ flagByte r.adjusted)

/-! ### TIER_STATUS (R189) -/

/-- Flags as bits 0, 1, … of one byte. -/
def bitsByte (bs : List Bool) : Byte :=
  BitVec.ofNat 8 (bs.zipIdx.foldl (fun acc (b, i) => if b then acc + 2 ^ i else acc) 0)

def axisBlock (a : Axis) (x : AxisCtl) : List Byte :=
  beBytes 1 (axisCode a) ++ longBytes x.position ++ longBytes x.demand ++ beBytes 2 x.v ++ beSigned 2 x.speed ++
  [phaseCode x.phase, bitsByte [x.valid, x.encoderMiss, x.saturated, x.released, x.limit, x.ready]]

def cellBlock (address : Nat) (c : LoadCell) : List Byte :=
  beBytes 1 address ++ longBytes (c.reading.getD 0) ++ [bitsByte [c.reading.isSome, c.saturated]] ++
  beBytes 1 c.misses ++ [cellStateCode c.state]

def stageByte (x : Option Stage) : List Byte :=
  match x with
  | none => [0]
  | some g => [stageCode g]

/-- The TIER_STATUS reply after its status byte (R189). -/
def tierStatusBytes (s : State) (t : Tier) : List Byte :=
  let rec_ := s.tier t
  let q := s.seq t
  let p := s.pair t
  let l := s.loadOf t
  let present := (axesOf t).filter s.axisPresent
  beBytes 1 (Idx8.num t) ++
  [bitsByte [rec_.present, rec_.tilt.isSome, p.stowed, p.degrade, p.skew.isSome, !l.valid, l.occupied, q.inhibit.isSome],
   lockStateCode q.lockState] ++
  idxByte q.station ++ [inhibitCode q.inhibit] ++
  beBytes 2 ((q.slot.map fun a => a.move.number).getD 0) ++ stageByte (q.slot.map (·.stage)) ++
  stageByte (q.jog.map (·.stage)) ++ beBytes 1 (cellCount (s.holding t).standing) ++ longBytes (p.skew.getD 0) ++
  longBytes l.net ++ longBytes l.tare ++ beBytes 1 present.length ++ present.flatMap (fun a => axisBlock a (s.axis a)) ++
  beBytes 1 rec_.cells.length ++ (rec_.cells.zip l.cells).flatMap (fun (adr, c) => cellBlock adr c)

/-! ### READ_CELLS, READ_FAULT, HALL_STATUS (R61, R163, R196) -/

/-- How the owner of a cell holds it: 1 STANDING, 2 RESERVED, 3 BOTH (R186). -/
def holdingCode (h : Holding) (c : Nat) : Nat :=
  (if h.standing.getLsbD c then 1 else 0) + (if h.reserved.getLsbD c then 2 else 0)

/-- One cell of the map: its owner (0 when FREE), how it is held, and the tier with the oldest claim owing it (R61). -/
def cellEntry (x : Arbiter) (c : Nat) : List Byte :=
  (match x.owner c with
   | none => [0, 0]
   | some t => beBytes 1 (Idx8.num t) ++ beBytes 1 (holdingCode (x.tiers.get t) c)) ++ idxByte (x.oldestOwed c)

def holdingBytes (x : Arbiter) (t : Tier) : List Byte :=
  let h := x.tiers.get t
  beBytes 1 (h.band.getD 0xFF) ++ beBytes 1 (cellCount h.standing) ++ beBytes 1 (cellCount h.reserved) ++
  beBytes 1 (cellCount (x.owedSet t)) ++ beBytes 2 h.demand

/-- The READ_CELLS reply after its status byte (R61): 248 bytes, two more than R181 leaves it, sent whole (the model's choice,
notes/assumptions/6.md). -/
def readCellsBytes (s : State) : List Byte :=
  [modeCode s.auth.mode] ++ (List.range 64).flatMap (cellEntry s.arb) ++ Idx8.all.flatMap (holdingBytes s.arb) ++
  beBytes 2 s.tables.hall.capacity ++ beBytes 2 s.arb.committed ++
  beBytes 2 (s.tables.hall.capacity - s.arb.committed) ++ flagByte s.arb.armed

def faultRecBytes (r : FaultRec) : List Byte :=
  beBytes 1 (kindCode r.kind) ++ idxByte r.tier ++ axisByte r.axis ++ beBytes 2 (r.number.getD 0) ++
  presence (r.demand.map longBytes) ++ presence (r.actual.map longBytes) ++ clockBytes r.time

/-- A list of axes with its one-byte count (R190). -/
def axisListBytes (l : List Axis) : List Byte := beBytes 1 l.length ++ l.flatMap fun a => beBytes 1 (axisCode a)

def readFaultBytes (s : State) : List Byte :=
  [stopCode s.man.state] ++ presence (s.man.record.map faultRecBytes) ++ beBytes 4 s.man.seen.toNat ++
  beBytes 1 s.man.further ++ flagByte s.man.contactor ++ flagByte s.man.estop ++ axisListBytes s.limitsActive ++
  axisListBytes s.drivesNotReady ++ presence (s.man.repower.map fun tm => beBytes 4 (tm.left s.clock))

def hallStatusBytes (s : State) : List Byte :=
  [modeCode s.auth.mode, stopCode s.man.state, holderCode s.auth.holder, timerCode s.auth.timer.state] ++
  beBytes 1 s.adm.waiting.length ++ beBytes 1 s.activeCount ++ [planCode s.plans.state] ++ eventSetBytes s.latched ++
  kindByte (s.man.record.map (·.kind)) ++ clockBytes s.clock

/-- The PLAN_STATUS reply after its status byte (R149): the run context, then the contents of the plan named. With 24 steps
in both it passes the 246 payload bytes of R181 and is sent whole (the model's choice, notes/assumptions/6.md). -/
def planStatusBytes (s : State) (named : Option PlanNo) : List Byte :=
  let c := s.plans
  idxByte c.plan ++ [planCode c.state] ++ beBytes 1 (c.next.getD 0) ++ beBytes 1 (c.failing.getD 0) ++
  (match c.reason with | some r => planReasonBytes r | none => [0, 0]) ++
  beBytes 1 c.steps.length ++ c.steps.flatMap stepRunBytes ++
  (match named with
   | none => []
   | some p => beBytes 1 (c.store.get p).length ++ (c.store.get p).flatMap stepBytes)

/-! ### Notices (R192) -/

/-- The fields of the PLAN notice that R192 lists for one case only: step number and target as stored for an adjusted
submission, failing step and failure reason for FAILED, failure reason for ABORTED. That they are left out altogether in the
other cases, and not sent as absent fields, is the model's choice (notes/assumptions/63.md). -/
def planDetailBytes : PlanDetail → List Byte
  | .plain => []
  | .adjusted k target => beBytes 1 k ++ beBytes 2 target
  | .failed k r => beBytes 1 k ++ planReasonBytes r
  | .aborted r => planReasonBytes r

/-- The payload of an event's notice, fixed as the latch takes the event (R192). A TIER notice reads the tier's figures then
(notes/assumptions/32.md); the status, flag and net load of LOAD, the count of STALEMATE and the figures of every other kind
are those of the raising event, which carries them (the model's choice, notes/assumptions/56.md); so is the inhibit kind of
TIER in the codes of TIER_STATUS (notes/assumptions/59.md). The fields of PLAN that belong to one case stand in that case only
(the model's choice, notes/assumptions/63.md). -/
def noticePayload (s : State) : Event → List Byte
  | .moveEnd o => outcomeBytes o
  | .plan p st d => beBytes 1 (Idx8.num p) ++ [planCode st] ++ planDetailBytes d
  | .stop st k => [stopCode st] ++ kindByte k
  | .fault k t a took => kindByte (some k) ++ idxByte t ++ axisByte a ++ flagByte took
  | .tier t m =>
    beBytes 1 (Idx8.num t) ++ flagByte (s.seq t).inhibit.isSome ++ [inhibitCode (s.seq t).inhibit] ++
    flagByte (s.pair t).degrade ++ stageByte ((s.seq t).jog.map (·.stage)) ++
    beBytes 1 (cellCount (s.arb.owedSet t)) ++ [matterCode m]
  | .load t valid occ net =>
    beBytes 1 (Idx8.num t) ++ flagByte (!valid) ++ flagByte occ ++ longBytes net
  | .enable m st lost => [modeCode m, timerCode st] ++ flagByte lost
  | .stalemate n => beBytes 1 n
  | .mode m => [modeCode m]
  | .authority h => [holderCode h]

/-- The notice frame of an event: KIND 0x60 and its kind's bit, TAG 0 (R191, R192). -/
def noticeOf (s : State) (e : Event) : Frame :=
  ⟨BitVec.ofNat 8 (0x60 + eventBit (eventKind e)), 0, noticePayload s e⟩

end Sys2Proof.Machine
end

