-- ==== Sys2Proof/Machine/Frames.lean ====
section
/-! DEFINITION. Frames and link ports: the CRC, the bytes of a frame, the receiver's scan, the reply slot, the
transmitter, and the frame that every request's meaning has (R180 to R185). -/

namespace Sys2Proof.Machine

open Sys2Proof

/-! ### CRC and frame bytes (R181) -/

/-- The SYNC byte. -/
def syncByte : Byte := 0xA5

/-- One bit of the CRC shift on 0x1021. -/
def crcShift (c : BitVec 16) : BitVec 16 := if c.msb then (c <<< 1) ^^^ 0x1021#16 else c <<< 1

/-- One byte shifted into the CRC, most significant bit first. -/
def crcByte (c : BitVec 16) (b : Byte) : BitVec 16 :=
  (List.range 8).foldl (fun x _ => crcShift x) (c ^^^ ((b.setWidth 16) <<< 8))

/-- The CRC of some bytes, from 0xFFFF. -/
def crc16 (l : List Byte) : BitVec 16 := l.foldl crcByte 0xFFFF#16

/-- The high and low byte of a CRC. -/
def crcBytes (c : BitVec 16) : List Byte := [(c >>> 8).setWidth 8, c.setWidth 8]

/-- The bytes of a frame from SYNC to CRC (R181). A READ_CELLS reply, and a PLAN_STATUS reply of 24 steps twice, is longer
than the 246 payload bytes of R181 by R61, R149 and R190: it is sent whole, with LEN 251 (the model's choice,
notes/assumptions/6.md). No other frame that the part sends is longer than R181 allows. -/
def frameBytes (f : Frame) : List Byte :=
  let body := BitVec.ofNat 8 (f.payload.length + 2) :: f.kind :: f.tag :: f.payload
  syncByte :: (body ++ crcBytes (crc16 body))

/-! ### Reception (R182) -/

/-- What the bytes after a SYNC amount to: a frame still in reception, a whole frame and the bytes after it, or a frame
to be dropped. -/
inductive Reading
  | partway (phase : RxPhase)
  | complete (f : Frame) (rest : List Byte)
  | dropped
  deriving DecidableEq, Repr

/-- Read the bytes after a SYNC: LEN, LEN bytes, then the two CRC bytes. -/
def readAfterSync : List Byte → Reading
  | [] => .partway .length
  | len :: rest =>
    let n := len.toNat
    if n < 2 || 248 < n then .dropped
    else if rest.length < n then .partway .body
    else if rest.length < n + 2 then .partway .check
    else
      let body := rest.take n
      if (rest.drop n).take 2 = crcBytes (crc16 (len :: body)) then
        .complete ⟨body.getD 0 0, body.getD 1 0, body.drop 2⟩ (rest.drop (n + 2))
      else .dropped

/-- Take bytes in HUNT, in order: the phase and buffer they leave and the frames they complete. A dropped frame sends
the receiver back to the byte after its SYNC. `fuel` is at least the number of bytes. -/
def scan : Nat → List Byte → RxPhase × List Byte × List Frame
  | 0, _ => (.hunt, [], [])
  | _ + 1, [] => (.hunt, [], [])
  | fuel + 1, b :: rest =>
    if b ≠ syncByte then scan fuel rest
    else
      match readAfterSync rest with
      | .partway ph => (ph, rest, [])
      | .dropped => scan fuel rest
      | .complete f tail => let r := scan fuel tail; (r.1, r.2.1, f :: r.2.2)

/-- The bytes the receiver holds with its SYNC: none in HUNT. -/
def Receiver.held (r : Receiver) : List Byte :=
  match r.phase with
  | .hunt => []
  | _ => syncByte :: r.buffer

/-- A complete frame joins the input queue when it holds fewer than 4 (R183). -/
def LinkPort.accept (p : LinkPort) (f : Frame) : LinkPort :=
  if p.input.length < Config.inputCapacity then { p with input := p.input ++ [f] } else p

/-- The port after its receiver has taken the bytes `l` from HUNT, with the gap timer at `gap` when a frame is still in
reception. -/
def LinkPort.receive (p : LinkPort) (l : List Byte) (gap : Nat) : LinkPort :=
  let r := scan l.length l
  let p1 := { p with rx := ⟨r.1, r.2.1, if r.1 = .hunt then none else some gap⟩ }
  r.2.2.foldl LinkPort.accept p1

/-- The gap timer has run to 20 ms (R182). -/
def Receiver.gapOut (r : Receiver) : Bool :=
  match r.gap with
  | some g => decide (Config.gapLimit ≤ g)
  | none => false

/-! ### Transmission and dispatch (R183, R185) -/

/-- An idle transmitter takes the reply in the slot or, failing that, the notice at the head of the queue. -/
def LinkPort.pump (p : LinkPort) : LinkPort :=
  match p.sending, p.reply, p.notices with
  | some _, _, _ => p
  | none, some f, _ => { p with sending := some (frameBytes f), reply := none }
  | none, none, f :: rest => { p with sending := some (frameBytes f), notices := rest }
  | none, none, [] => p

/-- A request of the port is on its way to its owning block. -/
def State.awaiting (s : State) (p : Port) : Bool :=
  s.mail.any fun c => match requestSrc c with | some q => q.port == p | none => false

/-- The port may dispatch the head of its input queue (R183). -/
def State.canDispatch (s : State) (p : Port) : Bool :=
  !(s.port p).input.isEmpty && (s.port p).reply.isNone && !s.awaiting p

/-- Let the port dispatch, when it may and no dispatch is on its way already. -/
def State.kick (s : State) (p : Port) : State :=
  if s.canDispatch p && !s.mail.contains (.frameDispatch p) then s.emit (.frameDispatch p) else s

/-- Pump the transmitter of a port, then let the port dispatch. -/
def State.serve (s : State) (p : Port) : State := (s.modPort p LinkPort.pump).kick p

/-- Hand a reply to a port: KIND, TAG and status byte with the fields after it (R185). -/
def State.putReply (s : State) (q : Src) (kind : Byte) (st : Status) (body : List Byte) : State :=
  (s.modPort q.port fun p => { p with reply := some ⟨kind, q.tag, statusCode st :: body⟩ }).serve q.port

/-! ### Requests -/

/-- What an owning block makes of a request: the state after it, the status and the fields of the reply. -/
abbrev Answer := State × Status × List Byte

/-- Answer with a status and the fields after it. -/
def State.answer (s : State) (st : Status) (body : List Byte) : Answer := (s, st, body)

/-- Refuse with the status byte alone; nothing else changes (R185). -/
def State.refuse (s : State) (st : Status) : Answer := (s, st, [])

/-- Refuse AUTHORITY, naming the holder (R171, R173, R185). -/
def State.refuseAuthority (s : State) : Answer := (s, .authority, [holderCode s.auth.holder])

/-- The frame of a request: its owning block acts and hands the reply to the port in the same event (R183). -/
def request (c : Instr) (q : Src) (kind : Byte) (f : State → Answer) (s : State) : Host.Outcome State Fault Refusal :=
  live c (fun s => (f s).1.putReply q (kind + 0x80) (f s).2.1 (f s).2.2) s

/-! ### ATTN (R194) -/

/-- Port `p` judges its ATTN line afresh. -/
def State.judge (s : State) (p : Port) : State :=
  s.modPort p fun x => { x with attn := (s.latched &&& x.enabled) != 0 }

end Sys2Proof.Machine
end

