-- ==== Sys2Proof/Machine/Causes.lean ====
section
/-! DEFINITION. What the stop manager does with a cause: the category table, the entries to a hold, a quick stop and a
trip, and the first-fault record (R151 to R162). -/

namespace Sys2Proof.Machine

open Sys2Proof

/-- The categories of causes, ranked hold, quick, trip (R152). -/
inductive Category
  | hold | quick | trip
  deriving DecidableEq, Repr

/-- The category of a kind; the tier causes and the record kinds have none (R152). -/
def categoryOf : Kind → Option Category
  | .hold | .enableLapse => some .hold
  | .stop | .following | .overspeed | .softLimit | .skew | .overload | .lockLost | .stowLost => some .quick
  | .estop | .limitHit | .driveLost | .encoder | .skewSevere | .enableLost => some .trip
  | .lockTimeout | .settleTimeout | .lockConflict | .powerOn | .restart | .driveNotReady => none

/-- Whether a cause of a category takes effect in a stop state (R153). -/
def takesEffect (st : StopState) : Category → Bool
  | .hold => st == .clear
  | .quick => st == .clear || st == .holding || st == .held
  | .trip => st != .tripped

/-- The stop states in which no fault stands: an entry to STOPPING or TRIPPED from them captures the record (R162). -/
def capturesFrom : StopState → Bool
  | .clear | .holding | .held => true
  | _ => false

/-- A cause with a kind alone. -/
def bareCause (k : Kind) : Cause := ⟨k, none, none, .none, none, none, none⟩

/-- The move number that a cause's served field gives. -/
def servedNumber : Served → Option Nat
  | .move n => some n
  | _ => none

/-- The first-fault record captured from a cause (R162). -/
def recordOf (c : Cause) (now : Clock) : FaultRec :=
  ⟨c.kind, c.tier, c.axis, servedNumber c.served, c.demand, c.actual, now⟩

/-- A change of the stop state that raises the STOP event (R151). -/
def State.setStop (s : State) (st : StopState) (k : Option Kind) : State :=
  (s.modMan fun m => { m with state := st }).raise (.stop st k)

/-- The contactor output set, and its position reported to every axis controller (R151). -/
def State.setContactor (s : State) (closed : Bool) : State :=
  (s.modMan fun m => { m with contactor := closed }).emitAll (allAxes.map fun a => .contactorReport a closed)

/-- A change to CLEAR, reported to the grant arbiter (R151). -/
def State.toClear (s : State) : State := (s.setStop .clear none).requestPass

/-- The record, the seen-kinds set and the count cleared together (R162). -/
def State.clearRecord (s : State) : State := s.modMan fun m => { m with record := none, seen := 0, further := 0 }

/-- HOLDING becomes HELD, and STOPPING becomes STOPPED, once every tier is held as braked (R154, R157). -/
def State.settleStop (s : State) : State :=
  if s.allBraked then
    match s.man.state with
    | .holding => s.setStop .held none
    | .stopping => s.setStop .stopped none
    | _ => s
  else s

/-- Entry to a hold (R154). Its orders go to the sequencers first and then to the plan executor (the model's choice,
notes/assumptions/69.md). -/
def State.enterHold (s : State) (c : Cause) : State :=
  (((s.setStop .holding (some c.kind)).emitAll (Idx8.all.map .holdOrder)).emit .planHoldOrder).settleStop

/-- Entry to a quick stop (R157). Its order to empty the list is on its way to admission (R32). -/
def State.enterQuick (s : State) (c : Cause) : State :=
  let s1 := (s.setStop .stopping (some c.kind)).modMan fun m =>
    { m with record := some (recordOf c s.clock), emptying := true }
  ((s1.emitAll (Idx8.all.map .quickStopOrder)).emitAll [.emptyPendingList .stop, .planStopOrder .stop]).settleStop

/-- Entry to a trip (R159). From CLEAR, HOLDING or HELD its order to empty the list is on its way to admission (R32). -/
def State.enterTrip (s : State) (c : Cause) : State :=
  let captures := capturesFrom s.man.state
  let s1 := (s.setContactor false).setStop .tripped (some c.kind)
  let s2 := s1.modMan fun m =>
    { m with
      repower := none
      record := if captures then some (recordOf c s.clock) else m.record
      emptying := captures || m.emptying }
  (s2.emitAll (Idx8.all.map .tripOrder)).emitAll [.arbiterTripReport, .emptyPendingList .trip, .planStopOrder .trip]

/-- A cause counted: its kind is seen, and it counts as a further fault while a record stands, unless it captures the
record itself (R153). -/
def State.countCause (s : State) (k : Kind) (captures : Bool) : State :=
  s.modMan fun m =>
    { m with
      seen := m.seen ||| kindSet k
      further := if m.record.isSome && !captures then min Config.furtherMax (m.further + 1) else m.further }

/-- The FAULT event, for every cause but the HOLD and STOP requests (R153). -/
def State.raiseFault (s : State) (c : Cause) (took : Bool) : State :=
  if c.kind = .hold ∨ c.kind = .stop then s else s.raise (.fault c.kind c.tier c.axis took)

/-- The stop manager takes a cause (R153). -/
def State.takeCause (s : State) (c : Cause) : State :=
  match categoryOf c.kind with
  | none => (s.countCause c.kind false).raiseFault c false
  | some cat =>
    let took := takesEffect s.man.state cat
    let captures := took && cat != .hold && capturesFrom s.man.state
    let s1 := (s.countCause c.kind captures).raiseFault c took
    if took then
      match cat with
      | .hold => s1.enterHold c
      | .quick => s1.enterQuick c
      | .trip => s1.enterTrip c
    else s1

/-- The cause that an axis gives rise to: its kind, axis, tier, what the axis serves, demand and actual position. -/
def State.axisCause (s : State) (a : Axis) (k : Kind) : Cause :=
  let x := s.axis a
  ⟨k, some a.tier, some a, x.served, some x.demand, some x.position, none⟩

/-- The stop manager holds an axis as exempt from LIMIT_HIT (R150). -/
def State.isExempt (s : State) (a : Axis) : Bool := (s.man.exempt.get a.tier).get a.role

/-- The exemption mark of an axis set or cleared (R150). -/
def State.setExempt (s : State) (a : Axis) (b : Bool) : State :=
  s.modMan fun m => { m with exempt := m.exempt.set a.tier ((m.exempt.get a.tier).set a.role b) }

/-- Every present axis has its drive-ready input active (R165). -/
def State.drivesReady (s : State) : Bool := s.drivesNotReady.isEmpty

/-- The test of REPOWERING (R165): with every drive ready the timer stops, the hall becomes CLEAR and the record, the
seen-kinds set and the count are cleared. -/
def State.testDrives (s : State) : State :=
  if s.man.state = .repowering ∧ s.drivesReady then
    ((s.modMan fun m => { m with repower := none }).clearRecord).toClear
  else s

end Sys2Proof.Machine
end

