-- ==== Sys2Proof/Machine/SeqOps.lean ====
section
/-! DEFINITION. The operations of a tier sequencer: brakes, stages, the lock, tier causes, the end of a move, the jog,
and what it makes of its axes' and pair's reports (04). -/

namespace Sys2Proof.Machine

open Sys2Proof

/-! ### Slot, jog and what the sequencer has told -/

/-- The active move of a tier changed. -/
def State.modActive (s : State) (t : Tier) (f : Active → Active) : State :=
  s.modSeq t fun q => { q with slot := q.slot.map f }

/-- The jog of a tier changed. -/
def State.modJog (s : State) (t : Tier) (f : Jog → Jog) : State :=
  s.modSeq t fun q => { q with jog := q.jog.map f }

/-- The sequencer's reports of its tier, each on a change: braked to the stop manager, motion to the enable timer (R82),
the mark of travel to the load monitor (R135), in this order, which no rule gives (the model's choice,
notes/assumptions/69.md). -/
def State.seqReport (s : State) (t : Tier) : State :=
  let q := s.seq t
  let s1 := if q.braked = q.toldBraked then s else s.emit (.brakedReport t q.braked)
  let s2 := if q.inMotion = q.toldMotion then s1 else s1.emit (.motionReport t q.inMotion)
  let s3 := if q.travelling = q.toldTravel then s2 else s2.emit (.travelMarkReport t q.travelling)
  s3.modSeq t fun q => { q with toldBraked := q.braked, toldMotion := q.inMotion, toldTravel := q.travelling }

/-! ### Brakes -/

/-- Whether the occupant of a tier, its move or its jog, turns it (true) or tilts it. -/
def Seq.turns (q : Seq) : Bool :=
  match q.slot, q.jog with
  | some a, _ => a.move.goal.kind == .rotate
  | none, some j => j.target == .rotation
  | none, none => true

/-- Order the occupant's axes to release their brakes (R71). -/
def State.releaseBrakes (s : State) (t : Tier) (served : Served) : State :=
  let s1 := if (s.seq t).turns then s.emit (.brakeReleaseOrder ⟨t, .R⟩ served) else s.emit (.pairReleaseOrder t served)
  s1.modSeq t fun q => { q with braked := false }

/-- Order the occupant's axes to apply their brakes, unless they are applied already (R74). -/
def State.applyBrakes (s : State) (t : Tier) : State :=
  if (s.seq t).braked then s
  else
    let s1 := if (s.seq t).turns then s.emit (.brakeApplyOrder ⟨t, .R⟩) else s.emit (.pairApplyOrder t)
    s1.modSeq t fun q => { q with braked := true }

/-- Order the occupant's axis or pair to its stop profile (R79, R80, R86). -/
def State.orderStop (s : State) (t : Tier) (rate : StopRate) : State :=
  if (s.seq t).turns then s.emit (.stopOrder t rate) else s.emit (.pairStopOrder t rate)

/-! ### The end of a move and of a jog -/

/-- The end of the active move (R66): the slot is emptied and the end goes to the arbiter, to admission and, for a plan's
move, to the plan executor. The record stands until admission takes the end (R35), and an engagement left running keeps the
move's station (R68). -/
def State.endMove (s : State) (t : Tier) (o : MoveOutcome) (r : Reason) : State :=
  match (s.seq t).slot with
  | none => s
  | some a =>
    let m := a.move
    let left := match m.goal with | .rotate n => some n | .tilt _ => none
    let s1 := s.modSeq t fun q =>
      { q with
        slot := none
        ending := q.ending ++ [⟨m, a.stage⟩]
        pendingStation :=
          if a.stage = .engageLock ∧ q.transition = some .engage then left else q.pendingStation }
    let s2 := s1.emitAll
      [.moveEndAtArbiter t o a.entered (s.axis ⟨t, .R⟩).position,
       .moveEndReport ⟨m.number, m.hostTag, t, m.goal.kind, o, r, m.origin⟩]
    match m.origin with
    | .direct => s2
    | .plan _ _ => s2.emit (.stepEnd m.number o r)

/-- The end of a jog (R85): the exemption marks of its tier's axes are cleared and TIER is raised. -/
def State.endJog (s : State) (t : Tier) : State :=
  ((s.modSeq t fun q => { q with jog := none }).modMan fun m =>
    { m with exempt := m.exempt.set t ⟨false, false, false⟩ }).raise (.tier t .jogEnded)

/-! ### Tier causes (R77) -/

/-- A tier cause of a present tier: it is reported, and sets the inhibit when that is clear. R77 does not say that the order
in which it lists the report, the grant pass and the TIER event is theirs (the model's choice, notes/assumptions/69.md). -/
def State.tierCause (s : State) (t : Tier) (k : TierCause) : State :=
  if (s.tier t).present then
    let q := s.seq t
    let s1 := s.emit (.tierCauseReport t k (q.slot.map fun a => a.move.number))
    if q.inhibit.isSome then s1
    else ((s1.modSeq t fun q => { q with inhibit := some k }).requestPass).raise (.tier t .inhibitSet)
  else s

/-! ### LIFT_BRAKE and TRAVEL -/

/-- A loss of posture of the active move (R76): the cause is reported and the move's end fixed, unless an earlier cause
has fixed it. -/
def State.losePosture (s : State) (t : Tier) (k : Kind) (r : Reason) : State :=
  match (s.seq t).slot with
  | none => s
  | some a =>
    (s.modActive t fun a => { a with fixedEnd := some (a.fixedEnd.getD (.aborted, r)) }).emit
      (.causeReport ⟨k, some t, none, .move a.move.number, none, none, none⟩)

/-- The active move enters LIFT_BRAKE (R71): its posture is checked, and then its brakes are released. -/
def State.enterLift (s : State) (t : Tier) : State :=
  match (s.seq t).slot with
  | none => s
  | some a =>
    let s1 := s.modActive t fun a => { a with stage := .liftBrake, context := none }
    match a.move.goal with
    | .rotate _ =>
      if (s.pair t).toldStowed then s1.releaseBrakes t (.move a.move.number) else s1.losePosture t .stowLost .stop
    | .tilt _ =>
      if (s.seq t).lockState = .engaged then s1.releaseBrakes t (.move a.move.number)
      else s1.losePosture t .lockLost .lockLost

/-- A jog enters LIFT_BRAKE (R85): a rotation jog of a tier that is not stowed ends there, its brakes applied. -/
def State.jogLift (s : State) (t : Tier) : State :=
  match (s.seq t).jog with
  | none => s
  | some j =>
    if j.target = .rotation ∧ !(s.pair t).toldStowed then s.endJog t
    else (s.modJog t fun j => { j with stage := .liftBrake }).releaseBrakes t .jog

/-- The travel end in a direction, in fine units: of tR for a rotation jog, of the jacks for a pair jog (R85). -/
def State.jogEndPosition (s : State) (t : Tier) (j : Jog) : Int :=
  let r := s.axisRange (match j.target with | .rotation => ⟨t, .R⟩ | .pair => ⟨t, .A⟩)
  Config.fine * (match j.dir with | .up => r.2 | .down => r.1)

/-- The lift is complete (R72, R85): the occupant in LIFT_BRAKE with its brakes released enters TRAVEL. `turning` says
which lift it was. -/
def State.liftDone (s : State) (t : Tier) (turning : Bool) : State :=
  let q := s.seq t
  if q.braked || (q.turns != turning) then s
  else
    match q.slot, q.jog with
    | some a, _ =>
      if a.stage = .liftBrake then
        let s1 := s.modActive t fun a => { a with stage := .travel, entered := true }
        match a.move.goal with
        | .rotate n => s1.emit (.travelOrder t (((s.stationAngle t n).getD 0) * Config.fine) a.move.cls)
        | .tilt h => s1.emit (.pairTravelOrder t (h * Config.fine) a.move.cls)
      else s
    | none, some j =>
      if j.stage = .liftBrake then
        let s1 := s.modJog t fun j => { j with stage := .travel }
        let target := s.jogEndPosition t j
        match j.target with
        | .rotation => s1.emit (.travelOrder t target .crawl)
        | .pair => s1.emit (.pairTravelOrder t target .crawl)
      else s
    | none, none => s

/-! ### HALTING -/

/-- The active move enters HALTING with its fixed end (R77, R80). -/
def State.haltMove (s : State) (t : Tier) (e : MoveOutcome × Reason) : State :=
  (s.modActive t fun a => { a with stage := .halting, context := none, fixedEnd := some e }).orderStop t .aqs

/-- The end that a lock conflict gives a move: FAILED, INHIBIT, unless an earlier cause has fixed one (R76, R77). -/
def Active.conflictEnd (a : Active) : MoveOutcome × Reason := a.fixedEnd.getD (.failed, .inhibit)

/-- The end that a quick stop gives a move: ABORTED, STOP, unless R76 has fixed another, which is ABORTED too; the FAILED
of a tier fault (R77) gives way (R80). -/
def Active.stopEnd (a : Active) : MoveOutcome × Reason :=
  match a.fixedEnd with
  | some (.aborted, r) => (.aborted, r)
  | _ => (.aborted, .stop)

/-- The deceleration that the cause of a jog's ending sets (R85). -/
def jogRate : JogEnd → StopRate
  | .jogStop | .enableLapse | .hold => .a
  | .quickStop | .lockConflict | .stowLost => .aqs

/-- A jog enters SET_BRAKE: its brakes are applied; with none released there is no set time to count and it ends. -/
def State.jogSetBrake (s : State) (t : Tier) : State :=
  if (s.seq t).braked then s.endJog t
  else (s.modJog t fun j => { j with stage := .setBrake }).applyBrakes t

/-- An event of R86 other than a trip meets the jog of a tier. -/
def State.haltJog (s : State) (t : Tier) (c : JogEnd) : State :=
  match (s.seq t).jog with
  | none => s
  | some j =>
    match j.stage with
    | .withdrawLock => s.endJog t
    | .liftBrake => (s.modJog t fun j => { j with cause := some c }).jogSetBrake t
    | .travel => (s.modJog t fun j => { j with stage := .halting, cause := some c }).orderStop t (jogRate c)
    | .halting =>
      if jogRate c = .aqs ∧ j.cause.map jogRate = some .a then
        (s.modJog t fun j => { j with cause := some c }).orderStop t .aqs
      else s
    | _ => s

/-! ### The lock (R67 to R69) -/

/-- The lock leaves ENGAGED under a TILT in LIFT_BRAKE, TRAVEL or SETTLE (R76). -/
def Seq.tiltInMotion (q : Seq) : Bool :=
  match q.slot with
  | some a => a.move.goal.kind == .tilt && (a.stage == .liftBrake || a.stage == .travel || a.stage == .settle)
  | none => false

/-- The stage of the active move, if any. -/
def Seq.stage (q : Seq) : Option Stage := q.slot.map (·.stage)

/-- A lock conflict meets the active move (R77). -/
def State.conflictMove (s : State) (t : Tier) : State :=
  match (s.seq t).slot with
  | none => s
  | some a =>
    match a.stage with
    | .withdrawLock | .setBrake | .engageLock | .suspended => (s.applyBrakes t).endMove t .failed .inhibit
    | .liftBrake =>
      (s.applyBrakes t).endMove t a.conflictEnd.1 a.conflictEnd.2
    | .travel | .settle | .suspending => s.haltMove t a.conflictEnd
    | .halting => s

/-- A withdrawal completes (R68, R70): the timer stops, and the occupant waiting in WITHDRAW_LOCK enters LIFT_BRAKE. -/
def State.withdrawalDone (s : State) (t : Tier) : State :=
  let s1 := s.modSeq t fun q => { q with lockTimer := none }
  let q := s1.seq t
  if q.stage = some .withdrawLock then s1.enterLift t
  else if q.slot.isNone ∧ q.jog.map (·.stage) = some .withdrawLock then s1.jogLift t
  else s1

/-- An engagement completes (R68, R69, R75): in ENGAGE_LOCK the move's station becomes the current station and the move
ends DONE; otherwise a pending engagement station becomes the current station. -/
def State.engagementDone (s : State) (t : Tier) : State :=
  let q := s.seq t
  let n :=
    match q.slot with
    | some a => if a.stage = .engageLock then (match a.move.goal with | .rotate n => some n | .tilt _ => none) else q.pendingStation
    | none => q.pendingStation
  let s1 := s.modSeq t fun q =>
    { q with lockTimer := none, station := if n.isSome then n else q.station, pendingStation := none }
  let s2 := s1.when (s.tier t).present State.requestPass
  if q.stage = some .engageLock then s2.endMove t .done .none else s2

/-- The lock state found again from the inputs and the transition (R67), with everything that follows from it: the
completion of the transition, its end in conflict, LOCK_LOST and LOCK_CONFLICT. A change that gives both reports LOCK_LOST
first, an order that R76 and R77 do not give (the model's choice, notes/assumptions/57.md); so is the grant pass asked for
before both (notes/assumptions/69.md), and INHIBIT_SET before the end of the move or JOG_ENDED (notes/assumptions/74.md). -/
def State.refindLock (s : State) (t : Tier) : State :=
  let q := s.seq t
  let new := lockStateOf q.lockIn q.lockOut q.transition
  let left := q.lockState = .engaged ∧ new ≠ .engaged
  let lost := decide left && q.tiltInMotion
  let s1 := s.modSeq t fun q => { q with lockState := new, station := if left then none else q.station }
  let s2 := s1.when ((s.tier t).present && decide (new ≠ q.lockState)) State.requestPass
  let s3 := s2.when lost fun s => s.losePosture t .lockLost .lockLost
  match q.transition, new with
  | some .withdraw, .withdrawn => s3.withdrawalDone t
  | some .engage, .engaged => s3.engagementDone t
  | tr, .conflicted =>
    let s4 := s3.modSeq t fun q =>
      { q with lockTimer := none, pendingStation := if tr.isSome then none else q.pendingStation }
    let into := decide (q.lockState ≠ .conflicted) && (s.tier t).present
    let s5 := s4.when into fun s => s.tierCause t .lockConflict
    let met := into || tr.isSome
    let s6 := s5.when (met && !lost) fun s => s.conflictMove t
    s6.when met fun s => s.haltJog t .lockConflict
  | _, _ => s3

/-- LOCK_CMD set to a command, which starts a lock transition (R68, R69). -/
def State.startLock (s : State) (t : Tier) (c : LockCmd) : State :=
  (s.modSeq t fun q =>
    { q with
      lockCmd := c
      lockTimer := some ⟨s.clock, (s.tier t).lockTime⟩
      station := if c = .withdraw then none else q.station
      pendingStation := if c = .withdraw then none else q.pendingStation }).refindLock t

/-- The occupant of a tier enters WITHDRAW_LOCK (R70). -/
def State.enterWithdraw (s : State) (t : Tier) : State :=
  let s1 := (s.modActive t fun a => { a with stage := .withdrawLock, context := none }).modJog t fun j =>
    { j with stage := .withdrawLock }
  let q := s1.seq t
  match q.lockState with
  | .withdrawn =>
    if q.lockCmd = .engage then s1.startLock t .withdraw
    else if q.slot.isSome then s1.enterLift t
    else s1.jogLift t
  | .withdrawing => s1
  | .engaged | .engaging => s1.startLock t .withdraw
  | .conflicted => if q.slot.isSome then s1.endMove t .failed .inhibit else s1.endJog t

/-- The lock timer runs out before the transition completes (R68, R70, R75, R77, R79). The tier cause with its INHIBIT_SET is
reported before the end of the move or the JOG_ENDED that follows from it (the model's choice, notes/assumptions/74.md). -/
def State.lockTimedOut (s : State) (t : Tier) : State :=
  let q := s.seq t
  let withdrawing := q.lockCmd = .withdraw
  let s1 := s.modSeq t fun q =>
    { q with
      lockTimer := none
      lockCmd := .engage
      pendingStation := if withdrawing then q.pendingStation else none }
  let s2 := s1.tierCause t .lockTimeout
  let waits : Bool :=
    match q.slot with
    | some a =>
      if withdrawing then
        a.stage == .withdrawLock || (a.stage == .suspended && a.context == some .withdrawLock)
      else a.stage == .engageLock
    | none => false
  let s3 := s2.when waits fun s => s.endMove t .failed .lockTimeout
  let s4 := s3.when (decide withdrawing && (q.jog.map (·.stage) == some .withdrawLock)) fun s => s.endJog t
  s4.refindLock t

/-! ### SET_BRAKE and what follows -/

/-- The active move enters ENGAGE_LOCK (R75). -/
def State.enterEngage (s : State) (t : Tier) : State :=
  (s.modActive t fun a => { a with stage := .engageLock }).startLock t .engage

/-- SET_BRAKE completes (R74, R85). `turning` says which set time it was. -/
def State.setDone (s : State) (t : Tier) (turning : Bool) : State :=
  let q := s.seq t
  if q.turns != turning then s
  else
    match q.slot, q.jog with
    | some a, _ =>
      if a.stage ≠ .setBrake then s
      else if a.context.isSome then s.modActive t fun a => { a with stage := .suspended }
      else
        match a.fixedEnd with
        | some e => s.endMove t e.1 e.2
        | none =>
          if a.settleTimedOut then s.endMove t .failed .settleTimeout
          else
            match a.move.goal with
            | .rotate _ => s.enterEngage t
            | .tilt _ => s.endMove t .done .none
    | none, some j => if j.stage = .setBrake then s.endJog t else s
    | none, none => s

/-- The active move enters SET_BRAKE (R74). -/
def State.enterSetBrake (s : State) (t : Tier) : State :=
  (s.modActive t fun a => { a with stage := .setBrake }).applyBrakes t

/-! ### What the axis or the pair reports -/

/-- The tier's active move was suspended in SETTLE when it was last resumed: within its window, it arrives at once (R83). -/
def Seq.resettles (q : Seq) : Bool :=
  match q.slot with
  | some a => a.fromSettle
  | none => false

/-- A valid position lies within the window of an axis about a target (R106). -/
def inWindow (r : AxisRec) (position : Int) (valid : Bool) (target : Int) : Bool :=
  valid && decide ((position - target).natAbs ≤ r.window)

/-- The occupant comes to rest: a move in SUSPENDING or HALTING, or a jog in HALTING, enters SET_BRAKE (R79, R80, R86). -/
def State.seqRest (s : State) (t : Tier) : State :=
  match (s.seq t).slot, (s.seq t).jog with
  | some a, _ => if a.stage = .suspending ∨ a.stage = .halting then s.enterSetBrake t else s
  | none, some j => if j.stage = .halting then s.jogSetBrake t else s
  | none, none => s

/-- Arrival (R72, R85): a move in TRAVEL enters SETTLE; a jog enters SET_BRAKE. -/
def State.seqArrival (s : State) (t : Tier) : State :=
  match (s.seq t).slot, (s.seq t).jog with
  | some a, _ => if a.stage = .travel then s.modActive t fun a => { a with stage := .settle } else s
  | none, some j => if j.stage = .travel ∨ j.stage = .halting then s.jogSetBrake t else s
  | none, none => s

/-- The settle ends (R73): a move in SETTLE enters SET_BRAKE. One that a stop order has overtaken is at rest. -/
def State.seqSettleEnd (s : State) (t : Tier) : State :=
  if (s.seq t).stage = some .settle then s.enterSetBrake t else s.seqRest t

/-- The settle times out (R73): the tier is inhibited and the move marked to fail. -/
def State.seqSettleTimeout (s : State) (t : Tier) : State :=
  if (s.seq t).stage = some .settle then
    ((s.tierCause t .settleTimeout).modActive t fun a => { a with settleTimedOut := true }).enterSetBrake t
  else s.seqRest t

/-- The pair unit reports a change of the stowed condition (R76, R86). -/
def State.seqStowed (s : State) (t : Tier) (stowed : Bool) : State :=
  if stowed then s
  else
    match (s.seq t).slot, (s.seq t).jog with
    | some a, _ =>
      if a.move.goal.kind = .rotate ∧ s.inRun ∧ (a.stage = .liftBrake ∨ a.stage = .travel ∨ a.stage = .settle) then
        s.losePosture t .stowLost .stop
      else s
    | none, some j => if j.target = .rotation then s.haltJog t .stowLost else s
    | none, none => s

/-! ### A granted move -/

/-- The arbiter hands over a granted move (R65): a ROTATE to the current station with the lock ENGAGED ends DONE at once;
any other enters the first stage of its kind. Until admission takes its end, the record of a ROTATE that ends at its grant
carries WITHDRAW_LOCK, the first stage of its kind, though it has entered no stage: the model's choice
(notes/assumptions/46.md). -/
def State.seqTake (s : State) (m : MoveRec) : State :=
  let t := m.tier
  let q : Seq := s.seq t
  let m1 := { m with lastRefusal := none }
  let put (g : Stage) : State := s.modSeq t fun q => { q with slot := some ⟨m1, g, false, none, none, false, false⟩ }
  let s1 :=
    match m.goal with
    | .rotate n =>
      if q.station == some n && q.lockState == LockState.engaged then (put .withdrawLock).endMove t .done .none
      else (put .withdrawLock).enterWithdraw t
    | .tilt _ => (put .liftBrake).enterLift t
  s1.seqReport t

end Sys2Proof.Machine
end

