-- ==== Sys2Proof/Machine/Authority.lean ====
section
/-! DEFINITION. Motion authority and the enable timer (R171 to R176). -/

namespace Sys2Proof.Machine

open Sys2Proof

/-! ### Authority -/

/-- A change of holder, with its AUTHORITY event (R171). -/
def State.setHolder (s : State) (h : Option Port) : State :=
  (s.modAuth fun x => { x with holder := h }).raise (.authority h)

/-- The hall has an active move or a running jog (R172). -/
def State.handsFull (s : State) : Bool := s.anyActive || s.jogRuns

/-- TAKE_AUTHORITY (R171). -/
def execTakeAuthority (q : Src) (s : State) : Host.Outcome State Fault Refusal :=
  request (.takeAuthority q) q 0x10 (fun s =>
    match s.auth.holder with
    | none => (s.setHolder (some q.port)).answer .ok [holderCode (some q.port)]
    | some p => if p = q.port then s.answer .ok [holderCode (some p)] else s.refuseAuthority) s

/-- FORCE_AUTHORITY (R172). -/
def execForceAuthority (q : Src) (s : State) : Host.Outcome State Fault Refusal :=
  request (.forceAuthority q) q 0x11 (fun s =>
    if s.isHolder q then s.answer .ok []
    else if s.handsFull then s.refuse .busy
    else (s.setHolder (some q.port)).answer .ok [holderCode (some q.port)]) s

/-- GIVE_AUTHORITY (R172). -/
def execGiveAuthority (q : Src) (s : State) : Host.Outcome State Fault Refusal :=
  request (.giveAuthority q) q 0x12 (fun s =>
    if !s.isHolder q then s.refuseAuthority
    else if s.handsFull then s.refuse .busy
    else (s.setHolder none).answer .ok []) s

/-! ### The enable timer (R174 to R176) -/

/-- The timer WATCHING with its expiry at the hall clock plus T_EN (R174). -/
def State.watch (s : State) : State :=
  s.modAuth fun x => { x with timer := .watching ⟨s.clock, s.tables.hall.tEn⟩ }

/-- Some tier is reported in motion. -/
def State.someMoving (s : State) : Bool := !(s.auth.moving.all fun b => !b)

/-- An ENABLE from the holder (R174). -/
def State.enableTimer (s : State) : State :=
  match s.auth.timer with
  | .quiet => s
  | .watching _ => s.watch
  | .lapsed _ => if s.someMoving then s.watch else s.modAuth fun x => { x with timer := .quiet }

/-- ENABLE (R174). -/
def execEnable (q : Src) (s : State) : Host.Outcome State Fault Refusal :=
  request (.enable q) q 0x13 (fun s =>
    if !s.isHolder q then s.refuseAuthority
    else s.enableTimer.answer .ok [timerCode s.enableTimer.auth.timer.state]) s

/-- A tier's report of motion or rest (R174). -/
def State.takeMotion (s : State) (t : Tier) (moving : Bool) : State :=
  let s1 := s.modAuth fun x => { x with moving := x.moving.set t moving }
  if s1.someMoving then (if s1.auth.timer = .quiet then s1.watch else s1)
  else s1.modAuth fun x => { x with timer := .quiet }

/-- MOTION_REPORT (R174). -/
def execMotionReport (t : Tier) (moving : Bool) (s : State) : Host.Outcome State Fault Refusal :=
  live (.motionReport t moving) (fun s => s.takeMotion t moving) s

/-- The expiry of WATCHING (R175): in RUN an ENABLE_LAPSE cause, in SETUP the running jog halted; then LAPSED with its
escalation time running, and the ENABLE event. -/
def State.lapse (s : State) : State :=
  let s1 :=
    match s.auth.mode with
    | .run => s.emit (.causeReport (bareCause .enableLapse))
    | .setup =>
      match s.joggedTier with
      | some t => (s.haltJog t .enableLapse).seqReport t
      | none => s
  (s1.modAuth fun x => { x with timer := .lapsed (some ⟨s.clock, s.tables.hall.tEsc⟩) }).raise
    (.enable s.auth.mode .lapsed false)

/-- ENABLE_EXPIRY (R175): it finds nothing to do unless the timer is WATCHING and has run out. -/
def execEnableExpiry (s : State) : Host.Outcome State Fault Refusal :=
  live .enableExpiry (fun s =>
    match s.auth.timer with
    | .watching tm => if tm.due s.clock then s.lapse else s
    | .quiet | .lapsed _ => s) s

/-- The escalation time runs out with motion still present (R176). -/
def State.escalate (s : State) : State :=
  ((s.emit (.causeReport (bareCause .enableLost))).modAuth fun x => { x with timer := .lapsed none }).raise
    (.enable s.auth.mode .lapsed true)

/-- ESCALATION_EXPIRY (R176). -/
def execEscalationExpiry (s : State) : Host.Outcome State Fault Refusal :=
  live .escalationExpiry (fun s =>
    match s.auth.timer with
    | .lapsed (some tm) => if tm.due s.clock && s.someMoving then s.escalate else s
    | .lapsed none | .quiet | .watching _ => s) s

end Sys2Proof.Machine
end

