-- ==== Sys2Proof/Machine/Profile.lean ====
section
/-! DEFINITION. Profile arithmetic: braking distance, the profile step, the stop step and the speed reference (R97 to
R99, R101, R115). -/

namespace Sys2Proof.Machine

open Sys2Proof

/-- The braking distance D(x) under acceleration `a` (R97). -/
def brakeDist (a x : Nat) : Nat :=
  let n := x / a
  n * x - a * n * (n + 1) / 2

/-- The candidate velocities of a profile step, in order (R98). -/
def candidates (a cap v : Nat) : List Nat :=
  if v ≤ cap then [min (v + a) cap, v, v - a] else [max (v - a) cap, v - a]

/-- The velocity a profile step chooses before it creeps: the first candidate that can still come to rest within `r`,
or the larger of v − a and 0 (R98). -/
def chosen (a cap v r : Nat) : Nat :=
  ((candidates a cap v).find? fun c => decide (c + brakeDist a c ≤ r)).getD (v - a)

/-- The velocity of a profile step, a creep included (R98). -/
def stepVelocity (a cap v r : Nat) : Nat :=
  if chosen a cap v r = 0 ∧ 0 < r then min a (min r cap) else chosen a cap v r

/-- A position moved by a distance in a direction. -/
def moved (d : Dir) (p : Int) (s : Nat) : Int :=
  match d with
  | .up => p + s
  | .down => p - s

/-- A profile in motion: demand position, velocity and remaining distance. -/
structure Motion where
  demand : Int
  v : Nat
  r : Nat
  deriving DecidableEq, Repr

/-- One profile step (R98): the step is the smaller of the velocity and the remaining distance, and the velocity is 0
once nothing remains. -/
def profileStep (a cap : Nat) (d : Dir) (m : Motion) : Motion :=
  let c := stepVelocity a cap m.v m.r
  let s := min c m.r
  ⟨moved d m.demand s, if m.r - s = 0 then 0 else c, m.r - s⟩

/-- One stop step (R99). -/
def stopStep (decel : Nat) (d : Dir) (m : Motion) : Motion :=
  let c := m.v - decel
  let s := min c m.r
  ⟨moved d m.demand s, if m.r - s = 0 then 0 else c, m.r - s⟩

/-- The direction from a demand position toward a target (R96, R119); between equal ones it is up, where no rule gives one
(the model's choice, notes/assumptions/60.md). -/
def dirTo (demand target : Int) : Dir := if demand ≤ target then .up else .down

/-- A velocity signed by its direction. -/
def signedV (d : Dir) (v : Nat) : Int :=
  match d with
  | .up => v
  | .down => -v

/-- The skew term of a jack: the skew times Ks, divided by 16 and rounded toward zero (R115). -/
def skewTerm (skew : Int) (ks : Nat) : Int := (skew * ks).tdiv 16

/-- The raw command of an axis (R101): feedforward, feedback, and the skew correction `sk` as it is added. -/
def rawCommand (r : AxisRec) (e v sk : Int) : Int := (v * r.kff).tdiv 256 + (e * r.kp).tdiv 16 + sk

/-- The raw command clamped into −8 191 to +8 191 (R101). -/
def clampSpeed (x : Int) : Int := clampInt (-Config.speedMax) Config.speedMax x

end Sys2Proof.Machine
end

