-- ==== Sys2Proof/Machine/AxisOps.lean ====
section
/-! DEFINITION. The operations of an axis controller: the brake, the encoder read, the advance of the phase, the speed
reference, the checks in motion, and the reports of an update (05). -/

namespace Sys2Proof.Machine

open Sys2Proof

/-! ### Release points (R56, R59, R100) -/

/-- The release point of band `b` in a direction (R56). -/
def State.releasePoint (s : State) (d : Dir) (b : Nat) : ReleasePoint :=
  let m : Int := s.tables.hall.releaseMargin
  match d with
  | .up => ⟨Config.fine * (bandStart (b + 1) + m), .up⟩
  | .down => ⟨Config.fine * (bandStart b - m), .down⟩

/-- The release point of the next band of a path, none when only the last band remains. -/
def State.nextPoint (s : State) (p : Path) : Option ReleasePoint :=
  if p.next = p.g then none else some (s.releasePoint (pathDir p.s p.g) p.next)

/-- The release point that an axis holds as its brake is released: for the ROTATE whose path the arbiter holds, that of the
path's next band, so that after a hold, whose apply order discarded it (R94), it carries on from where it stood (R59). -/
def State.pointAtRelease (s : State) (a : Axis) (served : Served) : Option ReleasePoint :=
  match a.role, (s.holding a.tier).path with
  | .R, some p => if p.rotate ∧ served = .move p.number then s.nextPoint p else (s.axis a).release
  | _, _ => (s.axis a).release

/-! ### Brake (R93, R94) -/

/-- The axis released: BRK_REL energised, the clamped actual position held, LIFTING (R93), with its release point. From here
on the axis serves the move or jog that the order names: R88 does not say when it begins to, so that a release point passed
between the grant and this order is reported with nothing served, and the arbiter ignores it (the model's choice,
notes/assumptions/65.md). -/
def AxisCtl.releaseBrake (x : AxisCtl) (demand : Int) (served : Served) (point : Option ReleasePoint) : AxisCtl :=
  { x with
    released := true, demand := demand, v := 0, phaseCount := 0, phase := .lifting, served := served, release := point
    markFollowing := false, markOverspeed := false, markSoftLimit := false }

/-- The brake applied: speed reference 0, and nothing left of the profile (R94, R105). -/
def AxisCtl.brake (x : AxisCtl) : AxisCtl :=
  { x with
    released := false, speed := 0, saturated := false, v := 0, r := 0, phaseCount := 0, target := none, cap := none
    stopDecel := none, release := none, markFollowing := false, markOverspeed := false, markSoftLimit := false }

/-- What the stop manager finds as a present axis's brake is released (R160). With both causes found at one release
LIMIT_HIT is taken before DRIVE_LOST, an order that R160 does not give (the model's choice, notes/assumptions/54.md). -/
def State.checkRelease (s : State) (a : Axis) : State :=
  if s.axisPresent a then
    let s1 := if (s.axis a).limit && !s.isExempt a then s.takeCause (s.axisCause a .limitHit) else s
    if !(s.axis a).ready then s1.takeCause (s.axisCause a .driveLost) else s1
  else s

/-- A release order, taken in IDLE or SETTING (R93). In another phase the brake stands released already and the order
changes nothing, which R93 leaves open (notes/assumptions/42.md). No sequencer sends an order to an axis that is not present
(R110); one that the environment sends releases its brake, with no presence test (the model's choice,
notes/assumptions/66.md). The lift time and the range are those of the records as they stand at the order (the model's choice,
notes/assumptions/72.md). -/
def State.releaseAxis (s : State) (a : Axis) (served : Served) : State :=
  let x := s.axis a
  if x.phase = .idle ∨ x.phase = .setting then
    let s1 := (s.modAxis a fun x => x.releaseBrake (s.clampToTravel a x.position) served (s.pointAtRelease a served)).checkRelease a
    if a.role = .R ∧ updatesOf (s.axisRec a).liftTime = 0 then s1.emit (.liftComplete a.tier) else s1
  else s

/-- An apply order (R94): in IDLE it changes nothing. The set time is that of the record as it stands at the order (the model's
choice, notes/assumptions/72.md). -/
def State.applyAxis (s : State) (a : Axis) : State :=
  if (s.axis a).phase = .idle then s
  else if updatesOf (s.axisRec a).setTime = 0 then
    let s1 := s.modAxis a fun x => { x.brake with phase := .idle, served := .none }
    if a.role = .R then s1.emit (.setComplete a.tier) else s1
  else s.modAxis a fun x => { x.brake with phase := .setting }

/-- A trip order (R94): in IDLE it changes nothing. -/
def State.tripAxis (s : State) (a : Axis) : State :=
  if (s.axis a).phase = .idle then s
  else s.modAxis a fun x => { x.brake with phase := .idle, served := .none }

/-! ### The update (R89) -/

/-- A good read: the count and the position it gives, valid (R90). -/
def AxisCtl.good (x : AxisCtl) (offset : Nat) (c : Count) : AxisCtl :=
  { x with
    count := some c, position := (c.toNat : Int) - offset, valid := true, missRun := 0, encoderMiss := false }

/-- A missed read: the first keeps the position valid, a further one makes it invalid (R90). Before the first good read the
position stays invalid while the miss run and ENCODER_MISS follow the table (the model's choice, notes/assumptions/47.md). -/
def AxisCtl.miss (x : AxisCtl) : AxisCtl :=
  { x with
    valid := x.valid && x.missRun == 0, missRun := if x.missRun = 0 then 1 else 2, encoderMiss := true }

/-- Step 1 of the update (R90). -/
def AxisCtl.readEncoder (x : AxisCtl) (offset : Nat) (e : EncoderRead) : AxisCtl :=
  match e with
  | .good c => x.good offset c
  | .miss => x.miss

/-- What the advance of the phase gives rise to. -/
inductive PhaseReport
  | none | lift | set | arrival | rest | settleEnd | settleTimeout
  deriving DecidableEq, Repr

/-- The settle count of an update with a valid position (R106, R107). Run and age stand as last counted once SETTLE is left (the
model's choice, notes/assumptions/71.md). -/
def AxisCtl.settleCount (x : AxisCtl) (r : AxisRec) : AxisCtl × PhaseReport :=
  let age := x.settleAge + 1
  let inside := decide ((x.position - x.target.getD x.demand).natAbs ≤ r.window)
  let run := if inside then x.settleRun + 1 else 0
  let x1 := { x with settleRun := run, settleAge := age }
  if r.settleCount ≤ run then ({ x1 with phase := .still }, .settleEnd)
  else if r.settleTimeout ≤ age then ({ x1 with phase := .still }, .settleTimeout)
  else (x1, .none)

/-- The axis enters SETTLE at its target, or STILL for a jog (R98, R106, R109). -/
def AxisCtl.arrive (x : AxisCtl) : AxisCtl :=
  { x with
    v := 0, r := 0, settleRun := 0, settleAge := 0, phase := if x.served = .jog then .still else .settle }

/-- A rotation axis's profile step in TRAVEL (R98). -/
def AxisCtl.travelStep (x : AxisCtl) (r : AxisRec) : AxisCtl × PhaseReport :=
  let m := profileStep r.a (x.cap.getD 1) x.dir ⟨x.demand, x.v, x.r⟩
  let x1 := { x with demand := m.demand, v := m.v, r := m.r }
  if m.r = 0 then (x1.arrive, .arrival) else (x1, .none)

/-- A rotation axis's stop step in STOPPING (R99). An axis that a stop order met in SETTLE, at rest and reported so in the
event of the order, enters STILL at its next update and reports rest again (the model's choice, notes/assumptions/48.md). -/
def AxisCtl.stoppingStep (x : AxisCtl) : AxisCtl × PhaseReport :=
  let m := stopStep (x.stopDecel.getD 1) x.dir ⟨x.demand, x.v, x.r⟩
  let x1 := { x with demand := m.demand, v := m.v, r := m.r }
  if m.v = 0 then ({ x1 with phase := .still }, .rest) else (x1, .none)

/-- What a jack takes of its pair unit's profile: demand, velocity with its direction, remaining distance, target, cap and stop
deceleration as the pair unit holds them (R88, R89, R112). It takes them at its own update in TRAVEL and STOPPING and, by the
model's choice, in the event in which its pair comes to rest (notes/assumptions/27.md). -/
def AxisCtl.follow (x : AxisCtl) (p : PairUnit) (cap : Nat) : AxisCtl :=
  { x with
    demand := p.demand.getD x.demand, v := p.v, dir := p.dir, r := p.r, target := p.target, cap := some cap
    stopDecel := p.stopDecel }

/-- The cap in force of a tier's pair (R113). -/
def State.capOf (s : State) (t : Tier) : Nat :=
  pairCap (s.groupVLim t) ((s.pair t).cls.getD .crawl) (s.pair t).degrade

/-- Step 2 of the update (R89): the phase advances. -/
def State.advance (s : State) (a : Axis) (x : AxisCtl) : AxisCtl × PhaseReport :=
  let r := s.axisRec a
  match x.phase with
  | .idle => (if x.valid then { x with demand := x.position } else x, .none)
  | .lifting =>
    let n := x.phaseCount + 1
    ({ x with phaseCount := n }, if a.role = .R ∧ n = updatesOf r.liftTime then .lift else .none)
  | .setting =>
    let n := x.phaseCount + 1
    if updatesOf r.setTime ≤ n then
      ({ x with phaseCount := n, phase := .idle, served := .none }, if a.role = .R then .set else .none)
    else ({ x with phaseCount := n }, .none)
  | .travel =>
    if !x.valid then (x, .none)
    else if a.role = .R then x.travelStep r
    else (x.follow (s.pair a.tier) (s.capOf a.tier), .none)
  | .stopping =>
    if !x.valid then (x, .none)
    else if a.role = .R then x.stoppingStep
    else (x.follow (s.pair a.tier) (s.capOf a.tier), .none)
  | .settle => if x.valid then x.settleCount r else (x, .none)
  | .still => (x, .none)

/-- The skew correction of an axis as it is added to its command (R101, R115): none for a rotation axis. -/
def State.skewAdded (s : State) (a : Axis) (x : AxisCtl) : Int :=
  match (s.tier a.tier).tilt with
  | none => 0
  | some g =>
    match a.role with
    | .R => 0
    | .A =>
      let o := (s.pair a.tier).latest.b
      if x.valid && o.valid then -skewTerm (x.position - o.position) g.ks else 0
    | .B =>
      let o := (s.pair a.tier).latest.a
      if x.valid && o.valid then skewTerm (o.position - x.position) g.ks else 0

/-- Step 3 of the update (R101): the speed reference and SATURATED. -/
def State.driveAxis (s : State) (a : Axis) (x : AxisCtl) : AxisCtl :=
  if x.released && x.contactor && x.valid && s.axisPresent a then
    let raw := rawCommand (s.axisRec a) (x.demand - x.position) (signedV x.dir x.v) (s.skewAdded a x)
    { x with speed := clampSpeed raw, saturated := decide (clampSpeed raw ≠ raw) }
  else { x with speed := 0, saturated := false }

/-- One check with its mark (R105): whether it is made, whether it finds its fault, and the mark before. It gives the
mark after and whether the cause is reported. -/
def markCheck (made fault mark : Bool) : Bool × Bool := if made then (fault, fault && !mark) else (mark, false)

/-- Step 4 of the update (R102 to R105): the marks after it and the kinds reported. With faults of several checks in one
update FOLLOWING is reported first, then OVERSPEED, then SOFT_LIMIT, an order that R105 does not give (the model's choice,
notes/assumptions/58.md). `before` is the axis as it stood before the update. -/
def State.checkAxis (s : State) (a : Axis) (before : AxisCtl) (wasGood : Bool) (x : AxisCtl) : AxisCtl × List Kind :=
  if !(x.released && s.axisPresent a) then (x, [])
  else
    let r := s.axisRec a
    let range := s.axisRange a
    let f := markCheck (x.contactor && x.valid) (decide (r.feLimit * 256 < (x.demand - x.position).natAbs)) x.markFollowing
    let o := markCheck (x.contactor && wasGood && before.missRun == 0 && before.previous.isSome)
      (decide (r.vLim + r.vLim / 4 < (x.position - before.previous.getD x.position).natAbs)) x.markOverspeed
    let l := markCheck (s.inRun && x.valid)
      (decide (x.position < Config.fine * range.1 - Config.fine) ||
        decide (Config.fine * range.2 + Config.fine < x.position)) x.markSoftLimit
    ({ x with markFollowing := f.1, markOverspeed := o.1, markSoftLimit := l.1 },
      (if f.2 then [Kind.following] else []) ++ (if o.2 then [Kind.overspeed] else []) ++
        (if l.2 then [Kind.softLimit] else []))

/-- The actual position has passed a release point (R100). -/
def ReleasePoint.passed (p : ReleasePoint) (position : Int) : Bool :=
  match p.dir with
  | .up => decide (p.position ≤ position)
  | .down => decide (position < p.position)

/-- The release point of an axis has been passed at an update (R100). -/
def AxisCtl.releasePassed (x : AxisCtl) : Bool :=
  match x.release with
  | some p => x.valid && p.passed x.position
  | none => false

/-- The report of the advance of a phase reaches the sequencer or, for a jack, its pair unit (R89, R107). -/
def State.phaseReport (s : State) (a : Axis) : PhaseReport → State
  | .none => s
  | .lift => s.emit (.liftComplete a.tier)
  | .set => s.emit (.setComplete a.tier)
  | .arrival => (s.seqArrival a.tier).seqReport a.tier
  | .rest => (s.seqRest a.tier).seqReport a.tier
  | .settleEnd => s.emit (.settleEnd a)
  | .settleTimeout => s.emit (.settleTimeout a)

/-- One update of an axis controller (R89): read, advance, speed reference, checks, reports. That the reports of the checks
go out after the update's other reports is the model's choice (notes/assumptions/58.md), and so is the grant pass asked for
before them all (notes/assumptions/69.md). -/
def State.updateAxis (s : State) (a : Axis) (e : EncoderRead) : State :=
  let x0 := s.axis a
  let good := match e with | .good _ => true | .miss => false
  let present := s.axisPresent a
  let x1 := x0.readEncoder (s.axisRec a).zero e
  let adv := s.advance a x1
  let x2 := s.driveAxis a adv.1
  let chk := s.checkAxis a x0 good x2
  let x3 := { chk.1 with previous := if good then some chk.1.position else chk.1.previous }
  let passed := x3.releasePassed
  let x4 := if passed then { x3 with release := none } else x3
  let s1 := s.modAxis a fun _ => x4
  let s2 := s1.when (present && decide (x0.valid ≠ x4.valid)) State.requestPass
  let s3 := s2.when (present && x0.valid && !x4.valid && x4.contactor) fun s =>
    s.emit (.causeReport (s.axisCause a .encoder))
  let s4 :=
    match a.role with
    | .R => s3
    | .A => s3.emit (.jackPositionReport a.tier .A x4.position x4.valid)
    | .B => s3.emit (.jackPositionReport a.tier .B x4.position x4.valid)
  let s5 := s4.phaseReport a adv.2
  let s6 := s5.when passed fun s => s.emit (.bandReleaseReport a.tier x4.served x4.position)
  s6.emitAll (chk.2.map fun k =>
    .causeReport ⟨k, some a.tier, some a, x4.served, some x4.demand, some x4.position, none⟩)

/-! ### A new zero offset (R12, R14, R110) -/

/-- The position moves with a new zero offset at once; the demand and previous positions take the new position. The miss
run and the validity stay. -/
def AxisCtl.rezero (x : AxisCtl) (offset : Nat) : AxisCtl :=
  match x.count with
  | none => x
  | some c =>
    let p : Int := (c.toNat : Int) - offset
    { x with position := p, demand := p, previous := some p }

/-- A jack's position reaches its pair unit (R114). -/
def State.reportJack (s : State) (a : Axis) : State :=
  let x := s.axis a
  match a.role with
  | .R => s
  | .A => s.emit (.jackPositionReport a.tier .A x.position x.valid)
  | .B => s.emit (.jackPositionReport a.tier .B x.position x.valid)

end Sys2Proof.Machine
end

