-- ==== Sys2Proof/Machine/Clock.lean ====
section
/-! DEFINITION. A millisecond of the hall clock: the clock and the running gap timers advance, and every timer that has
run out sends its expiry to its block (R177, R182). -/

namespace Sys2Proof.Machine

open Sys2Proof

/-- A port's gap timer, one millisecond on. -/
def LinkPort.tick (p : LinkPort) : LinkPort := { p with rx := { p.rx with gap := p.rx.gap.map (· + 1) } }

/-- The expiries of the timers that have run out: the lock timers, repowering, the enable period, the escalation time
while motion is present, and the gap timers. That timers which run out in one millisecond send them in this order, the lock
timers in tier order and port A's gap timer before port B's, is the model's choice (notes/assumptions/73.md). -/
def State.expiries (s : State) : List Instr :=
  (Idx8.all.filter fun t => dueTimer (s.seq t).lockTimer s.clock).map .lockTimerExpiry ++
  (if dueTimer s.man.repower s.clock then [.repoweringTimeout] else []) ++
  (match s.auth.timer with
   | .watching tm => if tm.due s.clock then [.enableExpiry] else []
   | .lapsed (some tm) => if tm.due s.clock && s.someMoving then [.escalationExpiry] else []
   | .quiet | .lapsed none => []) ++
  ([Port.A, Port.B].filter fun p => (s.port p).rx.gapOut).map .gapTimerExpiry

/-- One millisecond passes; none does while RESET_N is held low. -/
def State.tick (s : State) : State :=
  if s.held then s
  else
    let s1 := { s with clock := s.clock + 1, ports := ⟨s.ports.a.tick, s.ports.b.tick⟩ }
    s1.emitAll s1.expiries

end Sys2Proof.Machine
end

