-- ==== Sys2Proof/Machine/Admission.lean ====
section
/-! DEFINITION. Admission: numbers, the MOVE request, the pending list, CANCEL, and outcome records (02). -/

namespace Sys2Proof.Machine

open Sys2Proof

/-! ### Move numbers (R26, R27) -/

/-- The number after one, wrapping from 65 535 to 0. -/
def nextAfter (n : Nat) : Nat := if n = 65535 then 0 else n + 1

/-- The numbers in use: of records pending, active or in the outcomes list (R27), and of moves whose end is on its way to
that list (notes/assumptions/46.md). -/
def State.usedNumbers (s : State) : List Nat :=
  s.adm.waiting.map (·.number) ++ Idx8.all.filterMap (fun t => (s.seq t).slot.map fun a => a.move.number) ++
    Idx8.all.flatMap (fun t => (s.seq t).ending.map (·.move.number)) ++ s.adm.outcomes.map (·.number)

/-- The first number from `n` on that is neither 0 nor in use. The search needs one try more than there are numbers to
pass over. -/
def allocate (used : List Nat) : Nat → Nat → Nat
  | 0, n => n
  | fuel + 1, n => if n = 0 ∨ n ∈ used then allocate used fuel (nextAfter n) else n

/-- The next number to be given out (R27). -/
def State.freshNumber (s : State) : Nat :=
  allocate s.usedNumbers (s.usedNumbers.length + 1) (nextAfter s.adm.lastNumber)

/-! ### Outcome records (R35, R36) -/

/-- A record joins the tail of the outcomes list; with 16 held the record at the head is dropped first (R36). -/
def pushOutcome (l : List OutcomeRec) (o : OutcomeRec) : List OutcomeRec :=
  (if l.length < Config.outcomesCapacity then l else l.drop (l.length + 1 - Config.outcomesCapacity)) ++ [o]

/-- Admission records an end and raises MOVE_END with it (R35). -/
def State.recordEnd (s : State) (e : MoveEnd) : State :=
  let o : OutcomeRec := ⟨e.number, e.hostTag, e.tier, e.kind, e.outcome, e.reason, s.clock, e.origin⟩
  (s.modAdm fun x => { x with outcomes := pushOutcome x.outcomes o }).raise (.moveEnd o)

/-- The end of a move record. -/
def MoveRec.ended (m : MoveRec) (o : MoveOutcome) (r : Reason) : MoveEnd :=
  ⟨m.number, m.hostTag, m.tier, m.goal.kind, o, r, m.origin⟩

/-- A change of the pending list reported to the arbiter: the stalemate detector is armed and a pass asked for (R28,
R55). -/
def State.listChanged (s : State) : State := (s.modArb fun x => { x with armed := true }).requestPass

/-- A pending move leaves the list other than by grant and ends (R28, R35): its end is recorded, a plan's step end and
the freed entry are reported, and the arbiter is told. R28 and R35 fix no order of the two reports to the plan executor:
the step end before the freed entry is the model's choice (notes/assumptions/61.md). -/
def State.endPending (s : State) (m : MoveRec) (o : MoveOutcome) (r : Reason) : State :=
  let s1 := (s.modAdm fun x => { x with waiting := x.waiting.filter fun y => y.number != m.number }).recordEnd
    (m.ended o r)
  let s2 :=
    match m.origin with
    | .direct => s1
    | .plan _ _ => s1.emit (.stepEnd m.number o r)
  (s2.emit .freedEntry).listChanged

/-! ### Admission of a move (R23 to R25, R31) -/

/-- The checks 4 to 7 of R23 on a tier and a target, in order; none when all pass. -/
def State.admissionFails (s : State) (t : Tier) (g : Goal) : Option Status :=
  if !(s.tier t).present then some .badValue
  else if g.kind = .tilt ∧ (s.tier t).tilt.isNone then some .badValue
  else if (match g with | .rotate n => (s.stationAngle t n).isNone | .tilt _ => false) then some .notFound
  else if (s.seq t).inhibit.isSome then some .interlock
  else if Config.pendingCapacity ≤ s.adm.waiting.length then some .full
  else none

/-- The target as stored: a height clamped into the jack range (R24). -/
def State.storedGoal (s : State) (t : Tier) (g : Goal) : Goal :=
  match g, (s.tier t).tilt with
  | .tilt h, some p => .tilt (clampNat p.jackMin p.jackMax h)
  | g, _ => g

/-- What admission makes of a submission. -/
inductive Submission
  | refused (st : Status)
  | admitted (m : MoveRec) (adjusted : Bool)
  deriving DecidableEq, Repr

/-- The record of an admitted move (R25). -/
def State.newRecord (s : State) (t : Tier) (g : Goal) (c : SpeedClass) (hostTag : Nat) (o : Origin) : MoveRec :=
  ⟨s.freshNumber, hostTag, t, s.storedGoal t g, c, o, s.clock, 0, none⟩

/-- An admitted move joins the tail of the pending list (R25). -/
def State.appendMove (s : State) (m : MoveRec) : State :=
  (s.modAdm fun x => { x with waiting := x.waiting ++ [m], lastNumber := m.number }).listChanged

/-- Check 3 of R23. A MOVE that a stop has overtaken is taken until admission takes the order to empty the list (R32); a
plan's submission is not (R142, R147). Which order ends that time when several are on their way is the model's reading
(notes/assumptions/52.md). -/
def State.takesMove (s : State) (o : Origin) : Bool :=
  admitsMoves s.man.state ||
    match o with
    | .direct => s.man.emptying
    | .plan _ _ => false

/-- The checks 3 to 7 of R23, and the admission. -/
def State.admitMove (s : State) (t : Tier) (g : Goal) (c : SpeedClass) (hostTag : Nat) (o : Origin) :
    State × Submission :=
  if !s.takesMove o then (s, .refused .stopped)
  else
    match s.admissionFails t g with
    | some st => (s, .refused st)
    | none =>
      let m := s.newRecord t g c hostTag o
      (s.appendMove m, .admitted m (decide (m.goal ≠ g)))

/-- The MOVE answer (R23, R187). -/
def State.moveAnswer (s : State) (q : Src) (tier kind target cls hostTag : Nat) : Answer :=
  if !s.inRun then s.refuse .mode
  else if !s.isHolder q then s.refuseAuthority
  else if !s.takesMove .direct then s.refuse .stopped
  else
    match Idx8.ofNat? tier, (kindOfCode? kind).bind fun k => goalOf? k target, classOfCode? cls with
    | some t, some g, some c =>
      match s.admitMove t g c hostTag .direct with
      | (s1, .refused st) => s1.refuse st
      | (s1, .admitted m adjusted) =>
        s1.answer (if adjusted then .adjusted else .ok)
          (beBytes 2 m.number ++ beBytes 2 m.hostTag ++ beBytes 2 (goalValue m.goal))
    | _, _, _ => s.refuse .badValue

/-- MOVE (R23). -/
def execMove (q : Src) (tier kind target cls hostTag : Nat) (s : State) : Host.Outcome State Fault Refusal :=
  request (.move q tier kind target cls hostTag) q 0x20 (fun s => s.moveAnswer q tier kind target cls hostTag) s

/-- The CANCEL answer (R33). A move that has left its slot is found nowhere until its end is taken: the model's reading
(notes/assumptions/46.md). -/
def State.cancelAnswer (s : State) (q : Src) (n : Nat) : Answer :=
  if !s.isHolder q then s.refuseAuthority
  else if n = 0 then s.refuse .badValue
  else
    match s.adm.waiting.find? fun m => m.number == n with
    | some m => (s.endPending m .cancelled .operator).answer .ok (beBytes 2 m.number ++ beBytes 2 m.hostTag)
    | none =>
      if Idx8.all.any fun t => (s.seq t).slot.any fun a => a.move.number == n then s.refuse .busy
      else s.refuse .notFound

/-- CANCEL (R33). -/
def execCancel (q : Src) (n : Nat) (s : State) : Host.Outcome State Fault Refusal :=
  request (.cancel q n) q 0x21 (fun s => s.cancelAnswer q n) s

/-- The record of an active move ceases to exist as its end is taken (R35). -/
def State.dropEnding (s : State) (t : Tier) (n : Nat) : State :=
  s.modSeq t fun q => { q with ending := q.ending.filter fun e => e.move.number != n }

/-- MOVE_END_REPORT (R35). -/
def execMoveEndReport (e : MoveEnd) (s : State) : Host.Outcome State Fault Refusal :=
  live (.moveEndReport e) (fun s => (s.dropEnding e.tier e.number).recordEnd e) s

/-- EMPTY_PENDING_LIST (R37): every pending move ends CANCELLED, oldest first. From then on a MOVE is refused STOPPED
(R32). -/
def execEmptyPendingList (r : Reason) (s : State) : Host.Outcome State Fault Refusal :=
  live (.emptyPendingList r) (fun s =>
    (s.modMan fun m => { m with emptying := false }).forEach s.adm.waiting fun m s => s.endPending m .cancelled r) s

end Sys2Proof.Machine
end

