-- ==== Sys2Proof/Machine/Axes.lean ====
section
/-! DEFINITION. The axis controllers' commands: the update, the orders of the sequencer and the stop manager, and the
contactor's report (05). -/

namespace Sys2Proof.Machine

open Sys2Proof

/-- AXIS_UPDATE (R89). -/
def execAxisUpdate (a : Axis) (e : EncoderRead) (s : State) : Host.Outcome State Fault Refusal :=
  live (.axisUpdate a e) (fun s => s.updateAxis a e) s

/-- BRAKE_RELEASE_ORDER (R93). -/
def execBrakeReleaseOrder (a : Axis) (served : Served) (s : State) : Host.Outcome State Fault Refusal :=
  live (.brakeReleaseOrder a served) (fun s => s.releaseAxis a served) s

/-- A rotation axis set up for a travel order (R96), with the v_lim of the record as it stands at the order (the model's choice,
notes/assumptions/72.md). -/
def State.travelSetup (s : State) (t : Tier) (target : Int) (cls : SpeedClass) : AxisCtl :=
  let a : Axis := ⟨t, .R⟩
  let x := s.axis a
  let d := s.clampToTravel a x.position
  { x with
    phase := .travel, demand := d, v := 0, r := (target - d).natAbs, dir := dirTo d target, target := some target
    cap := some (classCap (s.axisRec a).vLim cls), stopDecel := none }

/-- A travel order ends in arrival at once: with nothing to travel (R96), or for a move that was suspended in SETTLE and
lies within its window (R83). -/
def State.arrivesAtOnce (s : State) (t : Tier) (x : AxisCtl) (target : Int) : Bool :=
  x.r == 0 || ((s.seq t).resettles && inWindow (s.axisRec ⟨t, .R⟩) x.position x.valid target)

/-- A travel order (R96): arrival at once is reported in the event of the order, with the target as demand. -/
def State.travelAxis (s : State) (t : Tier) (target : Int) (cls : SpeedClass) : State :=
  let x := s.travelSetup t target cls
  if s.arrivesAtOnce t x target then
    ((s.modAxis ⟨t, .R⟩ fun _ => { x.arrive with demand := target }).seqArrival t).seqReport t
  else s.modAxis ⟨t, .R⟩ fun _ => x

/-- TRAVEL_ORDER (R96). -/
def execTravelOrder (t : Tier) (target : Int) (cls : SpeedClass) (s : State) : Host.Outcome State Fault Refusal :=
  live (.travelOrder t target cls) (fun s => s.travelAxis t target cls) s

/-- A stop order by phase (R99). In SETTLE it ends the counting; settle run and settle age, which R106 discards with the phase,
stand as last counted until the next arrival, the model's choice (notes/assumptions/71.md). -/
def State.stopAxis (s : State) (t : Tier) (rate : StopRate) : State :=
  let a : Axis := ⟨t, .R⟩
  let r := s.axisRec a
  let d := match rate with | .a => r.a | .aqs => r.aQs
  match (s.axis a).phase with
  | .travel => s.modAxis a fun x => { x with phase := .stopping, stopDecel := some d }
  | .settle =>
    ((s.modAxis a fun x => { x with phase := .stopping, stopDecel := some d, v := 0 }).seqRest t).seqReport t
  | .stopping =>
    s.modAxis a fun x => { x with stopDecel := if x.stopDecel.getD 0 < d then some d else x.stopDecel }
  | .idle | .lifting | .still | .setting => s

/-- STOP_ORDER (R99). -/
def execStopOrder (t : Tier) (rate : StopRate) (s : State) : Host.Outcome State Fault Refusal :=
  live (.stopOrder t rate) (fun s => s.stopAxis t rate) s

/-- BRAKE_APPLY_ORDER (R94). -/
def execBrakeApplyOrder (a : Axis) (s : State) : Host.Outcome State Fault Refusal :=
  live (.brakeApplyOrder a) (fun s => s.applyAxis a) s

/-- AXIS_TRIP_ORDER (R94). -/
def execAxisTripOrder (a : Axis) (s : State) : Host.Outcome State Fault Refusal :=
  live (.axisTripOrder a) (fun s => s.tripAxis a) s

/-- The contactor's position reaches an axis controller (R91, R101): an opening makes the speed reference 0 and
leaves SATURATED as the latest update left it (R111), and a closing with an invalid position of a present axis is an ENCODER cause. -/
def State.contactorAt (s : State) (a : Axis) (closed : Bool) : State :=
  if closed then
    let s1 := s.modAxis a fun x => { x with contactor := true }
    if s1.axisPresent a && !(s1.axis a).valid then s1.emit (.causeReport (s1.axisCause a .encoder)) else s1
  else s.modAxis a fun x => { x with contactor := false, speed := 0 }

/-- CONTACTOR_REPORT (R91). -/
def execContactorReport (a : Axis) (closed : Bool) (s : State) : Host.Outcome State Fault Refusal :=
  live (.contactorReport a closed) (fun s => s.contactorAt a closed) s

end Sys2Proof.Machine
end

