-- ==== Sys2Proof/Machine/ArbOps.lean ====
section
/-! DEFINITION. The operations of the grant arbiter: the standing claim, the release of cells, owed cells, the map, the
release points, and the checks and effect of a grant (03). -/

namespace Sys2Proof.Machine

open Sys2Proof

/-! ### Claims, releases and owed cells (R41, R43, R46) -/

/-- A released cell passes to the tier with the oldest claim owing it: the owed list is walked oldest first, with the
cells still to be placed. -/
def passOwed : List OwedClaim → CellSet → Eight Holding → List OwedClaim × Eight Holding
  | [], _, hs => ([], hs)
  | o :: rest, free, hs =>
    if free.getLsbD o.cell then
      passOwed rest (free &&& ~~~(cellBit o.cell))
        (hs.set o.tier { hs.get o.tier with standing := (hs.get o.tier).standing ||| cellBit o.cell })
    else
      let r := passOwed rest free hs
      (o :: r.1, r.2)

/-- Cells that have left their owner's sets pass to the tiers owing them, or become FREE (R43). -/
def Arbiter.handOver (x : Arbiter) (free : CellSet) : Arbiter :=
  let r := passOwed x.owed free x.tiers
  { x with owed := r.1, tiers := r.2 }

/-- Cells taken out of the standing and the reserved set of tier `t`. -/
def Arbiter.giveUp (x : Arbiter) (t : Tier) (cells : CellSet) : Arbiter :=
  let h := x.tiers.get t
  { x with
    tiers := x.tiers.set t { h with standing := h.standing &&& ~~~cells, reserved := h.reserved &&& ~~~cells } }

/-- The cells of a set that tier `t` owns are released (R46, R43). -/
def Arbiter.release (x : Arbiter) (t : Tier) (cells : CellSet) : Arbiter :=
  let free := cells &&& (x.tiers.get t).owns
  (x.giveUp t free).handOver free

/-- The standing and owed sets of tier `t` brought into line with a claim (R41). Nothing is released here: the cells that
have left the standing set are released by the caller. -/
def Arbiter.claim (x : Arbiter) (t : Tier) (claim : CellSet) (now : Clock) : Arbiter :=
  let held := claim &&& x.takable t
  let kept := x.owed.filter fun o => o.tier != t || (claim.getLsbD o.cell && !held.getLsbD o.cell)
  let fresh := cellList (claim &&& ~~~held &&& ~~~(x.owedSet t))
  { x with
    tiers := x.tiers.set t { x.tiers.get t with standing := held }
    owed := kept ++ fresh.map fun c => ⟨t, c, now⟩ }

/-- The TIER event of a tier whose owed set has become non-empty (R43). -/
def State.raiseOwed (s : State) (t : Tier) (before : CellSet) : State :=
  s.when (before == 0 && s.arb.owedSet t != 0) fun s => s.raise (.tier t .owed)

/-- Tier `t` takes a new standing claim and keeps `kept` of its reserved set; the cells of its old standing set and of
its reserved set that it owns no longer are released (R41, R46, R58). -/
def State.newClaim (s : State) (t : Tier) (claim kept : CellSet) : State :=
  let before := (s.holding t).owns
  let owedBefore := s.arb.owedSet t
  let x1 := s.arb.claim t claim s.clock
  let h1 := x1.tiers.get t
  let h2 := { h1 with reserved := h1.reserved &&& kept }
  let x2 : Arbiter := { x1 with tiers := x1.tiers.set t h2 }
  (s.modArb fun _ => x2.handOver (before &&& ~~~h2.owns)).raiseOwed t owedBefore

/-! ### The map (R44, R45) -/

/-- The map built on entry to RUN (R44). -/
def State.buildMap (s : State) : State :=
  let build (t : Tier) : Holding :=
    if (s.tier t).present then
      { band := some (bandOf (s.axis ⟨t, .R⟩).position), standing := s.standingAtEntry t, reserved := 0, demand := 0
        active := false, path := none, stowed := (s.pair t).stowed }
    else { Holding.initial with stowed := (s.pair t).stowed }
  (s.modArb fun x =>
    { x with
      tiers := ⟨build .n1, build .n2, build .n3, build .n4, build .n5, build .n6, build .n7, build .n8⟩
      owed := []
      armed := true }).requestPass

/-- A tier's holdings cleared; the stowed condition stays as last reported. -/
def Holding.clear (h : Holding) : Holding := { Holding.initial with stowed := h.stowed }

/-- The map cleared (R45): every cell FREE, every set empty, no standing band, no committed power, detector disarmed,
pass-requested flag clear (R63). -/
def State.clearMap (s : State) : State :=
  s.modArb fun x => { tiers := x.tiers.mapIdx fun _ h => h.clear, owed := [], passRequested := false, armed := false }

/-! ### Stowed changes (R46) -/

/-- The band part of a standing claim: the cells of the standing band. While a ROTATE is active, cells that progressive
release has given back stay given back (R42, R56). -/
def State.bandClaim (s : State) (t : Tier) : CellSet :=
  let h := s.holding t
  match h.band with
  | none => 0
  | some b =>
    match h.path with
    | some p => if p.rotate then s.bandCells t b &&& (h.standing ||| s.arb.owedSet t) else s.bandCells t b
    | none => s.bandCells t b

/-- The arbiter takes a report of a stowed change (R46): in RUN a tier that is not present is ignored. -/
def State.stowedAtArbiter (s : State) (t : Tier) (stowed : Bool) : State :=
  let s1 := s.modHolding t fun h => { h with stowed := stowed }
  if !s.inRun then s1.requestPass
  else if (s.tier t).present then
    (s1.newClaim t (s1.bandClaim t ||| (if stowed then 0 else s1.raisedSet t)) (s1.holding t).reserved).requestPass
  else s

/-! ### Progressive release (R56, R57) -/

/-- The bands of a path from the next one on, without the last. -/
def Path.toRelease (p : Path) : List Nat := (bandsBetween p.next p.g).dropLast

/-- The bands released on a report: the next one, and each further one whose release point has been passed (R56). -/
def State.releasedBands (s : State) (p : Path) (position : Int) : List Nat :=
  match p.toRelease with
  | [] => []
  | b :: rest => b :: rest.takeWhile fun c => (s.releasePoint (pathDir p.s p.g) c).passed position

/-- The band after the last of some bands of a path. -/
def Path.after (p : Path) (bs : List Nat) : Nat :=
  match bs.getLast? with
  | none => p.next
  | some b => if p.s < p.g then b + 1 else b - 1

/-- The bands ahead on a path: from the band of the reported position, clamped into the path, to its last (R57). -/
def Path.ahead (p : Path) (position : Int) : List Nat := bandsBetween (clampBand p.s p.g (bandOf position)) p.g

/-- The arbiter takes a release report of the ROTATE whose path it holds (R56, R57). -/
def State.releaseBands (s : State) (t : Tier) (p : Path) (position : Int) : State :=
  let bs := s.releasedBands p position
  let cells := s.bandUnion t bs &&& ~~~(s.bandUnion t (p.ahead position))
  let p1 := { p with next := p.after bs }
  let s1 := (s.modArb fun x => x.release t cells).modHolding t fun h => { h with path := some p1 }
  (s1.modAxis ⟨t, .R⟩ fun x => { x with release := s.nextPoint p1 }).when (!bs.isEmpty) State.requestPass

/-! ### The end of a move (R58) -/

/-- The standing band after the end of a move (R58). An invalid position of tR is the last one reported, and gives the
band clamped into the path whatever the outcome. -/
def State.bandAfter (s : State) (t : Tier) (o : MoveOutcome) (entered : Bool) (position : Int) : Option Nat :=
  let h := s.holding t
  match h.path with
  | none => h.band
  | some p =>
    let within := clampBand p.s p.g (bandOf position)
    match o with
    | .done =>
      if p.rotate then some p.g
      else if (s.axis ⟨t, .R⟩).valid then some (bandOf position)
      else some within
    | .failed => if entered then some within else h.band
    | .aborted | .cancelled => some within

/-- The arbiter takes the end of a tier's active move (R58). -/
def State.settleEndOfMove (s : State) (t : Tier) (o : MoveOutcome) (entered : Bool) (position : Int) : State :=
  let finish (s : State) : State :=
    ((s.modHolding t fun h => { h with reserved := 0, demand := 0, active := false, path := none }).modAxis ⟨t, .R⟩
      fun x => { x with release := none }).requestPass
  if s.inRun && (s.tier t).present then
    let b := s.bandAfter t o entered position
    let s1 := s.modHolding t fun h => { h with band := b, path := none }
    finish (s1.newClaim t (s1.bandClaim t ||| (if (s.holding t).stowed then 0 else s1.raisedSet t)) 0)
  else finish s

/-! ### The checks of a pass (R50) -/

/-- Free power as the POWER check needs it: the demand fits into the capacity beside what is committed (R47). -/
def State.fitsPower (s : State) (demand : Nat) : Bool :=
  decide (s.arb.committed + demand ≤ s.tables.hall.capacity)

/-- Check 6: every axis of the move has a valid position, an inactive limit input and an active drive-ready input. -/
def State.drivesFit (s : State) (m : MoveRec) : Bool :=
  (moveAxes m).all fun a => (s.axis a).valid && !(s.axis a).limit && (s.axis a).ready

/-- Check 7: the posture a move needs. -/
def State.postureFits (s : State) (m : MoveRec) : Bool :=
  match m.goal with
  | .rotate _ => (s.holding m.tier).stowed
  | .tilt _ => (s.seq m.tier).lockState == .engaged && (s.seq m.tier).station.isSome

/-- Check 8: every cell of the reserved set is the tier's, or FREE and owed to no other tier. -/
def State.cellsFit (s : State) (m : MoveRec) : Bool := (s.reservedFor m &&& ~~~(s.arb.takable m.tier)) == 0

/-- Check 10 (R54): nothing of the move's cells is protected, and its demand fits into what protection leaves. -/
def State.agingFits (s : State) (m : MoveRec) (cells : CellSet) (power : Nat) : Bool :=
  (s.reservedFor m &&& cells) == 0 &&
    decide ((s.demandOf m : Int) ≤ (s.tables.hall.capacity : Int) - s.arb.committed - power)

/-- The tier is marked as having an active move, or its slot is full (check 3). -/
def State.busyTier (s : State) (t : Tier) : Bool := (s.seq t).slot.isSome || (s.holding t).active

/-- What a pass finds of a move: it is to be granted, it fails for an inhibit, or it is held for a reason. -/
inductive Finding
  | grant
  | inhibited
  | held (r : HoldReason)
  deriving DecidableEq, Repr

/-- The checks 2 to 10 of R50 in order. `blocked` are the tiers with an older move found not grantable in this pass;
`cells` and `power` are protected (R54). -/
def State.findMove (s : State) (m : MoveRec) (blocked : List Tier) (cells : CellSet) (power : Nat) : Finding :=
  let l := s.loadOf m.tier
  if blocked.contains m.tier then .held .order
  else if s.busyTier m.tier then .held .tierBusy
  else if (s.seq m.tier).inhibit.isSome then .inhibited
  else if !(l.valid && !l.occupied) then .held .load
  else if !s.drivesFit m then .held .drive
  else if !s.postureFits m then .held .posture
  else if !s.cellsFit m then .held .cells
  else if !s.fitsPower (s.demandOf m) then .held .power
  else if !s.agingFits m cells power then .held .aged
  else .grant

/-! ### The grant (R52) -/

/-- A pending record changed, found by its number. -/
def State.modPending (s : State) (n : Nat) (f : MoveRec → MoveRec) : State :=
  s.modAdm fun x => { x with waiting := x.waiting.map fun m => if m.number = n then f m else m }

/-- A move is granted (R52): it leaves the list, its cells are reserved and its demand committed, tR is given its first
release point, the detector is armed, and the sequencer takes the move. -/
def State.grantMove (s : State) (m : MoveRec) : State :=
  let p := s.pathOf m
  let cells := s.reservedFor m
  let demand := s.demandOf m
  let point := if p.rotate then s.nextPoint p else none
  let s1 := s.modAdm fun x => { x with waiting := x.waiting.filter fun y => y.number != m.number }
  let s2 := s1.modHolding m.tier fun h =>
    { h with reserved := cells, demand := demand, active := true, path := some p }
  let s3 := s2.modAxis ⟨m.tier, .R⟩ fun x => { x with release := if p.rotate then point else x.release }
  s3.listChanged.seqTake m

/-- Where a pass stands: the state, the tiers blocked, what is protected, and the moves held on CELLS or POWER that no
younger move of the pass has yet been granted past. -/
structure Walk where
  state : State
  blocked : List Tier
  cells : CellSet
  power : Nat
  waiting : List Nat

/-- One move of the walk (R50 to R54). -/
def Walk.visit (w : Walk) (m : MoveRec) : Walk :=
  let s := w.state
  match s.findMove m w.blocked w.cells w.power with
  | .inhibited => { w with state := s.endPending m .failed .inhibit }
  | .grant =>
    let s1 := s.modAdm fun x =>
      { x with
        waiting := x.waiting.map fun y =>
          if w.waiting.contains y.number then { y with bypass := min Config.bypassMax (y.bypass + 1) } else y }
    { w with state := s1.grantMove m, waiting := [] }
  | .held r =>
    let aged := decide (s.tables.hall.bypassLimit ≤ m.bypass)
    { state := s.modPending m.number fun y => { y with lastRefusal := some r }
      blocked := m.tier :: w.blocked
      cells := if aged then w.cells ||| s.reservedFor m else w.cells
      power := if aged then w.power + s.demandOf m else w.power
      waiting := if r = .cells ∨ r = .power then m.number :: w.waiting else w.waiting }

/-- Held on CELLS, or on ORDER behind one that is (R55): with every move of the list held, each ORDER stands behind a
move of its tier that is held for another reason. -/
def heldOnCells (m : MoveRec) : Bool := m.lastRefusal == some .cells || m.lastRefusal == some .order

/-- The end of a pass (R55): in stalemate with the detector armed, STALEMATE is raised and the detector disarmed. -/
def State.testStalemate (s : State) : State :=
  if s.arb.armed && !s.adm.waiting.isEmpty && !s.anyActive && s.adm.waiting.all heldOnCells then
    (s.modArb fun x => { x with armed := false }).raise (.stalemate s.adm.waiting.length)
  else s

/-- One grant pass (R49, R50): the flag is cleared as it begins; in SETUP, and while the stop state is not CLEAR, it
reaches no move. -/
def State.runPass (s : State) : State :=
  let s1 := s.modArb fun x => { x with passRequested := false }
  if s1.inRun && s1.isClear then
    (s1.adm.waiting.foldl Walk.visit ⟨s1, [], 0, 0, []⟩).state.testStalemate
  else s1

end Sys2Proof.Machine
end

