-- ==== Sys2Proof/Machine/Grants.lean ====
section
/-! DEFINITION. The grant arbiter's commands (03). -/

namespace Sys2Proof.Machine

open Sys2Proof

/-- GRANT_PASS (R50): made when the pass-requested flag is set. -/
def execGrantPass (s : State) : Host.Outcome State Fault Refusal :=
  live .grantPass (fun s => if s.arb.passRequested then s.runPass else s) s

/-- BAND_RELEASE_REPORT (R56): ignored unless it names the move whose ROTATE path the arbiter holds. -/
def execBandReleaseReport (t : Tier) (served : Served) (position : Int) (s : State) :
    Host.Outcome State Fault Refusal :=
  live (.bandReleaseReport t served position) (fun s =>
    match (s.holding t).path with
    | some p => if p.rotate ∧ served = .move p.number then s.releaseBands t p position else s
    | none => s) s

/-- STOWED_CHANGE_REPORT (R46). -/
def execStowedChangeReport (t : Tier) (stowed : Bool) (s : State) : Host.Outcome State Fault Refusal :=
  live (.stowedChangeReport t stowed) (fun s => s.stowedAtArbiter t stowed) s

/-- MOVE_END_AT_ARBITER (R58). -/
def execMoveEndAtArbiter (t : Tier) (o : MoveOutcome) (entered : Bool) (position : Int) (s : State) :
    Host.Outcome State Fault Refusal :=
  live (.moveEndAtArbiter t o entered position) (fun s => s.settleEndOfMove t o entered position) s

/-- A trip at the arbiter (R48): the committed demand of every active move is 0. Power that is released so asks for a
grant pass (R49). -/
def State.tripArbiter (s : State) : State :=
  (s.modArb fun x => { x with tiers := x.tiers.mapIdx fun _ h => { h with demand := 0 } }).when
    (s.arb.committed != 0) State.requestPass

/-- ARBITER_TRIP_REPORT (R48, R49). -/
def execArbiterTripReport (s : State) : Host.Outcome State Fault Refusal :=
  live .arbiterTripReport (fun s => s.tripArbiter) s

end Sys2Proof.Machine
end

