-- ==== Sys2Proof/Machine/Latch.lean ====
section
/-! DEFINITION. The event latch: LATCH_EVENT, SET_NOTICES and CLEAR_EVENTS (R191 to R195). -/

namespace Sys2Proof.Machine

open Sys2Proof

/-- A notice joins a port's queue when the port enables its kind, or is dropped when the queue already holds 8 (R192). -/
def LinkPort.notify (p : LinkPort) (k : EventKind) (f : Frame) : LinkPort :=
  if p.enabled.getLsbD (eventBit k) && decide (p.notices.length < Config.noticeCapacity) then
    { p with notices := p.notices ++ [f] }
  else p

/-- The latch takes an event (R191): its kind joins the set, each port that enables it is handed a notice, and each port
judges its ATTN line. -/
def State.latch (s : State) (e : Event) : State :=
  let f := noticeOf s e
  let s1 := { s with latched := s.latched ||| eventSet (eventKind e) }
  let hand (s : State) (p : Port) : State := ((s.modPort p fun x => x.notify (eventKind e) f).judge p).serve p
  hand (hand s1 .A) .B

/-- LATCH_EVENT (R191). -/
def execLatchEvent (e : Event) (s : State) : Host.Outcome State Fault Refusal :=
  live (.latchEvent e) (fun s => s.latch e) s

/-- SET_NOTICES (R193). -/
def execSetNotices (q : Src) (mask : BitVec 16) (s : State) : Host.Outcome State Fault Refusal :=
  request (.setNotices q mask) q 0x38 (fun s =>
    if 1024 ≤ mask.toNat then s.refuse .badValue
    else
      let s1 := (s.modPort q.port fun x => { x with enabled := mask.setWidth 10 }).judge q.port
      s1.answer .ok (eventSetBytes (s1.port q.port).enabled ++ eventSetBytes s1.latched)) s

/-- CLEAR_EVENTS (R195). -/
def execClearEvents (q : Src) (mask : BitVec 16) (s : State) : Host.Outcome State Fault Refusal :=
  request (.clearEvents q mask) q 0x39 (fun s =>
    if 1024 ≤ mask.toNat then s.refuse .badValue
    else
      let s1 := ({ s with latched := s.latched &&& ~~~(mask.setWidth 10) }.judge .A).judge .B
      s1.answer .ok (eventSetBytes s1.latched)) s

end Sys2Proof.Machine
end

