-- ==== Sys2Proof/Machine/Links.lean ====
section
/-! DEFINITION. The link ports' own events: a byte received, the gap timer, dispatch, and the end of a transmission
(R180 to R185). -/

namespace Sys2Proof.Machine

open Sys2Proof

/-- BYTE_RECEIVED (R182): a byte taken after those the receiver holds; one with a framing error drops the frame in
progress without a rescan. -/
def execByteReceived (p : Port) (b : Byte) (framingError : Bool) (s : State) : Host.Outcome State Fault Refusal :=
  live (.byteReceived p b framingError) (fun s =>
    if framingError then s.modPort p fun x => { x with rx := ⟨.hunt, [], none⟩ }
    else (s.modPort p fun x => x.receive (x.rx.held ++ [b]) 0).kick p) s

/-- The gap timer of a port has run out (R182): the frame is dropped and the bytes after its SYNC are taken again. The
gap timer goes on from the last byte the line delivered, so that it is out still for a frame that the rescan leaves in
reception. -/
def State.gapExpired (s : State) (p : Port) : State :=
  let x := s.port p
  let s1 := (s.modPort p fun x => x.receive x.rx.buffer (x.rx.gap.getD 0)).kick p
  if ((s1.port p).rx.gapOut) && x.rx.gapOut then s1.emit (.gapTimerExpiry p) else s1

/-- GAP_TIMER_EXPIRY (R182). -/
def execGapTimerExpiry (p : Port) (s : State) : Host.Outcome State Fault Refusal :=
  live (.gapTimerExpiry p) (fun s => if (s.port p).rx.gapOut then s.gapExpired p else s) s

/-- FRAME_DISPATCH (R183): with its reply slot empty and no request outstanding, the port takes the head frame of its
input queue; it answers UNKNOWN_KIND or BAD_LENGTH itself, or hands the request to its owning block. -/
def execFrameDispatch (p : Port) (s : State) : Host.Outcome State Fault Refusal :=
  live (.frameDispatch p) (fun s =>
    match (s.port p).input with
    | [] => s
    | f :: rest =>
      if s.canDispatch p then
        let s1 := s.modPort p fun x => { x with input := rest }
        match parseRequest ⟨p, f.tag⟩ f.kind f.payload with
        | .unknownKind => s1.putReply ⟨p, f.tag⟩ (f.kind + 0x80) .unknownKind []
        | .badLength => s1.putReply ⟨p, f.tag⟩ (f.kind + 0x80) .badLength []
        | .request c => s1.emit c
      else s) s

/-- TRANSMIT_DONE (R185): the transmitter becomes idle and takes the reply in the slot or the notice at the head. -/
def execTransmitDone (p : Port) (s : State) : Host.Outcome State Fault Refusal :=
  live (.transmitDone p) (fun s => (s.modPort p fun x => { x with sending := none }).serve p) s

end Sys2Proof.Machine
end

