-- ==== Sys2Proof/Machine/Load.lean ====
section
/-! DEFINITION. The load monitor: polls, misses, bus recovery, a tier's status, net load and occupied flag, overload and
TARE (07). -/

namespace Sys2Proof.Machine

open Sys2Proof

/-! ### Cell records (R126, R128) -/

/-- A cell as it starts (R124). -/
def LoadCell.initial : LoadCell := ⟨none, false, 0, .failed⟩

/-- A good poll (R128). -/
def LoadCell.good (c : LoadCell) (reading : Int) (saturated : Bool) : LoadCell :=
  { c with reading := some reading, saturated := saturated, misses := 0, state := .fresh }

/-- A miss (R128). -/
def LoadCell.miss (c : LoadCell) : LoadCell :=
  let n := min Config.missMax (c.misses + 1)
  match c.reading with
  | some _ => { c with misses := n, state := if n < Config.failedMisses then .stale else .failed }
  | none => { c with misses := n, saturated := false, state := .failed }

/-- The 18-bit two's-complement reading of three data bytes (R126). -/
def readingOf (b1 b2 b3 : Byte) : Int := (((b1 ++ b2 ++ b3 : BitVec 24) >>> 6).setWidth 18).toInt

/-- The end of a poll on a cell's record (R126 to R128). -/
def LoadCell.polled (c : LoadCell) (r : PollResult) : LoadCell :=
  match r with
  | .noAck => c.miss
  | .data b1 b2 b3 => if b3.getLsbD 0 then c.miss else c.good (readingOf b1 b2 b3) (b3.getLsbD 1)

/-! ### A tier's figures (R130 to R133, R135) -/

/-- The overload check, made while the in-travel mark is set (R135): a fault with the mark clear is reported. -/
def State.checkOverload (s : State) (t : Tier) : State :=
  let l := s.loadOf t
  match l.inTravel with
  | none => s
  | some n =>
    let fault := decide (((s.tier t).overload : Int) < l.net)
    let s1 := s.modLoad t fun l => { l with overMark := fault }
    s1.when (fault && !l.overMark) fun s =>
      s.emit (.causeReport ⟨.overload, some t, none, .move n, none, none, some l.net⟩)

/-- A tier's load figures with its status, net load and occupied flag found again (R130 to R132). -/
def TierLoad.recomputed (l : TierLoad) (presence : Nat) : TierLoad :=
  let valid := loadValid l.cells
  let net := loadSum l.cells - l.tare
  { l with valid := valid, net := net, occupied := if valid then occupiedAfter presence l.occupied net else l.occupied }

/-- A tier recomputed (R130 to R133, R135): a change of status or flag of a present tier is reported to the arbiter and
raises LOAD; then the overload check is made. Where one recomputation gives both, the grant pass and LOAD stand before the
OVERLOAD cause, an order that R128, R133 and R135 do not give, so that on idle steps a pass may grant before the quick stop
(the model's choice, notes/assumptions/68.md). -/
def State.recomputeLoad (s : State) (t : Tier) : State :=
  let l := s.loadOf t
  let n := l.recomputed (s.tier t).presence
  let s1 := s.modLoad t fun _ => n
  let changed := decide (n.valid ≠ l.valid) || decide (n.occupied ≠ l.occupied)
  let s2 := s1.when ((s.tier t).present && changed) fun s => s.requestPass.raise (.load t n.valid n.occupied n.net)
  s2.checkOverload t

/-- The record of one cell changed, and its tier recomputed (R128). -/
def State.updateCell (s : State) (t : Tier) (i : Nat) (f : LoadCell → LoadCell) : State :=
  (s.modLoad t fun l => { l with cells := l.cells.modify i f }).recomputeLoad t

/-- A tier's cells started afresh on a new list, its tare 0, and the tier recomputed; a poll in flight for one of its
cells is lost (R129). -/
def State.restartCells (s : State) (t : Tier) (count : Nat) : State :=
  let s1 := s.modLoad t fun l => { l with cells := List.replicate count LoadCell.initial, tare := 0 }
  let s2 := s1.modMon fun m =>
    { m with
      transaction :=
        match m.transaction with
        | .poll u _ => if u = t then .lost else m.transaction
        | x => x }
  s2.recomputeLoad t

/-! ### Slots and transactions (R125, R127) -/

/-- The configured cells in their hall-wide order (R125). -/
def State.configuredCells (s : State) : List (Tier × Nat) :=
  Idx8.all.flatMap fun t => (List.range (s.tier t).cells.length).map fun i => (t, i)

/-- A cell stands after the poll position. -/
def isAfter (p : Option (Tier × Nat)) (c : Tier × Nat) : Bool :=
  match p with
  | none => true
  | some x =>
    decide (Idx8.num x.1 < Idx8.num c.1) || (x.1 == c.1 && decide (x.2 < c.2))

/-- The first configured cell after the poll position, wrapping (R125). -/
def State.nextCell (s : State) : Option (Tier × Nat) :=
  match s.configuredCells.find? (isAfter s.mon.pollAt) with
  | some c => some c
  | none => s.configuredCells.head?

/-- POLL_SLOT (R125, R127): the slot begins a poll of the next cell, or is spent on the recovery that is owed, and the
cell it takes then counts a miss. What it does with a transaction that still runs, and a recovery with no cell configured, is
the model's choice (notes/assumptions/29.md). -/
def State.beginSlot (s : State) : State :=
  match s.mon.recoveryOwed, s.nextCell with
  | true, none => s.modMon fun m => { m with transaction := .recovery, recoveryOwed := false }
  | true, some c =>
    (s.modMon fun m => { m with pollAt := some c, transaction := .recovery, recoveryOwed := false }).updateCell c.1 c.2
      LoadCell.miss
  | false, none => s
  | false, some c => s.modMon fun m => { m with pollAt := some c, transaction := .poll c.1 c.2 }

/-- POLL_SLOT (R125). -/
def execPollSlot (s : State) : Host.Outcome State Fault Refusal := live .pollSlot (fun s => s.beginSlot) s

/-- The transaction over. -/
def State.endTransaction (s : State) : State := s.modMon fun m => { m with transaction := .idle }

/-- POLL_END (R128, R129). With no poll running it changes nothing (the model's choice, notes/assumptions/29.md). -/
def execPollEnd (r : PollResult) (s : State) : Host.Outcome State Fault Refusal :=
  live (.pollEnd r) (fun s =>
    match s.mon.transaction with
    | .poll t i => s.endTransaction.updateCell t i fun c => c.polled r
    | .lost => s.endTransaction
    | .idle | .recovery => s) s

/-- BUS_HELD_LOW (R127): the transaction is abandoned, its cell counts a miss, and a recovery is owed. A poll whose cell is no
longer configured counts no miss (R129), and with no poll running nothing changes (the model's choice,
notes/assumptions/29.md). -/
def execBusHeldLow (s : State) : Host.Outcome State Fault Refusal :=
  live .busHeldLow (fun s =>
    match s.mon.transaction with
    | .poll t i => (s.endTransaction.modMon fun m => { m with recoveryOwed := true }).updateCell t i LoadCell.miss
    | .lost => s.endTransaction.modMon fun m => { m with recoveryOwed := true }
    | .idle | .recovery => s) s

/-- BUS_RECOVERY_END (R127): a line still low makes a further recovery owed. With no recovery running it changes nothing (the
model's choice, notes/assumptions/29.md). -/
def execBusRecoveryEnd (stillLow : Bool) (s : State) : Host.Outcome State Fault Refusal :=
  live (.busRecoveryEnd stillLow) (fun s =>
    match s.mon.transaction with
    | .recovery => s.endTransaction.modMon fun m => { m with recoveryOwed := stillLow }
    | .idle | .lost | .poll _ _ => s) s

/-- TRAVEL_MARK_REPORT (R135): an entry into TRAVEL sets the mark with the move's number, clears the overload mark and
is checked; a departure clears the mark. -/
def execTravelMarkReport (t : Tier) (mark : Option Nat) (s : State) : Host.Outcome State Fault Refusal :=
  live (.travelMarkReport t mark) (fun s =>
    match mark with
    | some n => (s.modLoad t fun l => { l with inTravel := some n, overMark := false }).checkOverload t
    | none => s.modLoad t fun l => { l with inTravel := none }) s

/-! ### TARE (R134) -/

/-- The tare set to the present sum, and the tier recomputed. -/
def State.tareTier (s : State) (t : Tier) : State :=
  (s.modLoad t fun l => { l with tare := loadSum l.cells }).recomputeLoad t

/-- The TARE answer: the checks of R134 in order. -/
def State.tareAnswer (s : State) (q : Src) (tier : Nat) : Answer :=
  if !s.inSetup then s.refuse .mode
  else if !s.isHolder q then s.refuseAuthority
  else
    match Idx8.ofNat? tier with
    | none => s.refuse .badValue
    | some t =>
      if s.tierBusy t then s.refuse .busy
      else if !(s.loadOf t).valid then s.refuse .interlock
      else
        let stale := ((s.loadOf t).cells.filter fun c => c.state == .stale).length
        (s.tareTier t).answer .ok (longBytes (loadSum (s.loadOf t).cells) ++ beBytes 1 stale)

/-- TARE (R134). -/
def execTare (q : Src) (tier : Nat) (s : State) : Host.Outcome State Fault Refusal :=
  request (.tare q tier) q 0x2E (fun s => s.tareAnswer q tier) s

end Sys2Proof.Machine
end

