-- ==== Sys2Proof/Machine/PlanOps.lean ====
section
/-! DEFINITION. The plan executor: start conditions, submission, failure and abort of a plan, and step ends (08). -/

namespace Sys2Proof.Machine

open Sys2Proof

/-- The context is RUNNING or HELD (R139). -/
def Plans.running (p : Plans) : Bool := p.state == .running || p.state == .held

/-- The steps of the context's plan, as the store holds them. -/
def Plans.contents (p : Plans) : List PlanStep := (p.plan.map p.store.get).getD []

/-- The status of step `k`, counted from 1. -/
def Plans.status (p : Plans) (k : Nat) : Option StepStatus := (p.steps[k - 1]?).map (·.status)

/-- Step `k` of the run context changed. -/
def State.modStep (s : State) (k : Nat) (f : StepRun → StepRun) : State :=
  s.modPlans fun p => { p with steps := p.steps.modify (k - 1) f }

/-- The PLAN event, with the state after it (R148). -/
def State.raisePlan (s : State) (d : PlanDetail) : State :=
  match s.plans.plan with
  | some p => s.raise (.plan p s.plans.state d)
  | none => s

/-- A step is DONE. -/
def StepRun.isDone (r : StepRun) : Bool := r.status == .done

/-- A step is SUBMITTED. -/
def StepStatus.isSubmitted : StepStatus → Bool
  | .submitted _ => true
  | _ => false

/-- The start condition of step `k` is met; step 1's always is (R140, R141). -/
def Plans.conditionMet (p : Plans) (k : Nat) : Bool :=
  if k ≤ 1 then true
  else
    match (p.contents[k - 1]?).map (·.cond), p.status (k - 1) with
    | some .sequential, some st => st == .done
    | some .parallel, some st => st == .done || st.isSubmitted
    | some .barrier, _ => (p.steps.take (k - 1)).all StepRun.isDone
    | _, _ => false

/-- Any step in WAITING_ROOM goes back to NOT_SUBMITTED (R144). -/
def StepRun.unwait (r : StepRun) : StepRun := if r.status = .waitingRoom then { r with status := .notSubmitted } else r

/-- A plan ends with a state, a failing step and a reason: waiting steps are reset and no step is next (R144, R145,
R147). -/
def State.closePlan (s : State) (st : PlanState) (failing : Option Nat) (r : PlanReason) : State :=
  s.modPlans fun p =>
    { p with state := st, failing := failing, reason := some r, next := none, steps := p.steps.map StepRun.unwait }

/-- The moves of steps still SUBMITTED that stand in the pending list end CANCELLED with reason PLAN_ENDED, oldest first
(R144). -/
def State.cancelPlanMoves (s : State) : State :=
  let numbers := s.plans.steps.filterMap fun r => match r.status with | .submitted n => some n | _ => none
  s.forEach (s.adm.waiting.filter fun m => numbers.contains m.number) fun m s => s.endPending m .cancelled .planEnded

/-- A plan fails (R144). -/
def State.failPlan (s : State) (k : Nat) (r : PlanReason) : State :=
  ((s.closePlan .failed (some k) r).cancelPlanMoves).raisePlan (.failed k r)

/-- A plan is aborted by PLAN_ABORT (R145). -/
def State.abortPlan (s : State) : State :=
  ((s.closePlan .aborted none (.aborted .operator)).cancelPlanMoves).raisePlan (.aborted (.aborted .operator))

/-- A plan is aborted by a quick stop or a trip (R147). -/
def State.stopPlan (s : State) (r : Reason) : State :=
  if s.plans.running then (s.closePlan .aborted none (.aborted r)).raisePlan (.aborted (.aborted r)) else s

/-- The step after `k`, none after the last (R141). -/
def Plans.stepAfter (p : Plans) (k : Nat) : Option Nat := if k < p.contents.length then some (k + 1) else none

/-- Admission's result for a step, the mode check included (R31, R142). -/
def State.submitStep (s : State) (p : PlanNo) (k : Nat) (x : PlanStep) : State × Submission :=
  if !s.inRun then (s, .refused .mode) else s.admitMove x.tier x.goal x.cls 0 (.plan p k)

/-- Submission in step order (R141, R142): the step at the next step index, when its condition is met, and then the steps
after it, until one is left in WAITING_ROOM. The condition of a step that stands in WAITING_ROOM is tested like that of any
other, as after a step end (R141; notes/assumptions/53.md); on a retry, which a freed entry and a resume order are, that step
is submitted without the test (R142, R146). -/
def State.runSteps : Nat → Bool → State → State
  | 0, _, s => s
  | fuel + 1, retry, s =>
    match s.plans.state, s.plans.plan, s.plans.next with
    | .running, some p, some k =>
      match s.plans.contents[k - 1]? with
      | none => s
      | some x =>
        let again := retry && s.plans.status k == some .waitingRoom
        if !again && !s.plans.conditionMet k then s
        else
          match s.submitStep p k x with
          | (s1, .admitted m adjusted) =>
            let s2 := (s1.modStep k fun _ => ⟨.submitted m.number, adjusted⟩).modPlans fun c =>
              { c with next := c.stepAfter k }
            let s3 := s2.when adjusted fun s => s.raisePlan (.adjusted k (goalValue m.goal))
            State.runSteps fuel retry s3
          | (s1, .refused .full) => s1.modStep k fun r => { r with status := .waitingRoom }
          | (s1, .refused st) =>
            (s1.modStep k fun r => { r with status := .endedBad none }).failPlan k (.refused st)
    | _, _, _ => s

/-- The steps submitted whose conditions are met, in step order, one in WAITING_ROOM among them (R141). -/
def State.testSteps (s : State) : State := s.runSteps (Config.planSteps + 1) false

/-- A step in WAITING_ROOM submitted again, and the steps behind it whose conditions are met; with none waiting, the step at
the next step index tested (R142, R146). -/
def State.retrySteps (s : State) : State := s.runSteps (Config.planSteps + 1) true

/-- The step that an ended move's number matches, counted from 1 (R143). -/
def Plans.stepOf (p : Plans) (n : Nat) : Option Nat :=
  (p.steps.findIdx? fun r => r.status == .submitted n).map (· + 1)

/-- An end that a stop makes (R147). -/
def stopReason (o : MoveOutcome) (r : Reason) : Bool :=
  (o == .cancelled || o == .aborted) && (r == .stop || r == .trip)

/-- The executor takes the end of a plan's move (R143). -/
def State.takeStepEnd (s : State) (n : Nat) (o : MoveOutcome) (r : Reason) : State :=
  match s.plans.stepOf n with
  | none => s
  | some k =>
    let ok := o == MoveOutcome.done
    let s1 := s.modStep k fun x => { x with status := if ok then .done else .endedBad (some n) }
    if !s1.plans.running then s1
    else if ok then
      if s1.plans.steps.all StepRun.isDone then (s1.modPlans fun p => { p with state := .done }).raisePlan .plain
      else s1.testSteps
    else if stopReason o r then s1.stopPlan r
    else s1.failPlan k (.moveEnd o r)

end Sys2Proof.Machine
end

