-- ==== Sys2Proof/Machine/Modes.lean ====
section
/-! DEFINITION. The mode: entry to RUN with its validation, and entry to SETUP (R167 to R170). -/

namespace Sys2Proof.Machine

open Sys2Proof

/-! ### Validation (R169) -/

/-- The present tiers in tier order. -/
def State.presentTiers (s : State) : List Tier := Idx8.all.filter fun t => (s.tier t).present

/-- Check 1: the travel range of every present tier is the right way round. -/
def State.check1 (s : State) : Option (List Byte) :=
  (s.presentTiers.find? fun t => !decide ((s.tier t).travelMin < (s.tier t).travelMax)).map fun t =>
    1 :: beBytes 1 (Idx8.num t)

/-- A station of a tier lies outside travel. -/
def State.stationOutside (s : State) (t : Tier) (n : Station) : Bool :=
  match s.stationAngle t n with
  | none => false
  | some x => !decide ((s.tier t).travelMin ≤ x ∧ x ≤ (s.tier t).travelMax)

/-- Check 2: every station of a present tier lies inside travel. -/
def State.check2 (s : State) : Option (List Byte) :=
  s.presentTiers.findSome? fun t =>
    (Idx8.all.find? fun n => s.stationOutside t n).map fun n => 2 :: (beBytes 1 (Idx8.num t) ++ beBytes 1 (Idx8.num n))

/-- Check 3: jack min ≤ stow height ≤ jack max in every present tilt group. -/
def State.check3 (s : State) : Option (List Byte) :=
  (s.presentTiers.find? fun t =>
    match (s.tier t).tilt with
    | none => false
    | some g => !decide (g.jackMin ≤ g.stow ∧ g.stow ≤ g.jackMax)).map fun t => 3 :: beBytes 1 (Idx8.num t)

/-- Check 4: every present axis has a valid position. -/
def State.check4 (s : State) : Option (List Byte) :=
  ((s.presentTiers.flatMap axesOf).find? fun a => s.axisPresent a && !(s.axis a).valid).map fun a =>
    4 :: (beBytes 1 (Idx8.num a.tier) ++ beBytes 1 (axisCode a))

/-- Check 5: every present rotation axis lies within travel widened by one base unit. -/
def State.check5 (s : State) : Option (List Byte) :=
  (s.presentTiers.find? fun t =>
    !decide (Config.fine * (s.tier t).travelMin - Config.fine ≤ (s.axis ⟨t, .R⟩).position ∧
      (s.axis ⟨t, .R⟩).position ≤ Config.fine * (s.tier t).travelMax + Config.fine)).map fun t =>
    5 :: (beBytes 1 (Idx8.num t) ++ beBytes 1 (axisCode ⟨t, .R⟩))

/-- The pairs of present tiers in the order (1, 2), (1, 3), up to (7, 8). -/
def pairsOf : List Tier → List (Tier × Tier)
  | [] => []
  | t :: rest => rest.map (fun u => (t, u)) ++ pairsOf rest

/-- Check 6: the standing sets of all present tiers are pairwise disjoint; the lowest cell shared is named. -/
def State.check6 (s : State) : Option (List Byte) :=
  (pairsOf s.presentTiers).findSome? fun p =>
    (cellList (s.standingAtEntry p.1 &&& s.standingAtEntry p.2)).head?.map fun c =>
      6 :: (beBytes 1 (Idx8.num p.1) ++ beBytes 1 (Idx8.num p.2) ++ beBytes 1 c)

/-- The first failure of the six checks, as the CONFLICT reply carries it; none when all pass (R169). -/
def State.runFinding (s : State) : Option (List Byte) :=
  s.check1.orElse fun _ => s.check2.orElse fun _ => s.check3.orElse fun _ => s.check4.orElse fun _ =>
    s.check5.orElse fun _ => s.check6

/-! ### SET_MODE (R168, R170) -/

/-- The SET_MODE(RUN) answer after the checks of the holder and the value (R168). -/
def State.runAnswer (s : State) : Answer :=
  if !s.inSetup then s.refuse .mode
  else if !s.isClear then s.refuse .stopped
  else if s.jogRuns then s.refuse .busy
  else
    match s.runFinding with
    | some f => s.answer .conflict f
    | none => (((s.modAuth fun x => { x with mode := .run }).buildMap).raise (.mode .run)).answer .ok []

/-- The SET_MODE(SETUP) answer after the checks of the holder and the value (R170). -/
def State.setupAnswer (s : State) : Answer :=
  if s.inSetup then s.answer .ok []
  else if !s.adm.waiting.isEmpty || s.anyActive || s.plans.running then s.refuse .busy
  else (((s.modAuth fun x => { x with mode := .setup }).clearMap).raise (.mode .setup)).answer .ok []

/-- SET_MODE(RUN) (R168). -/
def execSetModeRun (q : Src) (s : State) : Host.Outcome State Fault Refusal :=
  request (.setModeRun q) q 0x14 (fun s => if s.isHolder q then s.runAnswer else s.refuseAuthority) s

/-- SET_MODE with a mode byte other than RUN's (R168, R170): one that is neither mode is refused BAD_VALUE. A byte of
RUN is taken as SET_MODE(RUN). -/
def execSetModeSetup (q : Src) (mode : Nat) (s : State) : Host.Outcome State Fault Refusal :=
  request (.setModeSetup q mode) q 0x14 (fun s =>
    if !s.isHolder q then s.refuseAuthority
    else
      match mode with
      | 0 => s.setupAnswer
      | 1 => s.runAnswer
      | _ => s.refuse .badValue) s

end Sys2Proof.Machine
end

