-- ==== Sys2Proof/Machine/PairOps.lean ====
section
/-! DEFINITION. The operations of a tilt pair unit: the shared profile, the settle gather, skew, degrade, the skew
causes and the stowed decision (06). -/

namespace Sys2Proof.Machine

open Sys2Proof

/-- Both jacks of a tier changed. -/
def State.modJacks (s : State) (t : Tier) (f : AxisCtl → AxisCtl) : State :=
  (s.modAxis ⟨t, .A⟩ f).modAxis ⟨t, .B⟩ f

/-- Both jacks' latest positions are valid (R119). -/
def PairUnit.bothValid (p : PairUnit) : Bool := p.latest.a.valid && p.latest.b.valid

/-- The lift time of a pair: the larger of the jacks' (R118), of the records as they stand when it is asked, at an order too (the
model's choice, notes/assumptions/72.md). -/
def State.pairLift (s : State) (t : Tier) : Nat :=
  max (updatesOf (s.axisRec ⟨t, .A⟩).liftTime) (updatesOf (s.axisRec ⟨t, .B⟩).liftTime)

/-- The set time of a pair: the larger of the jacks' (R118). -/
def State.pairSet (s : State) (t : Tier) : Nat :=
  max (updatesOf (s.axisRec ⟨t, .A⟩).setTime) (updatesOf (s.axisRec ⟨t, .B⟩).setTime)

/-! ### Brakes of the pair (R118) -/

/-- A release order, taken in IDLE or SETTING. The unit of a tier with no tilt group stays in IDLE (R112); in another
phase the brakes stand released already and the order changes nothing, which R118 leaves open (notes/assumptions/42.md). Both
jacks take the order in one event: the causes found at jack A are taken before those found at jack B, an order that R118,
R152 and R160 do not give (the model's choice, notes/assumptions/67.md). The pair serves what the order names from here on
(notes/assumptions/65.md), and a tier that is not present is not told apart (notes/assumptions/66.md). -/
def State.releasePair (s : State) (t : Tier) (served : Served) : State :=
  if (s.tier t).tilt.isSome ∧ ((s.pair t).phase = .idle ∨ (s.pair t).phase = .setting) then
    let s1 := (s.releaseAxis ⟨t, .A⟩ served).releaseAxis ⟨t, .B⟩ served
    let s2 := s1.modPair t fun p => { p with phase := .lifting, phaseCount := 0, served := served }
    if s.pairLift t = 0 then s2.emit (.pairLiftComplete t) else s2
  else s

/-- What an apply or a trip order leaves of the shared profile (R118). -/
def PairUnit.brake (p : PairUnit) : PairUnit :=
  { p with phaseCount := 0, target := none, r := 0, v := 0, cls := none, stopDecel := none }

/-- An apply order: in IDLE it changes nothing. -/
def State.applyPair (s : State) (t : Tier) : State :=
  if (s.pair t).phase = .idle then s
  else
    let s1 := (s.applyAxis ⟨t, .A⟩).applyAxis ⟨t, .B⟩
    if s.pairSet t = 0 then
      (s1.modPair t fun p => { p.brake with phase := .idle, served := .none }).emit (.pairSetComplete t)
    else s1.modPair t fun p => { p.brake with phase := .setting }

/-- A trip order: in IDLE it changes nothing. -/
def State.tripPair (s : State) (t : Tier) : State :=
  if (s.pair t).phase = .idle then s
  else ((s.tripAxis ⟨t, .A⟩).tripAxis ⟨t, .B⟩).modPair t fun p => { p.brake with phase := .idle, served := .none }

/-! ### The shared profile (R119 to R121) -/

/-- The pair arrives (R120): both jacks are handed the target and ordered into SETTLE, or into STILL for a jog (R109),
and arrival is reported. -/
def State.pairArrive (s : State) (t : Tier) : State :=
  let p := s.pair t
  let jogs := decide (p.served = .jog)
  let target := p.target.getD (p.demand.getD 0)
  let s1 := s.modPair t fun p =>
    { p with
      v := 0, r := 0, demand := some target, gather := ⟨.counting, .counting⟩
      phase := if jogs then .still else .settle }
  let s2 := s1.modJacks t fun x =>
    { x with
      demand := target, target := some target, v := 0, r := 0, settleRun := 0, settleAge := 0
      phase := if jogs then .still else .settle }
  (s2.seqArrival t).seqReport t

/-- The pair comes to rest (R121): STILL, both jacks holding the shared demand with velocity 0, and rest is reported. The
jacks take the rest of the profile, their remaining distance with it, in this event too and not at updates of their own,
which R88 and R121 leave open (the model's choice, notes/assumptions/27.md). -/
def State.pairRest (s : State) (t : Tier) : State :=
  let s1 := s.modPair t fun p => { p with v := 0, phase := .still, gather := ⟨.counting, .counting⟩ }
  let s2 := s1.modJacks t fun x => { x.follow (s1.pair t) (s1.capOf t) with phase := .still }
  (s2.seqRest t).seqReport t

/-- Both jacks lie within their windows about a target, with valid positions. -/
def State.pairInWindow (s : State) (t : Tier) (target : Int) : Bool :=
  let p := (s.pair t).latest
  inWindow (s.axisRec ⟨t, .A⟩) p.a.position p.a.valid target && inWindow (s.axisRec ⟨t, .B⟩) p.b.position p.b.valid target

/-- A travel order of a tier with a tilt group (R119): the profile starts from the mean of the jacks' latest positions,
clamped into the jack range. With nothing to travel the pair arrives in the event of the order, and so does a move that
was suspended in SETTLE with both jacks within their windows (R83). -/
def State.startTravel (s : State) (t : Tier) (target : Int) (cls : SpeedClass) : State :=
  let p := s.pair t
  let d := s.clampToTravel ⟨t, .A⟩ ((p.latest.a.position + p.latest.b.position) / 2)
  let r := (target - d).natAbs
  let s1 := s.modPair t fun p =>
    { p with
      phase := .travel, target := some target, demand := some d, v := 0, r := r, dir := dirTo d target
      cls := some cls, stopDecel := none }
  let s2 := s1.modJacks t fun x =>
    { x with
      phase := .travel, demand := d, v := 0, r := r, dir := dirTo d target, target := some target
      cap := some (s1.capOf t), stopDecel := none }
  if r = 0 ∨ ((s.seq t).resettles ∧ s.pairInWindow t target) then s2.pairArrive t else s2

/-- A travel order (R119); the unit of a tier with no tilt group stays in IDLE (R112). -/
def State.travelPair (s : State) (t : Tier) (target : Int) (cls : SpeedClass) : State :=
  if (s.tier t).tilt.isSome then s.startTravel t target cls else s

/-- A stop order by phase (R121). -/
def State.stopPair (s : State) (t : Tier) (rate : StopRate) : State :=
  let d := match rate with | .a => s.groupA t | .aqs => s.groupAQs t
  match (s.pair t).phase with
  | .travel =>
    (s.modPair t fun p => { p with phase := .stopping, stopDecel := some d }).modJacks t fun x =>
      { x with phase := .stopping, stopDecel := some d }
  | .settle => s.pairRest t
  | .stopping =>
    s.modPair t fun p => { p with stopDecel := if p.stopDecel.getD 0 < d then some d else p.stopDecel }
  | .still | .lifting | .setting | .idle => s

/-- The shared motion of a pair. -/
def PairUnit.motion (p : PairUnit) : Motion := ⟨p.demand.getD 0, p.v, p.r⟩

/-- The shared motion set. -/
def PairUnit.withMotion (p : PairUnit) (m : Motion) : PairUnit := { p with demand := some m.demand, v := m.v, r := m.r }

/-- One pair update (R112): a profile step, a stop step, or a count. -/
def State.updatePair (s : State) (t : Tier) : State :=
  let p := s.pair t
  match p.phase with
  | .travel =>
    if p.bothValid then
      let m := profileStep (s.groupA t) (s.capOf t) p.dir p.motion
      let s1 := s.modPair t fun p => p.withMotion m
      if m.r = 0 then s1.pairArrive t else s1
    else s
  | .stopping =>
    if p.bothValid then
      let m := stopStep (p.stopDecel.getD 1) p.dir p.motion
      let s1 := s.modPair t fun p => p.withMotion m
      if m.v = 0 then s1.pairRest t else s1
    else s
  | .lifting =>
    let s1 := s.modPair t fun p => { p with phaseCount := p.phaseCount + 1 }
    if p.phaseCount + 1 = s.pairLift t then s1.emit (.pairLiftComplete t) else s1
  | .setting =>
    if s.pairSet t ≤ p.phaseCount + 1 then
      (s.modPair t fun p => { p with phaseCount := p.phaseCount + 1, phase := .idle, served := .none }).emit
        (.pairSetComplete t)
    else s.modPair t fun p => { p with phaseCount := p.phaseCount + 1 }
  | .idle | .settle | .still => s

/-! ### The settle gather (R120) -/

/-- A jack's settle end: the pair reports settle end once both jacks have ended. -/
def State.jackSettled (s : State) (t : Tier) (j : Jack) : State :=
  let p := s.pair t
  if p.phase ≠ .settle then s
  else
    let g := p.gather.setJack j .ended
    let s1 := s.modPair t fun p => { p with gather := g }
    if g.a = .ended ∧ g.b = .ended then
      ((s1.modPair t fun p => { p with phase := .still }).seqSettleEnd t).seqReport t
    else s1

/-- A jack's settle timeout: the pair reports SETTLE_TIMEOUT at once. -/
def State.jackTimedOut (s : State) (t : Tier) (j : Jack) : State :=
  let p := s.pair t
  if p.phase ≠ .settle then s
  else
    ((s.modPair t fun p => { p with gather := p.gather.setJack j .timedOut, phase := .still }).seqSettleTimeout
      t).seqReport t

/-! ### Skew, degrade and stowed (R114 to R117, R122) -/

/-- The degrade evaluation of a known skew (R116): a change from clear to set raises TIER. -/
def State.evalDegrade (s : State) (t : Tier) (g : TiltRec) (skew : Int) : State :=
  let before := (s.pair t).degrade
  let after := degradeAfter g.skewWarn before skew
  let s1 := s.modPair t fun p => { p with degrade := after }
  s1.when (!before && after && (s.tier t).present) fun s => s.raise (.tier t .degrade)

/-- The cause that a skew gives rise to: its axis is the jack that stands higher (R117). -/
def State.skewCause (s : State) (t : Tier) (k : Kind) (skew : Int) : Cause :=
  let p := s.pair t
  let j : Jack := if 0 < skew then .A else .B
  ⟨k, some t, some (jackAxis t j), p.served,
    if p.phase = .travel ∨ p.phase = .stopping then p.demand else none, some (p.latest.jack j).position, none⟩

/-- The skew checks of a known skew of a present tier (R117), SKEW first and SKEW_SEVERE after it. A tier that is not present
has no check made and keeps both marks (the model's choice, notes/assumptions/49.md). -/
def State.checkSkew (s : State) (t : Tier) (g : TiltRec) (skew : Int) : State :=
  if !(s.tier t).present then s
  else
    let p := s.pair t
    let made := ((s.axis ⟨t, .A⟩).released || (s.axis ⟨t, .B⟩).released) && s.man.contactor
    let k := markCheck made (decide (g.skewTrip * 256 ≤ skew.natAbs)) p.markSkew
    let v := markCheck true (decide (2 * g.skewTrip * 256 ≤ skew.natAbs)) p.markSevere
    let s1 := s.modPair t fun p => { p with markSkew := k.1, markSevere := v.1 }
    let s2 := s1.when k.2 fun s => s.emit (.causeReport (s.skewCause t .skew skew))
    s2.when v.2 fun s => s.emit (.causeReport (s.skewCause t .skewSevere skew))

/-- The report of the stowed condition of a present tier, when it differs from the one last reported (R122). The arbiter's
report stands before a STOW_LOST that the sequencer finds in the same event (the model's choice, notes/assumptions/69.md). -/
def State.reportStowed (s : State) (t : Tier) : State :=
  let p := s.pair t
  if (s.tier t).present && decide (p.stowed ≠ p.toldStowed) then
    let s1 := (s.modPair t fun p => { p with toldStowed := p.stowed }).emit (.stowedChangeReport t p.stowed)
    (s1.seqStowed t p.stowed).seqReport t
  else s

/-- The stowed decision (R122). -/
def State.decideStowed (s : State) (t : Tier) : State :=
  (s.modPair t fun p => { p with stowed := s.stowedNow t }).reportStowed t

/-- A jack's position and validity reach the pair unit (R114): the skew is recomputed, and a tier with a tilt group then
has its degrade, skew and stow evaluations. -/
def State.jackReported (s : State) (t : Tier) (j : Jack) (r : Reported) : State :=
  let latest := (s.pair t).latest.setJack j r
  let s1 := s.modPair t fun p => { p with latest := latest }
  match (s1.tier t).tilt with
  | none => s1
  | some g =>
    let k := skewOf latest
    let s2 := s1.modPair t fun p => { p with skew := k }
    let s3 :=
      match k with
      | none => s2
      | some skew => (s2.evalDegrade t g skew).checkSkew t g skew
    s3.decideStowed t

end Sys2Proof.Machine
end

