-- ==== Sys2Proof/Machine/Pairs.lean ====
section
/-! DEFINITION. The tilt pair units' commands: the update, the sequencer's orders, the jacks' reports, and the lift and
set reports to the sequencer (06); and the settle reports of any axis (R107, R120). -/

namespace Sys2Proof.Machine

open Sys2Proof

/-- PAIR_UPDATE (R112). -/
def execPairUpdate (t : Tier) (s : State) : Host.Outcome State Fault Refusal :=
  live (.pairUpdate t) (fun s => s.updatePair t) s

/-- PAIR_RELEASE_ORDER (R118). -/
def execPairReleaseOrder (t : Tier) (served : Served) (s : State) : Host.Outcome State Fault Refusal :=
  live (.pairReleaseOrder t served) (fun s => s.releasePair t served) s

/-- PAIR_TRAVEL_ORDER (R119). -/
def execPairTravelOrder (t : Tier) (target : Int) (cls : SpeedClass) (s : State) : Host.Outcome State Fault Refusal :=
  live (.pairTravelOrder t target cls) (fun s => s.travelPair t target cls) s

/-- PAIR_STOP_ORDER (R121). -/
def execPairStopOrder (t : Tier) (rate : StopRate) (s : State) : Host.Outcome State Fault Refusal :=
  live (.pairStopOrder t rate) (fun s => s.stopPair t rate) s

/-- PAIR_APPLY_ORDER (R118). -/
def execPairApplyOrder (t : Tier) (s : State) : Host.Outcome State Fault Refusal :=
  live (.pairApplyOrder t) (fun s => s.applyPair t) s

/-- PAIR_TRIP_ORDER (R118). -/
def execPairTripOrder (t : Tier) (s : State) : Host.Outcome State Fault Refusal :=
  live (.pairTripOrder t) (fun s => s.tripPair t) s

/-- PAIR_LIFT_COMPLETE (R72, R118). -/
def execPairLiftComplete (t : Tier) (s : State) : Host.Outcome State Fault Refusal :=
  live (.pairLiftComplete t) (fun s => (s.liftDone t false).seqReport t) s

/-- PAIR_SET_COMPLETE (R74, R118). -/
def execPairSetComplete (t : Tier) (s : State) : Host.Outcome State Fault Refusal :=
  live (.pairSetComplete t) (fun s => (s.setDone t false).seqReport t) s

/-- JACK_POSITION_REPORT (R114). -/
def execJackPositionReport (t : Tier) (j : Jack) (position : Int) (valid : Bool) (s : State) :
    Host.Outcome State Fault Refusal :=
  live (.jackPositionReport t j position valid) (fun s => s.jackReported t j ⟨position, valid⟩) s

/-- SETTLE_END (R73, R107): a rotation axis's reaches the sequencer, a jack's its pair unit. -/
def execSettleEnd (a : Axis) (s : State) : Host.Outcome State Fault Refusal :=
  live (.settleEnd a) (fun s =>
    match a.role with
    | .R => (s.seqSettleEnd a.tier).seqReport a.tier
    | .A => s.jackSettled a.tier .A
    | .B => s.jackSettled a.tier .B) s

/-- SETTLE_TIMEOUT (R73, R107): a rotation axis's reaches the sequencer, a jack's its pair unit. -/
def execSettleTimeout (a : Axis) (s : State) : Host.Outcome State Fault Refusal :=
  live (.settleTimeout a) (fun s =>
    match a.role with
    | .R => (s.seqSettleTimeout a.tier).seqReport a.tier
    | .A => s.jackTimedOut a.tier .A
    | .B => s.jackTimedOut a.tier .B) s

end Sys2Proof.Machine
end

