-- ==== Sys2Proof/Machine/PlanRows.lean ====
section
/-! DEFINITION. The plan store's and the plan executor's commands (08). -/

namespace Sys2Proof.Machine

open Sys2Proof

/-! ### The store (R137, R138) -/

/-- A step as stored, when its codes and numbers are those R138 allows. -/
def planStep? (x : RawStep) : Option PlanStep :=
  match Idx8.ofNat? x.tier, (kindOfCode? x.kind).bind fun k => goalOf? k x.target, classOfCode? x.cls,
    condOfCode? x.cond with
  | some t, some g, some c, some d => some ⟨t, g, c, d⟩
  | _, _, _, _ => none

/-- The plan of the run context while that is RUNNING or HELD (R138, check 3). -/
def State.planInUse (s : State) (p : PlanNo) : Bool := s.plans.running && s.plans.plan == some p

/-- A plan of the store replaced. -/
def State.storePlan (s : State) (p : PlanNo) (l : List PlanStep) : State :=
  s.modPlans fun x => { x with store := x.store.set p l }

/-- PLAN_WRITE (R138). -/
def execPlanWrite (q : Src) (plan : Nat) (steps : List RawStep) (s : State) : Host.Outcome State Fault Refusal :=
  request (.planWrite q plan steps) q 0x30 (fun s =>
    if !s.isHolder q then s.refuseAuthority
    else
      match Idx8.ofNat? plan, steps.mapM planStep? with
      | some p, some l =>
        if l.isEmpty || decide (Config.planSteps < l.length) then s.refuse .badValue
        else if s.planInUse p then s.refuse .busy
        else (s.storePlan p l).answer .ok (beBytes 1 plan ++ beBytes 1 l.length)
      | _, _ => s.refuse .badValue) s

/-- PLAN_CLEAR (R138). -/
def execPlanClear (q : Src) (plan : Nat) (s : State) : Host.Outcome State Fault Refusal :=
  request (.planClear q plan) q 0x31 (fun s =>
    if !s.isHolder q then s.refuseAuthority
    else
      match Idx8.ofNat? plan with
      | some p => if s.planInUse p then s.refuse .busy else (s.storePlan p []).answer .ok []
      | none => s.refuse .badValue) s

/-! ### Start and abort (R140, R145) -/

/-- Check 7 of R140: a step names a present tier, a station that is taught, a tier with a tilt group. -/
def State.stepRunnable (s : State) (x : PlanStep) : Bool :=
  (s.tier x.tier).present &&
    match x.goal with
    | .rotate n => (s.stationAngle x.tier n).isSome
    | .tilt _ => (s.tier x.tier).tilt.isSome

/-- The context set for a start, and the first steps submitted (R140). -/
def State.startPlan (s : State) (p : PlanNo) (l : List PlanStep) : State :=
  ((s.modPlans fun x =>
    { x with
      plan := some p, state := .running, next := some 1, steps := l.map fun _ => ⟨.notSubmitted, false⟩
      failing := none, reason := none }).raisePlan .plain).testSteps

/-- The PLAN_START answer: the checks of R140 in order. -/
def State.planStartAnswer (s : State) (q : Src) (plan : Nat) : Answer :=
  if !s.inRun then s.refuse .mode
  else if !s.isHolder q then s.refuseAuthority
  else
    match Idx8.ofNat? plan with
    | none => s.refuse .badValue
    | some p =>
      let l := s.plans.store.get p
      if !s.isClear then s.refuse .stopped
      else if s.plans.running then s.refuse .busy
      else if l.isEmpty then s.refuse .notFound
      else
        match l.findIdx? fun x => !s.stepRunnable x with
        | some i => s.answer .badValue (beBytes 1 (i + 1))
        | none => (s.startPlan p l).answer .ok (beBytes 1 plan ++ beBytes 1 l.length)

/-- PLAN_START (R140). -/
def execPlanStart (q : Src) (plan : Nat) (s : State) : Host.Outcome State Fault Refusal :=
  request (.planStart q plan) q 0x32 (fun s => s.planStartAnswer q plan) s

/-- The PLAN_ABORT answer (R145): a RUNNING or HELD plan is aborted, and the reply has its number and the state ABORTED;
with any other context the reply has the state as it stands alone, and nothing changes. -/
def State.planAbortAnswer (s : State) (q : Src) : Answer :=
  if !s.isHolder q then s.refuseAuthority
  else if s.plans.running then s.abortPlan.answer .ok (idxByte s.plans.plan ++ [planCode .aborted])
  else s.answer .ok [planCode s.plans.state]

/-- PLAN_ABORT (R145). -/
def execPlanAbort (q : Src) (s : State) : Host.Outcome State Fault Refusal :=
  request (.planAbort q) q 0x33 (fun s => s.planAbortAnswer q) s

/-! ### Step ends, freed entries and orders -/

/-- STEP_END (R143). -/
def execStepEnd (n : Nat) (o : MoveOutcome) (r : Reason) (s : State) : Host.Outcome State Fault Refusal :=
  live (.stepEnd n o r) (fun s => s.takeStepEnd n o r) s

/-- FREED_ENTRY (R142): a RUNNING plan tries its step in WAITING_ROOM again. -/
def execFreedEntry (s : State) : Host.Outcome State Fault Refusal :=
  live .freedEntry (fun s =>
    match s.plans.next with
    | some k => if s.plans.status k = some .waitingRoom then s.retrySteps else s
    | none => s) s

/-- PLAN_HOLD_ORDER (R146). -/
def execPlanHoldOrder (s : State) : Host.Outcome State Fault Refusal :=
  live .planHoldOrder (fun s =>
    if s.plans.state = .running then (s.modPlans fun p => { p with state := .held }).raisePlan .plain else s) s

/-- PLAN_RESUME_ORDER (R146). -/
def execPlanResumeOrder (s : State) : Host.Outcome State Fault Refusal :=
  live .planResumeOrder (fun s =>
    if s.plans.state = .held then
      ((s.modPlans fun p => { p with state := .running }).raisePlan .plain).retrySteps
    else s) s

/-- PLAN_STOP_ORDER (R147). -/
def execPlanStopOrder (r : Reason) (s : State) : Host.Outcome State Fault Refusal :=
  live (.planStopOrder r) (fun s => s.stopPlan r) s

end Sys2Proof.Machine
end

