-- ==== Sys2Proof/Machine/Queries.lean ====
section
/-! DEFINITION. The seven queries (R20, R38, R61, R149, R163, R189, R196). None changes a state of the part beyond the
reply it hands to its port. -/

namespace Sys2Proof.Machine

open Sys2Proof

/-- HALL_STATUS (R196). -/
def execHallStatus (q : Src) (s : State) : Host.Outcome State Fault Refusal :=
  request (.hallStatus q) q 0x01 (fun s => s.answer .ok (hallStatusBytes s)) s

/-- TIER_STATUS (R189). -/
def execTierStatus (q : Src) (tier : Nat) (s : State) : Host.Outcome State Fault Refusal :=
  request (.tierStatus q tier) q 0x02 (fun s =>
    match Idx8.ofNat? tier with
    | none => s.refuse .badValue
    | some t => s.answer .ok (tierStatusBytes s t)) s

/-- The active record of a move's number with its stage: in a tier's slot or, until admission takes its end, among the
moves that have ended there (R35, R39; notes/assumptions/46.md). -/
def State.findActive (s : State) (n : Nat) : Option Ending :=
  (Idx8.all.findSome? fun t => ((s.seq t).slot.map fun a => ⟨a.move, a.stage⟩).filter fun e => e.move.number == n).or
    (Idx8.all.findSome? fun t => (s.seq t).ending.find? fun e => e.move.number == n)

/-- What MOVE_STATUS reports of a move in the state ACTIVE or SUSPENDED (R38). -/
def activeStatus (e : Ending) : List Byte :=
  [if e.stage = .suspended then 2 else 1, stageCode e.stage] ++ moveBytes e.move

/-- The MOVE_STATUS answer by the place where a number is found (R38). That the reply of a SUSPENDED move carries its stage
byte too is the model's choice (notes/assumptions/8.md). -/
def State.moveStatusAnswer (s : State) (n : Nat) : Answer :=
  if n = 0 then s.refuse .badValue
  else
    match s.adm.waiting.findIdx? (fun m => m.number == n), s.adm.waiting.find? (fun m => m.number == n) with
    | some i, some m => s.answer .ok ([0] ++ beBytes 2 (i + 1) ++ moveBytes m ++ [refusalCode m.lastRefusal])
    | _, _ =>
      match s.findActive n with
      | some e => s.answer .ok (activeStatus e)
      | none =>
        match s.adm.outcomes.find? fun o => o.number == n with
        | some o => s.answer .ok (3 :: outcomeBytes o)
        | none => s.refuse .notFound

/-- MOVE_STATUS (R38). -/
def execMoveStatus (q : Src) (n : Nat) (s : State) : Host.Outcome State Fault Refusal :=
  request (.moveStatus q n) q 0x03 (fun s => s.moveStatusAnswer n) s

/-- READ_CELLS (R61). -/
def execReadCells (q : Src) (s : State) : Host.Outcome State Fault Refusal :=
  request (.readCells q) q 0x04 (fun s => s.answer .ok (readCellsBytes s)) s

/-- The READ_TABLE answer (R20, R186, R190). -/
def State.tableAnswer (s : State) (selector first second : Nat) : Answer :=
  match selector with
  | 0 => s.answer .ok (hallBytes s.tables.hall)
  | 1 =>
    match Idx8.ofNat? first with
    | some t => s.answer .ok (tierBytes t (s.tier t))
    | none => s.refuse .badValue
  | 2 =>
    match axisOfCode? first with
    | some a => s.answer .ok (axisBytes a (s.axisRec a))
    | none => s.refuse .badValue
  | 3 =>
    match Idx8.ofNat? first with
    | some t => if second < 36 then s.answer .ok (bandBytes t second (s.bandCells t second)) else s.refuse .badValue
    | none => s.refuse .badValue
  | 4 =>
    match Idx8.ofNat? first, Idx8.ofNat? second with
    | some t, some n => s.answer .ok (stationBytes t n (s.stationAngle t n))
    | _, _ => s.refuse .badValue
  | _ => s.refuse .badValue

/-- READ_TABLE (R20). -/
def execReadTable (q : Src) (selector first second : Nat) (s : State) : Host.Outcome State Fault Refusal :=
  request (.readTable q selector first second) q 0x05 (fun s => s.tableAnswer selector first second) s

/-- PLAN_STATUS (R149). -/
def execPlanStatus (q : Src) (plan : Nat) (s : State) : Host.Outcome State Fault Refusal :=
  request (.planStatus q plan) q 0x06 (fun s =>
    if 8 < plan then s.refuse .badValue else s.answer .ok (planStatusBytes s (Idx8.ofNat? plan))) s

/-- READ_FAULT (R163). -/
def execReadFault (q : Src) (s : State) : Host.Outcome State Fault Refusal :=
  request (.readFault q) q 0x07 (fun s => s.answer .ok (readFaultBytes s)) s

end Sys2Proof.Machine
end

