-- ==== Sys2Proof/Machine/Stops.lean ====
section
/-! DEFINITION. The stop manager's commands: causes, the HOLD, RESUME, STOP and RESET_FAULT(HALL) requests, the ESTOP,
limit and drive-ready inputs, braked reports and the repowering timeout (09). -/

namespace Sys2Proof.Machine

open Sys2Proof

/-- A field input's change: while RESET_N is held low the level alone is kept. -/
def inputChange (c : Instr) (level act : State → State) (s : State) : Host.Outcome State Fault Refusal :=
  .next (if s.held then level { s with mail := s.mail.erase c } else act { s with mail := s.mail.erase c })

/-! ### Causes -/

/-- CAUSE_REPORT (R153). -/
def execCauseReport (c : Cause) (s : State) : Host.Outcome State Fault Refusal :=
  live (.causeReport c) (fun s => s.takeCause c) s

/-- A tier cause recorded (R161): its kind is seen, the count rises when a record stands, FAULT is raised. -/
def State.recordTierCause (s : State) (t : Tier) (k : TierCause) : State :=
  (s.countCause (tierCauseKind k) false).raise (.fault (tierCauseKind k) (some t) none false)

/-- TIER_CAUSE_REPORT (R161). -/
def execTierCauseReport (t : Tier) (k : TierCause) (number : Option Nat) (s : State) :
    Host.Outcome State Fault Refusal :=
  live (.tierCauseReport t k number) (fun s => s.recordTierCause t k) s

/-- BRAKED_REPORT (R154, R157). -/
def execBrakedReport (t : Tier) (braked : Bool) (s : State) : Host.Outcome State Fault Refusal :=
  live (.brakedReport t braked)
    (fun s => (s.modMan fun m => { m with braked := m.braked.set t braked }).settleStop) s

/-! ### Requests -/

/-- HOLD (R155). -/
def execHold (q : Src) (s : State) : Host.Outcome State Fault Refusal :=
  request (.hold q) q 0x18 (fun s =>
    let s1 := s.takeCause (bareCause .hold)
    s1.answer .ok [stopCode s1.man.state]) s

/-- STOP (R158). -/
def execStop (q : Src) (s : State) : Host.Outcome State Fault Refusal :=
  request (.stop q) q 0x1A (fun s =>
    let s1 := s.takeCause (bareCause .stop)
    s1.answer .ok [stopCode s1.man.state]) s

/-- An accepted RESUME: CLEAR, and a resume order to each sequencer and the plan executor (R156). The grant pass of the
change to CLEAR stands before the resume orders, an order that R151 and R156 do not give (the model's choice,
notes/assumptions/69.md). -/
def State.resumeHall (s : State) : State := (s.toClear.emitAll (Idx8.all.map .resumeOrder)).emit .planResumeOrder

/-- RESUME (R156). -/
def execResume (q : Src) (s : State) : Host.Outcome State Fault Refusal :=
  request (.resume q) q 0x19 (fun s =>
    if !s.isHolder q then s.refuseAuthority
    else
      match s.man.state with
      | .held => s.resumeHall.answer .ok []
      | .holding => s.refuse .busy
      | .clear => s.refuse .conflict
      | .stopping | .stopped | .tripped | .repowering => s.refuse .stopped) s

/-- Repowering begins (R165): REPOWERING, the contactor closed, the timer started, and the drives tested. -/
def State.repowerHall (s : State) : State :=
  (((s.setStop .repowering none).setContactor true).modMan fun m =>
    { m with repower := some ⟨s.clock, Config.repowerTime⟩ }).testDrives

/-- The RESET_FAULT(HALL) answer by stop state (R164). -/
def State.resetHall (s : State) : Answer :=
  match s.man.state with
  | .clear | .holding | .held => (s.modMan fun m => { m with seen := 0, further := 0 }).answer .ok []
  | .stopping | .repowering => s.refuse .busy
  | .stopped => if s.man.estop then s.refuse .interlock else s.clearRecord.toClear.answer .ok []
  | .tripped =>
    if s.man.estop then s.refuse .interlock
    else
      match s.inRun, s.limitsActive with
      | true, a :: _ => s.answer .interlock (axisByte (some a))
      | _, _ => s.repowerHall.answer .ok []

/-- RESET_FAULT naming HALL (R164). -/
def execResetFaultHall (q : Src) (s : State) : Host.Outcome State Fault Refusal :=
  request (.resetFaultHall q) q 0x1B (fun s => if s.holderOrNone q then s.resetHall else s.refuseAuthority) s

/-! ### Field inputs (R92, R160) -/

/-- ESTOP_INPUT_CHANGE (R160). -/
def execEstopInputChange (active : Bool) (s : State) : Host.Outcome State Fault Refusal :=
  inputChange (.estopInputChange active) (fun s => s.modMan fun m => { m with estop := active })
    (fun s =>
      let s1 := s.modMan fun m => { m with estop := active }
      if active && !s.man.estop then s1.takeCause (bareCause .estop) else s1) s

/-- A limit input's new level (R92, R160): an inactive one ends the axis's exemption; a change of a present axis asks
for a grant pass, and one that becomes active under a released brake is LIMIT_HIT. -/
def State.limitChanged (s : State) (a : Axis) (active : Bool) : State :=
  if (s.axis a).limit = active then s
  else
    let s1 := s.modAxis a fun x => { x with limit := active }
    let s2 := if active then s1 else s1.setExempt a false
    if s2.axisPresent a then
      let s3 := s2.requestPass
      if active && (s3.axis a).released then s3.takeCause (s3.axisCause a .limitHit) else s3
    else s2

/-- LIMIT_INPUT_CHANGE (R92). -/
def execLimitInputChange (a : Axis) (active : Bool) (s : State) : Host.Outcome State Fault Refusal :=
  inputChange (.limitInputChange a active) (fun s => s.modAxis a fun x => { x with limit := active })
    (fun s => s.limitChanged a active) s

/-- A drive-ready input's new level (R92, R160, R165): a change of a present axis asks for a grant pass; one lost under
a released brake is DRIVE_LOST; REPOWERING tests its drives. -/
def State.readyChanged (s : State) (a : Axis) (ready : Bool) : State :=
  if (s.axis a).ready = ready then s
  else
    let s1 := s.modAxis a fun x => { x with ready := ready }
    if s1.axisPresent a then
      let s2 := s1.requestPass
      let s3 := if !ready && (s2.axis a).released then s2.takeCause (s2.axisCause a .driveLost) else s2
      s3.testDrives
    else s1

/-- DRIVE_READY_CHANGE (R92). -/
def execDriveReadyChange (a : Axis) (ready : Bool) (s : State) : Host.Outcome State Fault Refusal :=
  inputChange (.driveReadyChange a ready) (fun s => s.modAxis a fun x => { x with ready := ready })
    (fun s => s.readyChanged a ready) s

/-! ### The repowering timeout (R165) -/

/-- The timer runs out first: STOPPED, with a record of DRIVE_NOT_READY for the first present axis not ready, the
seen-kinds set that kind alone and the count 0; FAULT is raised. With no present axis that is not ready any more the record
and the event name no tier and no axis (the model's choice, notes/assumptions/55.md). -/
def State.repowerFailed (s : State) : State :=
  let a := s.drivesNotReady.head?
  let t := a.map (·.tier)
  let s1 := s.modMan fun m =>
    { m with
      repower := none
      record := some ⟨.driveNotReady, t, a, none, none, none, s.clock⟩
      seen := kindSet .driveNotReady
      further := 0 }
  (s1.setStop .stopped (some .driveNotReady)).raise (.fault .driveNotReady t a true)

/-- REPOWERING_TIMEOUT (R165): it finds nothing to do unless the timer runs and has run out. -/
def execRepoweringTimeout (s : State) : Host.Outcome State Fault Refusal :=
  live .repoweringTimeout (fun s =>
    if s.man.state = .repowering ∧ dueTimer s.man.repower s.clock then s.repowerFailed else s) s

end Sys2Proof.Machine
end

