-- ==== Sys2Proof/Machine/Sequencers.lean ====
section
/-! DEFINITION. The tier sequencers' commands: the lock inputs and timer, the lift and set reports, the stop manager's
orders, JOG, JOG_STOP and RESET_FAULT of a tier (04). -/

namespace Sys2Proof.Machine

open Sys2Proof

/-! ### The lock -/

/-- The lock inputs' new levels (R67). -/
def State.lockInputs (s : State) (t : Tier) (lockIn lockOut : Bool) : State :=
  s.modSeq t fun q => { q with lockIn := lockIn, lockOut := lockOut }

/-- LOCK_INPUT_CHANGE (R67). -/
def execLockInputChange (t : Tier) (lockIn lockOut : Bool) (s : State) : Host.Outcome State Fault Refusal :=
  inputChange (.lockInputChange t lockIn lockOut) (fun s => s.lockInputs t lockIn lockOut)
    (fun s =>
      if (s.seq t).lockIn = lockIn ∧ (s.seq t).lockOut = lockOut then s
      else ((s.lockInputs t lockIn lockOut).refindLock t).seqReport t) s

/-- LOCK_TIMER_EXPIRY (R68): it finds nothing to do unless the timer runs and has run out. -/
def execLockTimerExpiry (t : Tier) (s : State) : Host.Outcome State Fault Refusal :=
  live (.lockTimerExpiry t) (fun s =>
    if dueTimer (s.seq t).lockTimer s.clock then (s.lockTimedOut t).seqReport t else s) s

/-! ### Lift and set reports of the rotation axis -/

/-- LIFT_COMPLETE (R72, R93). -/
def execLiftComplete (t : Tier) (s : State) : Host.Outcome State Fault Refusal :=
  live (.liftComplete t) (fun s => (s.liftDone t true).seqReport t) s

/-- SET_COMPLETE (R74, R94). -/
def execSetComplete (t : Tier) (s : State) : Host.Outcome State Fault Refusal :=
  live (.setComplete t) (fun s => (s.setDone t true).seqReport t) s

/-! ### Orders of the stop manager -/

/-- A hold order meets the active move (R79). -/
def State.holdMove (s : State) (t : Tier) : State :=
  match (s.seq t).slot with
  | none => s
  | some a =>
    match a.stage with
    | .withdrawLock => s.modActive t fun a => { a with stage := .suspended, context := some .withdrawLock }
    | .liftBrake => (s.applyBrakes t).modActive t fun a => { a with stage := .suspended, context := some .liftBrake }
    | .travel => (s.modActive t fun a => { a with stage := .suspending, context := some .travel }).orderStop t .a
    | .settle => (s.modActive t fun a => { a with stage := .suspending, context := some .settle }).orderStop t .a
    | .setBrake | .engageLock | .suspending | .halting | .suspended => s

/-- HOLD_ORDER (R79, R86). -/
def execHoldOrder (t : Tier) (s : State) : Host.Outcome State Fault Refusal :=
  live (.holdOrder t) (fun s => ((s.holdMove t).haltJog t .hold).seqReport t) s

/-- A quick-stop order meets the active move (R80). -/
def State.quickMove (s : State) (t : Tier) : State :=
  match (s.seq t).slot with
  | none => s
  | some a =>
    match a.stage with
    | .travel | .settle | .suspending => s.haltMove t a.stopEnd
    | .halting => s
    | .withdrawLock | .liftBrake | .setBrake | .engageLock | .suspended =>
      (s.applyBrakes t).endMove t a.stopEnd.1 a.stopEnd.2

/-- QUICK_STOP_ORDER (R80, R86). -/
def execQuickStopOrder (t : Tier) (s : State) : Host.Outcome State Fault Refusal :=
  live (.quickStopOrder t) (fun s => ((s.quickMove t).haltJog t .quickStop).seqReport t) s

/-- A trip order (R81): every brake of the tier is ordered applied at once, the active move ends ABORTED with reason
TRIP, and a jog ends. -/
def State.tripTier (s : State) (t : Tier) : State :=
  let s1 := (s.emitAll [.axisTripOrder ⟨t, .R⟩, .pairTripOrder t]).modSeq t fun q => { q with braked := true }
  let s2 := s1.endMove t .aborted .trip
  s2.when (s2.seq t).jog.isSome fun s => s.endJog t

/-- TRIP_ORDER (R81). -/
def execTripOrder (t : Tier) (s : State) : Host.Outcome State Fault Refusal :=
  live (.tripOrder t) (fun s => (s.tripTier t).seqReport t) s

/-- A resume order meets a SUSPENDED move (R83). -/
def State.resumeMove (s : State) (t : Tier) : State :=
  match (s.seq t).slot with
  | none => s
  | some a =>
    if a.stage ≠ .suspended then s
    else if a.context = some .withdrawLock then
      match (s.seq t).lockState with
      | .withdrawing => s.modActive t fun a => { a with stage := .withdrawLock, context := none }
      | .withdrawn => s.enterLift t
      | .engaged | .engaging | .conflicted => s.enterWithdraw t
    else s.enterLift t

/-- A SUSPENDED move marked with whether it was suspended in SETTLE, which its next travel order asks (R83). -/
def Active.markResumed (a : Active) : Active :=
  if a.stage = .suspended then { a with fromSettle := a.context == some .settle } else a

/-- RESUME_ORDER (R83). -/
def execResumeOrder (t : Tier) (s : State) : Host.Outcome State Fault Refusal :=
  live (.resumeOrder t) (fun s => (((s.modActive t Active.markResumed).resumeMove t).seqReport t)) s

/-! ### Jog (R84 to R87) -/

/-- The axes of a jog's target. -/
def jogAxes (t : Tier) : JogTarget → List Axis
  | .rotation => [⟨t, .R⟩]
  | .pair => [⟨t, .A⟩, ⟨t, .B⟩]

/-- Check 8 of R84: the axis lies short of the travel end in the direction asked. -/
def State.shortOfEnd (s : State) (d : Dir) (a : Axis) : Bool :=
  match d with
  | .up => decide ((s.axis a).position < Config.fine * (s.axisRange a).2)
  | .down => decide (Config.fine * (s.axisRange a).1 < (s.axis a).position)

/-- Check 9 of R84: an axis on its limit input is jogged toward the middle of its travel. -/
def State.offLimit (s : State) (d : Dir) (a : Axis) : Bool :=
  let middle := Config.fine * (((s.axisRange a).1 + (s.axisRange a).2) / 2)
  !(s.axis a).limit ||
    match d with
    | .up => decide ((s.axis a).position < middle)
    | .down => decide (middle < (s.axis a).position)

/-- An accepted JOG starts (R85): its context is held, the exemption marks of its target's axes on their limit inputs are
set, and it enters its first stage. -/
def State.startJog (s : State) (t : Tier) (target : JogTarget) (d : Dir) : State :=
  let axes := jogAxes t target
  let limits : Axes Bool :=
    ⟨axes.contains ⟨t, .R⟩ && (s.axis ⟨t, .R⟩).limit, axes.contains ⟨t, .A⟩ && (s.axis ⟨t, .A⟩).limit,
     axes.contains ⟨t, .B⟩ && (s.axis ⟨t, .B⟩).limit⟩
  let s1 := (s.modSeq t fun q => { q with jog := some ⟨target, d, .withdrawLock, limits, none⟩ }).modMan fun m =>
    { m with exempt := m.exempt.set t limits }
  let s2 :=
    match target with
    | .rotation => s1.enterWithdraw t
    | .pair => s1.jogLift t
  s2.seqReport t

/-- The JOG answer: the checks of R84 in order, and then the jog. -/
def State.jogAnswer (s : State) (q : Src) (tier target dir : Nat) : Answer :=
  if !s.inSetup then s.refuse .mode
  else if !s.isHolder q then s.refuseAuthority
  else
    match Idx8.ofNat? tier, jogTargetOfCode? target, dirOfCode? dir with
    | some t, some g, some d =>
      if !(s.tier t).present || (g == .pair && (s.tier t).tilt.isNone) then s.refuse .badValue
      else if !s.isClear then s.refuse .stopped
      else if s.jogRuns then s.refuse .busy
      else if !((jogAxes t g).all fun a => (s.axis a).valid && (s.axis a).ready) then s.refuse .interlock
      else if g == .rotation && !(s.pair t).toldStowed then s.refuse .interlock
      else if !((jogAxes t g).all fun a => s.shortOfEnd d a) then s.refuse .interlock
      else if !((jogAxes t g).all fun a => s.offLimit d a) then s.refuse .interlock
      else (s.startJog t g d).answer .ok []
    | _, _, _ => s.refuse .badValue

/-- JOG (R84). -/
def execJog (q : Src) (tier target dir : Nat) (s : State) : Host.Outcome State Fault Refusal :=
  request (.jog q tier target dir) q 0x22 (fun s => s.jogAnswer q tier target dir) s

/-- JOG_STOP (R87): the running jog, if any, is halted or ended as R86 states. -/
def execJogStop (q : Src) (s : State) : Host.Outcome State Fault Refusal :=
  request (.jogStop q) q 0x23 (fun s =>
    match s.joggedTier with
    | some t => (((s.haltJog t .jogStop).seqReport t)).answer .ok []
    | none => s.answer .ok []) s

/-! ### RESET_FAULT of a tier (R78, R166) -/

/-- The sequencer's answer to a RESET_FAULT of its tier (R78). -/
def State.resetTier (s : State) (t : Tier) : Answer :=
  let q := s.seq t
  if q.slot.isSome then s.refuse .busy
  else if q.lockState = .conflicted then s.refuse .interlock
  else if q.inhibit.isNone then s.answer .ok []
  else (((s.modSeq t fun q => { q with inhibit := none }).requestPass).raise (.tier t .inhibitCleared)).answer .ok []

/-- RESET_FAULT naming a tier (R164, R166). -/
def execResetFaultTier (q : Src) (tier : Nat) (s : State) : Host.Outcome State Fault Refusal :=
  request (.resetFaultTier q tier) q 0x1B (fun s =>
    if !s.holderOrNone q then s.refuseAuthority
    else
      match Idx8.ofNat? tier with
      | none => s.refuse .badValue
      | some t => s.resetTier t) s

end Sys2Proof.Machine
end

