-- ==== Sys2Proof/Machine/StartUp.lean ====
section
/-! DEFINITION. Power-on, RESET_N and RESTART (R150, R178, R179, and the reset columns of each block's state). -/

namespace Sys2Proof.Machine

open Sys2Proof

/-! ### Power-on and RESET_N (R178) -/

/-- A sequencer after power-on with its lock inputs as read (R64, R67). -/
def Seq.started (q : Seq) : Seq :=
  { Seq.initial with lockIn := q.lockIn, lockOut := q.lockOut, lockState := lockStateOf q.lockIn q.lockOut none }

/-- An axis controller after power-on with its inputs as read (R88). -/
def AxisCtl.started (x : AxisCtl) : AxisCtl := { AxisCtl.initial with limit := x.limit, ready := x.ready }

/-- The seen-kinds set of one record kind, with ESTOP added while that input is active (R150). -/
def seenAtStart (k : Kind) (estop : Bool) : KindSet := kindSet k ||| (if estop then kindSet .estop else 0)

/-- Every block takes its state of power-on and RESET_N, the field inputs as read (R178). The level of RESET_N and the
queue of commands waiting are not state of a block. -/
def State.powerUp (s : State) : State :=
  { State.reset with
    seqs := s.seqs.mapIdx fun _ q => q.started
    axes := s.axes.mapIdx fun _ x => x.map AxisCtl.started
    man := { StopManager.initial with seen := seenAtStart .powerOn s.man.estop, estop := s.man.estop }
    held := s.held
    pending := s.pending }

/-- POWER_ON (R178). -/
def execPowerOn (s : State) : Host.Outcome State Fault Refusal := .next s.powerUp

/-- The outputs of an axis de-energised (R178). -/
def AxisCtl.cut (x : AxisCtl) : AxisCtl := { x with released := false, speed := 0, saturated := false, contactor := false }

/-- A link port with RESET_N low: ATTN deasserted (R194), the transmitter idle, a frame in reception or transmission lost.
The port's enable set, notices, input queue and waiting reply stand until the release empties them, which the rules leave
open (the model's choice, notes/assumptions/64.md). -/
def LinkPort.cut (p : LinkPort) : LinkPort := { p with rx := ⟨.hunt, [], none⟩, sending := none, attn := false }

/-- RESET_N held low (R178, R127, R194): every output de-energised, both transmitters idle, no byte received, the load bus
released, the latch empty, and nothing on its way between blocks. -/
def State.cut (s : State) : State :=
  { s with
    held := true
    seqs := s.seqs.mapIdx fun _ q => { q with lockCmd := .engage }
    axes := s.axes.mapIdx fun _ x => x.map AxisCtl.cut
    man := { s.man with contactor := false }
    mon := { s.mon with transaction := .idle }
    ports := ⟨s.ports.a.cut, s.ports.b.cut⟩
    latched := 0
    mail := [] }

/-- RESET_N_ASSERT (R178). -/
def execResetNAssert (s : State) : Host.Outcome State Fault Refusal := .next s.cut

/-- RESET_N_RELEASE (R178). -/
def execResetNRelease (s : State) : Host.Outcome State Fault Refusal := .next { s.powerUp with held := false }

/-! ### RESTART (R179) -/

/-- Every brake is applied and every tier is at rest. -/
def State.atRest (s : State) : Bool :=
  allAxes.all (fun a => !(s.axis a).released) && Idx8.all.all fun t => !(s.seq t).inMotion

/-- A sequencer after RESTART (R64): the slot emptied, the ends on their way dropped and any jog ended; a move emptied from ENGAGE_LOCK leaves its
engagement running with its station pending. -/
def Seq.restarted (q : Seq) : Seq :=
  { q with
    slot := none
    ending := []
    jog := none
    pendingStation :=
      match q.slot with
      | some a =>
        if a.stage = .engageLock ∧ q.transition = some .engage then
          (match a.move.goal with | .rotate n => some n | .tilt _ => q.pendingStation)
        else q.pendingStation
      | none => q.pendingStation
    braked := true
    toldBraked := true
    toldMotion := false
    toldTravel := none }

/-- An axis controller after RESTART (R88): encoder data and inputs carried on. R88 gives velocity 0 and no target, and no
direction then: that the direction is carried on is the model's choice (notes/assumptions/62.md). -/
def AxisCtl.restarted (x : AxisCtl) : AxisCtl :=
  { AxisCtl.initial with
    count := x.count, position := x.position, valid := x.valid, missRun := x.missRun, previous := x.previous
    demand := x.position, encoderMiss := x.encoderMiss, limit := x.limit, ready := x.ready, dir := x.dir }

/-- A pair unit after RESTART (R112): positions, skew, degrade and stowed carried on. R112 gives shared velocity 0 and no
target, and no direction then: that the direction is carried on is the model's choice (notes/assumptions/62.md). -/
def PairUnit.restarted (p : PairUnit) : PairUnit :=
  { PairUnit.initial with
    latest := p.latest, skew := p.skew, degrade := p.degrade, stowed := p.stowed, toldStowed := p.toldStowed
    dir := p.dir }

/-- A report that is not cut short by a RESTART: requests and frames at the ports go on, and a jack's position is
encoder data. -/
def survivesRestart (c : Instr) : Bool :=
  (requestSrc c).isSome ||
    match c with
    | .frameDispatch _ | .jackPositionReport _ _ _ _ => true
    | _ => false

/-- An accepted RESTART (R179). -/
def State.restart (s : State) : State :=
  let s1 : State :=
    { s with
      adm := { s.adm with waiting := [], outcomes := [] }
      arb :=
        { Arbiter.initial with
          tiers := s.pairs.mapIdx fun _ p => { Holding.initial with stowed := p.toldStowed } }
      seqs := s.seqs.mapIdx fun _ q => q.restarted
      axes := s.axes.mapIdx fun _ x => x.map AxisCtl.restarted
      pairs := s.pairs.mapIdx fun _ p => p.restarted
      mon := { s.mon with tiers := s.mon.tiers.mapIdx fun _ l => { l with inTravel := none, overMark := false } }
      plans := { Plans.initial with store := s.plans.store }
      man :=
        { StopManager.initial with
          record := some ⟨.restart, none, none, none, none, none, s.clock⟩
          seen := seenAtStart .restart s.man.estop
          estop := s.man.estop }
      auth := Authority.initial
      latched := 0
      mail := s.mail.filter survivesRestart }
  (s1.judge .A).judge .B

/-- RESTART (R179). -/
def execRestart (q : Src) (s : State) : Host.Outcome State Fault Refusal :=
  request (.restart q) q 0x15 (fun s =>
    if !s.holderOrNone q then s.refuseAuthority
    else if !s.atRest then s.refuse .busy
    else s.restart.answer .ok []) s

end Sys2Proof.Machine
end

