-- ==== Sys2Proof/Machine/TableOps.lean ====
section
/-! DEFINITION. The records of the hall tables as a write stores them: the structural checks, the clamps, and what a
changed tier record does in the other blocks (01). -/

namespace Sys2Proof.Machine

open Sys2Proof

/-- OK when a record was stored as sent, ADJUSTED when a field was clamped (R2). -/
def writeStatus (clamped : Bool) : Status := if clamped then .adjusted else .ok

/-! ### Clamps (R3, R5, R8, R11) -/

def clampHall (w : HallRec) : HallRec where
  capacity := clampNat 1 4000 w.capacity
  bypassLimit := clampNat 1 15 w.bypassLimit
  releaseMargin := clampNat 0 1000 w.releaseMargin
  tEn := clampNat 100 2000 w.tEn
  tEsc := clampNat 1000 60000 w.tEsc

def clampTilt (w : TiltRec) : TiltRec :=
  let lo := clampNat 0 20000 w.jackMin
  let hi := clampNat 0 20000 w.jackMax
  let warn := clampNat 1 500 w.skewWarn
  { jackMin := lo
    jackMax := hi
    stow := min hi (max lo (clampNat 0 20000 w.stow))
    skewWarn := warn
    skewTrip := max warn (clampNat 1 1000 w.skewTrip)
    ks := clampNat 0 255 w.ks
    demandA := clampNat 0 1000 w.demandA
    demandB := clampNat 0 1000 w.demandB
    raised := w.raised }

/-- The tier record that a SET_TIER stores (R7): every field as sent and clamped, a write that clears the present flag not
excepted (the model's choice between R6 and R7, notes/assumptions/44.md). -/
def storedTier (w : TierWrite) : TierRec :=
  let presence := clampNat 10 10000 w.presence
  { present := w.present == 1
    travelMin := clampInt (-18000) 18000 w.travelMin
    travelMax := clampInt (-18000) 18000 w.travelMax
    lockTime := clampNat 100 10000 w.lockTime
    presence := presence
    overload := max presence (clampNat 100 200000 w.overload)
    cells := w.cells
    rotDemand := clampNat 0 1000 w.rotDemand
    tilt := w.tilt.map clampTilt }

/-- Some field of a SET_TIER was clamped. -/
def tierClamped (w : TierWrite) : Bool :=
  let r := storedTier w
  decide (r.travelMin ≠ w.travelMin) || decide (r.travelMax ≠ w.travelMax) || decide (r.lockTime ≠ w.lockTime) ||
    decide (r.presence ≠ w.presence) || decide (r.overload ≠ w.overload) || decide (r.rotDemand ≠ w.rotDemand) ||
    decide (r.tilt ≠ w.tilt)

def clampAxis (w : AxisRec) : AxisRec :=
  let a := clampNat 1 255 w.a
  { vLim := clampNat 1 4095 w.vLim
    a := a
    aQs := max a (clampNat 1 255 w.aQs)
    kff := clampNat 0 8191 w.kff
    kp := clampNat 0 255 w.kp
    feLimit := clampNat 1 4095 w.feLimit
    window := clampNat 1 65535 w.window
    settleCount := clampNat 1 100 w.settleCount
    settleTimeout := clampNat 1 1000 w.settleTimeout
    liftTime := clampNat 0 2000 w.liftTime
    setTime := clampNat 0 2000 w.setTime
    zero := clampNat 0 Config.zeroMax w.zero }

/-! ### Structural checks (R2, R7, R16) -/

/-- No value stands in a list twice. -/
def noRepeat (l : List Nat) : Bool := decide l.Nodup

/-- A load cell list is structurally sound (R7). -/
def State.cellsSound (s : State) (t : Tier) (l : List Nat) : Bool :=
  decide (l.length ≤ 4) && l.all (fun a => decide (0x08 ≤ a ∧ a ≤ 0x77)) && noRepeat l &&
    Idx8.all.all fun u => u == t || l.all fun a => !(s.tier u).cells.contains a

/-- A SET_TIER is structurally sound. -/
def State.tierSound (s : State) (t : Tier) (w : TierWrite) : Bool :=
  decide (w.present ≤ 1) && decide (w.tiltFlag ≤ 1) && s.cellsSound t w.cells

/-- A floor cell list is structurally sound (R2, R16). -/
def bandSound (l : List Nat) : Bool := decide (l.length ≤ 64) && l.all (fun c => decide (c < 64)) && noRepeat l

/-! ### What a new tier record does in the other blocks (R64, R122, R123, R129, R133) -/

/-- The tilt group part is removed: degrade clear, skew unknown, marks clear, stowed (R123). A unit still in SETTING enters
IDLE at once (R112), as by a trip order: it serves nothing and forgets its profile (the model's choice,
notes/assumptions/43.md). -/
def State.dropTilt (s : State) (t : Tier) : State :=
  (s.modPair t fun p =>
    { p.brake with
      degrade := false, skew := none, markSkew := false, markSevere := false, stowed := true, phase := .idle
      served := .none }).reportStowed t

/-- A tilt group part is added: degrade and marks clear, the skew computed, and stowed decided (R122, R123). -/
def State.addTilt (s : State) (t : Tier) : State :=
  (s.modPair t fun p =>
    { p with degrade := false, markSkew := false, markSevere := false, skew := skewOf p.latest }).decideStowed t

/-- The pair unit meets a new tier record. -/
def State.pairMeets (s : State) (t : Tier) (old new : TierRec) : State :=
  match old.tilt, new.tilt with
  | some _, none => s.dropTilt t
  | none, some _ => s.addTilt t
  | _, _ => if !old.present && new.present then s.decideStowed t else s

/-- A tier made present: a CONFLICTED lock sets its inhibit (R64), and the arbiter has its figures from then on (R133). -/
def State.madePresent (s : State) (t : Tier) : State :=
  (s.when ((s.seq t).lockState == LockState.conflicted) fun s => s.tierCause t .lockConflict).requestPass

/-- A tier record stored, and everything that follows from it. What a new load cell list changes is reported by the new
present flag (the model's choice, notes/assumptions/50.md). The order of what one write reports is the model's choice too: LOAD
for the cell list, then the stowed condition, then the LOCK_CONFLICT with TIER of a tier made present
(notes/assumptions/70.md). -/
def State.storeTier (s : State) (t : Tier) (new : TierRec) : State :=
  let old := s.tier t
  let s1 := s.modTables fun x => { x with tiers := x.tiers.set t new }
  let s2 := s1.when (decide (old.cells ≠ new.cells)) fun s => s.restartCells t new.cells.length
  let s3 := s2.pairMeets t old new
  let s4 := s3.when (!old.present && new.present) fun s => s.madePresent t
  s4.seqReport t

/-- An axis record stored; a new zero offset moves the position at once, and a jack's pair unit hears of it (R12, R110). -/
def State.storeAxis (s : State) (a : Axis) (r : AxisRec) : State :=
  let old := s.axisRec a
  let s1 := s.modTables fun x => { x with axes := x.axes.set a.tier ((x.axes.get a.tier).set a.role r) }
  if old.zero = r.zero then s1 else (s1.modAxis a fun x => x.rezero r.zero).reportJack a

/-- A station entry stored (R19): a write of the current station that leaves its entry absent, whether or not it was absent
before, or with another angle makes the current station unknown; the same angle written again leaves it known. -/
def State.storeStation (s : State) (t : Tier) (n : Station) (x : Option Int) : State :=
  let lost := decide ((s.seq t).station = some n) && decide (x = none ∨ s.stationAngle t n ≠ x)
  let s1 := s.modTables fun y => { y with stations := y.stations.set t ((y.stations.get t).set n x) }
  s1.when lost fun s =>
    (s.modSeq t fun q => { q with station := none }).when (s.tier t).present State.requestPass

end Sys2Proof.Machine
end

