-- ==== Sys2Proof/Machine/TableWrites.lean ====
section
/-! DEFINITION. The table writes: SET_HALL, SET_TIER, SET_AXIS, SET_BAND, SET_STATION and SET_POSITION (01). -/

namespace Sys2Proof.Machine

open Sys2Proof

/-- The checks of R2 before the structural ones: the mode is SETUP, and the port holds authority. -/
def State.writeGuard (s : State) (q : Src) (f : Answer) : Answer :=
  if !s.inSetup then s.refuse .mode
  else if !s.isHolder q then s.refuseAuthority
  else f

/-- SET_HALL (R3). -/
def execSetHall (q : Src) (w : HallRec) (s : State) : Host.Outcome State Fault Refusal :=
  request (.setHall q w) q 0x28 (fun s =>
    s.writeGuard q
      ((s.modTables fun x => { x with hall := (clampHall w) }).answer (writeStatus (decide ((clampHall w) ≠ w)))
        (hallBytes (clampHall w)))) s

/-- SET_TIER (R7). -/
def execSetTier (q : Src) (tier : Nat) (w : TierWrite) (s : State) : Host.Outcome State Fault Refusal :=
  request (.setTier q tier w) q 0x29 (fun s =>
    s.writeGuard q
      (match Idx8.ofNat? tier with
       | none => s.refuse .badValue
       | some t =>
         if !s.tierSound t w then s.refuse .badValue
         else if s.tierBusy t then s.refuse .busy
         else (s.storeTier t (storedTier w)).answer (writeStatus (tierClamped w)) (tierBytes t (storedTier w)))) s

/-- SET_AXIS (R12). -/
def execSetAxis (q : Src) (axis : Nat) (w : AxisRec) (s : State) : Host.Outcome State Fault Refusal :=
  request (.setAxis q axis w) q 0x2A (fun s =>
    s.writeGuard q
      (match axisOfCode? axis with
       | none => s.refuse .badValue
       | some a =>
         if s.tierBusy a.tier then s.refuse .busy
         else (s.storeAxis a (clampAxis w)).answer (writeStatus (decide ((clampAxis w) ≠ w))) (axisBytes a (clampAxis w)))) s

/-- SET_BAND (R16). -/
def execSetBand (q : Src) (tier band : Nat) (cells : List Nat) (s : State) : Host.Outcome State Fault Refusal :=
  request (.setBand q tier band cells) q 0x2B (fun s =>
    s.writeGuard q
      (match Idx8.ofNat? tier with
       | none => s.refuse .badValue
       | some t =>
         if !(decide (band < 36) && bandSound cells) then s.refuse .badValue
         else if s.tierBusy t then s.refuse .busy
         else
           (s.modTables fun x =>
             { x with bands := x.bands.set t ((x.bands.get t).setIfInBounds band (cellsOf cells)) }).answer .ok
             (bandBytes t band (cellsOf cells)))) s

/-- An angle lies within a tier's travel range as stored (R17). -/
def State.angleInside (s : State) (t : Tier) (angle : Int) : Bool :=
  decide ((s.tier t).travelMin ≤ angle ∧ angle ≤ (s.tier t).travelMax)

/-- A station taught at an angle that has passed its checks, and echoed. -/
def State.teach (s : State) (t : Tier) (n : Station) (x : Option Int) : Answer :=
  (s.storeStation t n x).answer .ok (stationBytes t n x)

/-- The SET_STATION HERE answer after the checks of the mode and the holder (R18). -/
def State.teachHere (s : State) (tier station : Nat) : Answer :=
  match Idx8.ofNat? tier, Idx8.ofNat? station with
  | some t, some n =>
    if s.tierBusy t then s.refuse .busy
    else if !(s.axis ⟨t, .R⟩).valid then s.refuse .interlock
    else
      let angle := nearestBase (s.axis ⟨t, .R⟩).position
      if s.angleInside t angle then s.teach t n (some angle) else s.refuse .badValue
  | _, _ => s.refuse .badValue

/-- SET_STATION with an angle or CLEAR (R17). A form of HERE is taken as that form. -/
def execSetStation (q : Src) (tier station form : Nat) (angle : Int) (s : State) : Host.Outcome State Fault Refusal :=
  request (.setStation q tier station form angle) q 0x2C (fun s =>
    s.writeGuard q
      (match form, Idx8.ofNat? tier, Idx8.ofNat? station with
       | 0, some t, some n =>
         if !s.angleInside t angle then s.refuse .badValue
         else if s.tierBusy t then s.refuse .busy
         else s.teach t n (some angle)
       | 1, _, _ => s.teachHere tier station
       | 2, some t, some n => if s.tierBusy t then s.refuse .busy else s.teach t n none
       | _, _, _ => s.refuse .badValue)) s

/-- SET_STATION with HERE (R18). -/
def execSetStationHere (q : Src) (tier station : Nat) (s : State) : Host.Outcome State Fault Refusal :=
  request (.setStationHere q tier station) q 0x2C (fun s => s.writeGuard q (s.teachHere tier station)) s

/-- The range of the value of a SET_POSITION (R14). -/
def positionClamp (r : Role) (x : Int) : Int :=
  match r with
  | .R => clampInt (-18000) 18000 x
  | .A | .B => clampInt 0 20000 x

/-- A position taught to an axis with a good count (R14). -/
def State.teachPosition (s : State) (a : Axis) (count : Count) (value : Int) : Answer :=
  let v := positionClamp a.role value
  let wanted : Int := (count.toNat : Int) - Config.fine * v
  let offset := (clampInt 0 Config.zeroMax wanted).toNat
  let s1 := s.modTables fun x =>
    { x with axes := x.axes.set a.tier ((x.axes.get a.tier).set a.role { s.axisRec a with zero := offset }) }
  let s2 := (s1.modAxis a fun x => x.rezero offset).reportJack a
  s2.answer (writeStatus (decide (v ≠ value) || decide ((offset : Int) ≠ wanted)))
    (longBytes (s2.axis a).position ++ beBytes 3 offset)

/-- SET_POSITION (R14). -/
def execSetPosition (q : Src) (axis : Nat) (value : Int) (s : State) : Host.Outcome State Fault Refusal :=
  request (.setPosition q axis value) q 0x2D (fun s =>
    s.writeGuard q
      (match axisOfCode? axis with
       | none => s.refuse .badValue
       | some a =>
         if s.tierBusy a.tier then s.refuse .busy
         else
           match (s.axis a).valid, (s.axis a).count with
           | true, some c => s.teachPosition a c value
           | _, _ => s.refuse .interlock)) s

end Sys2Proof.Machine
end

