-- ==== Sys2Proof/Machine/Dispatch.lean ====
section
/-! DEFINITION. One arm for each command of the opcode table: a direct call of its meaning. -/

namespace Sys2Proof.Machine

open Sys2Proof

def exec (i : Instr) (s : State) : Host.Outcome State Fault Refusal :=
  match i with
  | .powerOn => Sys2Proof.Machine.execPowerOn s
  | .resetNAssert => Sys2Proof.Machine.execResetNAssert s
  | .resetNRelease => Sys2Proof.Machine.execResetNRelease s
  | .byteReceived port byte framingError => Sys2Proof.Machine.execByteReceived port byte framingError s
  | .gapTimerExpiry port => Sys2Proof.Machine.execGapTimerExpiry port s
  | .frameDispatch port => Sys2Proof.Machine.execFrameDispatch port s
  | .transmitDone port => Sys2Proof.Machine.execTransmitDone port s
  | .hallStatus q => Sys2Proof.Machine.execHallStatus q s
  | .tierStatus q tier => Sys2Proof.Machine.execTierStatus q tier s
  | .moveStatus q number => Sys2Proof.Machine.execMoveStatus q number s
  | .readCells q => Sys2Proof.Machine.execReadCells q s
  | .readTable q selector first second => Sys2Proof.Machine.execReadTable q selector first second s
  | .planStatus q plan => Sys2Proof.Machine.execPlanStatus q plan s
  | .readFault q => Sys2Proof.Machine.execReadFault q s
  | .takeAuthority q => Sys2Proof.Machine.execTakeAuthority q s
  | .forceAuthority q => Sys2Proof.Machine.execForceAuthority q s
  | .giveAuthority q => Sys2Proof.Machine.execGiveAuthority q s
  | .enable q => Sys2Proof.Machine.execEnable q s
  | .setModeRun q => Sys2Proof.Machine.execSetModeRun q s
  | .setModeSetup q mode => Sys2Proof.Machine.execSetModeSetup q mode s
  | .restart q => Sys2Proof.Machine.execRestart q s
  | .hold q => Sys2Proof.Machine.execHold q s
  | .resume q => Sys2Proof.Machine.execResume q s
  | .stop q => Sys2Proof.Machine.execStop q s
  | .resetFaultHall q => Sys2Proof.Machine.execResetFaultHall q s
  | .resetFaultTier q tier => Sys2Proof.Machine.execResetFaultTier q tier s
  | .move q tier kind target cls hostTag => Sys2Proof.Machine.execMove q tier kind target cls hostTag s
  | .cancel q number => Sys2Proof.Machine.execCancel q number s
  | .jog q tier target dir => Sys2Proof.Machine.execJog q tier target dir s
  | .jogStop q => Sys2Proof.Machine.execJogStop q s
  | .setHall q w => Sys2Proof.Machine.execSetHall q w s
  | .setTier q tier w => Sys2Proof.Machine.execSetTier q tier w s
  | .setAxis q axis w => Sys2Proof.Machine.execSetAxis q axis w s
  | .setBand q tier band cells => Sys2Proof.Machine.execSetBand q tier band cells s
  | .setStation q tier station form angle => Sys2Proof.Machine.execSetStation q tier station form angle s
  | .setStationHere q tier station => Sys2Proof.Machine.execSetStationHere q tier station s
  | .setPosition q axis value => Sys2Proof.Machine.execSetPosition q axis value s
  | .tare q tier => Sys2Proof.Machine.execTare q tier s
  | .planWrite q plan steps => Sys2Proof.Machine.execPlanWrite q plan steps s
  | .planClear q plan => Sys2Proof.Machine.execPlanClear q plan s
  | .planStart q plan => Sys2Proof.Machine.execPlanStart q plan s
  | .planAbort q => Sys2Proof.Machine.execPlanAbort q s
  | .setNotices q mask => Sys2Proof.Machine.execSetNotices q mask s
  | .clearEvents q mask => Sys2Proof.Machine.execClearEvents q mask s
  | .lockInputChange tier lockIn lockOut => Sys2Proof.Machine.execLockInputChange tier lockIn lockOut s
  | .limitInputChange axis active => Sys2Proof.Machine.execLimitInputChange axis active s
  | .driveReadyChange axis ready => Sys2Proof.Machine.execDriveReadyChange axis ready s
  | .estopInputChange active => Sys2Proof.Machine.execEstopInputChange active s
  | .axisUpdate axis read => Sys2Proof.Machine.execAxisUpdate axis read s
  | .liftComplete tier => Sys2Proof.Machine.execLiftComplete tier s
  | .setComplete tier => Sys2Proof.Machine.execSetComplete tier s
  | .settleEnd axis => Sys2Proof.Machine.execSettleEnd axis s
  | .settleTimeout axis => Sys2Proof.Machine.execSettleTimeout axis s
  | .pairUpdate tier => Sys2Proof.Machine.execPairUpdate tier s
  | .pairLiftComplete tier => Sys2Proof.Machine.execPairLiftComplete tier s
  | .pairSetComplete tier => Sys2Proof.Machine.execPairSetComplete tier s
  | .jackPositionReport tier jack position valid => Sys2Proof.Machine.execJackPositionReport tier jack position valid s
  | .pollSlot => Sys2Proof.Machine.execPollSlot s
  | .pollEnd result => Sys2Proof.Machine.execPollEnd result s
  | .busHeldLow => Sys2Proof.Machine.execBusHeldLow s
  | .busRecoveryEnd stillLow => Sys2Proof.Machine.execBusRecoveryEnd stillLow s
  | .lockTimerExpiry tier => Sys2Proof.Machine.execLockTimerExpiry tier s
  | .repoweringTimeout => Sys2Proof.Machine.execRepoweringTimeout s
  | .enableExpiry => Sys2Proof.Machine.execEnableExpiry s
  | .escalationExpiry => Sys2Proof.Machine.execEscalationExpiry s
  | .grantPass => Sys2Proof.Machine.execGrantPass s
  | .bandReleaseReport tier served position => Sys2Proof.Machine.execBandReleaseReport tier served position s
  | .stowedChangeReport tier stowed => Sys2Proof.Machine.execStowedChangeReport tier stowed s
  | .moveEndAtArbiter tier outcome entered position => Sys2Proof.Machine.execMoveEndAtArbiter tier outcome entered position s
  | .moveEndReport e => Sys2Proof.Machine.execMoveEndReport e s
  | .stepEnd number outcome reason => Sys2Proof.Machine.execStepEnd number outcome reason s
  | .freedEntry => Sys2Proof.Machine.execFreedEntry s
  | .emptyPendingList reason => Sys2Proof.Machine.execEmptyPendingList reason s
  | .causeReport cause => Sys2Proof.Machine.execCauseReport cause s
  | .tierCauseReport tier cause number => Sys2Proof.Machine.execTierCauseReport tier cause number s
  | .brakedReport tier braked => Sys2Proof.Machine.execBrakedReport tier braked s
  | .motionReport tier moving => Sys2Proof.Machine.execMotionReport tier moving s
  | .travelMarkReport tier mark => Sys2Proof.Machine.execTravelMarkReport tier mark s
  | .arbiterTripReport => Sys2Proof.Machine.execArbiterTripReport s
  | .holdOrder tier => Sys2Proof.Machine.execHoldOrder tier s
  | .quickStopOrder tier => Sys2Proof.Machine.execQuickStopOrder tier s
  | .tripOrder tier => Sys2Proof.Machine.execTripOrder tier s
  | .resumeOrder tier => Sys2Proof.Machine.execResumeOrder tier s
  | .planHoldOrder => Sys2Proof.Machine.execPlanHoldOrder s
  | .planResumeOrder => Sys2Proof.Machine.execPlanResumeOrder s
  | .planStopOrder reason => Sys2Proof.Machine.execPlanStopOrder reason s
  | .brakeReleaseOrder axis served => Sys2Proof.Machine.execBrakeReleaseOrder axis served s
  | .travelOrder tier target cls => Sys2Proof.Machine.execTravelOrder tier target cls s
  | .stopOrder tier rate => Sys2Proof.Machine.execStopOrder tier rate s
  | .brakeApplyOrder axis => Sys2Proof.Machine.execBrakeApplyOrder axis s
  | .axisTripOrder axis => Sys2Proof.Machine.execAxisTripOrder axis s
  | .pairReleaseOrder tier served => Sys2Proof.Machine.execPairReleaseOrder tier served s
  | .pairTravelOrder tier target cls => Sys2Proof.Machine.execPairTravelOrder tier target cls s
  | .pairStopOrder tier rate => Sys2Proof.Machine.execPairStopOrder tier rate s
  | .pairApplyOrder tier => Sys2Proof.Machine.execPairApplyOrder tier s
  | .pairTripOrder tier => Sys2Proof.Machine.execPairTripOrder tier s
  | .contactorReport axis closed => Sys2Proof.Machine.execContactorReport axis closed s
  | .latchEvent event => Sys2Proof.Machine.execLatchEvent event s

end Sys2Proof.Machine
end

