-- ==== Sys2Proof/Safety.lean ====
section
/-! DEFINITION. What a safe run of the part keeps, and the terms in which the statements about commands are put: what
a request's answer leaves at its port, and the invariants of floor, power, drives, stops, jogs, lists and ATTN. -/

namespace Sys2Proof.Machine

open Sys2Proof

/-! ### Answers to requests -/

/-- The reply frame of a request: KIND plus 0x80, its TAG, the status byte and the fields after it (R185). -/
def replyFrame (q : Src) (kind : Byte) (st : Status) (body : List Byte) : Frame :=
  ⟨kind + 0x80, q.tag, statusCode st :: body⟩

/-- From `s` to `t` the port of `q` has been handed a reply: an idle transmitter sends it at once, a busy one leaves it
waiting in the reply slot (R185). Nothing else of either port differs. -/
def Replied (s t : State) (q : Src) (kind : Byte) (st : Status) (body : List Byte) : Prop :=
  t.ports = s.ports.setPort q.port
    { s.port q.port with
      sending := some (((s.port q.port).sending).getD (frameBytes (replyFrame q kind st body)))
      reply := if (s.port q.port).sending.isSome then some (replyFrame q kind st body) else none }

/-- From `s` to `t` the command `c` has left the reports in flight and `sent` have joined them; port `p` may have asked
for its next dispatch. -/
def Mailed (s t : State) (c : Instr) (p : Port) (sent : List Instr) : Prop :=
  t.mail = s.mail.erase c ++ sent ∨ t.mail = s.mail.erase c ++ sent ++ [.frameDispatch p]

/-- The request `c` of `q` has been answered, and its effect has sent the reports `sent`. -/
def Answered (s t : State) (c : Instr) (q : Src) (kind : Byte) (st : Status) (body : List Byte)
    (sent : List Instr) : Prop :=
  Replied s t q kind st body ∧ Mailed s t c q.port sent

/-- Nothing differs between `s` and `t` but the ports and the reports in flight. -/
def OnlyPorts (s t : State) : Prop := t = { s with ports := t.ports, mail := t.mail }

/-- The state with a command taken out of the reports in flight, as every meaning begins. -/
def State.taken (s : State) (c : Instr) : State := { s with mail := s.mail.erase c }

/-- The state with both ports replaced. -/
def State.withPorts (s : State) (a b : LinkPort) : State := { s with ports := ⟨a, b⟩ }

/-- The bytes of a list received at a port one after another, none with a framing error. -/
def receiveAll (p : Port) : List Byte → State → Host.Outcome State Fault Refusal
  | [], s => .next s
  | b :: rest, s =>
    match exec (.byteReceived p b false) s with
    | .next t => receiveAll p rest t
    | .fault f => .fault f
    | .refused r => .refused r

/-- The KIND code of a query (R184). -/
def queryKind : Instr → Option Byte
  | .hallStatus _ => some 0x01
  | .tierStatus _ _ => some 0x02
  | .moveStatus _ _ => some 0x03
  | .readCells _ => some 0x04
  | .readTable _ _ _ _ => some 0x05
  | .planStatus _ _ => some 0x06
  | .readFault _ => some 0x07
  | _ => none

/-- The requests that the holder alone may make, with their KIND codes (R173, R184). -/
def holderKind : Instr → Option Byte
  | .move _ _ _ _ _ _ => some 0x20
  | .cancel _ _ => some 0x21
  | .jog _ _ _ _ => some 0x22
  | .enable _ => some 0x13
  | .resume _ => some 0x19
  | .setModeRun _ | .setModeSetup _ _ => some 0x14
  | .setHall _ _ => some 0x28
  | .setTier _ _ _ => some 0x29
  | .setAxis _ _ _ => some 0x2A
  | .setBand _ _ _ _ => some 0x2B
  | .setStation _ _ _ _ _ | .setStationHere _ _ _ => some 0x2C
  | .setPosition _ _ _ => some 0x2D
  | .tare _ _ => some 0x2E
  | .planWrite _ _ _ => some 0x30
  | .planClear _ _ => some 0x31
  | .planStart _ _ => some 0x32
  | .planAbort _ => some 0x33
  | _ => none

/-- The KIND code of every request (R184). -/
def requestKind (c : Instr) : Option Byte :=
  match queryKind c, holderKind c with
  | some k, _ => some k
  | none, some k => some k
  | none, none =>
    match c with
    | .takeAuthority _ => some 0x10
    | .forceAuthority _ => some 0x11
    | .giveAuthority _ => some 0x12
    | .restart _ => some 0x15
    | .hold _ => some 0x18
    | .stop _ => some 0x1A
    | .resetFaultHall _ | .resetFaultTier _ _ => some 0x1B
    | .jogStop _ => some 0x23
    | .setNotices _ _ => some 0x38
    | .clearEvents _ _ => some 0x39
    | _ => none

/-- A status of refusal (R185). -/
def isRefusal (st : Status) : Bool := decide (st ≠ .ok ∧ st ≠ .adjusted)

/-- The commands that start the part afresh: power, and the release of RESET_N. -/
def startsAfresh : Instr → Bool
  | .powerOn | .resetNRelease => true
  | _ => false

/-! ### What a cause, a fault or an end leaves -/

/-- The further-fault count after a cause that captures no record (R153). -/
def furtherAfter (m : StopManager) : Nat := if m.record.isSome then min 255 (m.further + 1) else m.further

/-- The stop manager after a cause of a kind that is only recorded (R153). -/
def recordedOnly (m : StopManager) (k : Kind) : StopManager :=
  { m with seen := m.seen ||| kindSet k, further := furtherAfter m }

/-- The newest 16 of some outcome records (R36). -/
def newest16 (l : List OutcomeRec) : List OutcomeRec := l.drop (l.length - 16)

/-- The outcome record that a pending move's end makes (R35). -/
def endRecord (m : MoveRec) (o : MoveOutcome) (r : Reason) (now : Clock) : OutcomeRec :=
  ⟨m.number, m.hostTag, m.tier, m.goal.kind, o, r, now, m.origin⟩

/-- The sequencer of tier `t` with what it has told set to what it now has to tell (R82, R135). -/
def told (q : Seq) : Seq := { q with toldBraked := q.braked, toldMotion := q.inMotion, toldTravel := q.travelling }

/-- From `s` to `t` the sequencer of tier `u` alone has acted: no other sequencer differs, nor an exemption mark of
another tier, nor any other block beyond the pass asked for and the reports in flight. -/
def TouchesOnlySeq (s t : State) (u : Tier) : Prop :=
  (∀ v, v ≠ u → t.seq v = s.seq v ∧ t.man.exempt.get v = s.man.exempt.get v) ∧
  t = { s with
    seqs := t.seqs, man := { s.man with exempt := t.man.exempt }
    arb := { s.arb with passRequested := t.arb.passRequested }, mail := t.mail }

/-- In `t` the active move `a` of tier `u` has ended with an outcome and a reason: its slot is empty, its record stands with
its last stage until admission takes the end (R35), and the end is on its way to the arbiter with the position of tR, to
admission and, for a plan's move, to the plan executor (R66). -/
def MoveEnded (s t : State) (u : Tier) (a : Active) (o : MoveOutcome) (r : Reason) : Prop :=
  (t.seq u).slot = none ∧ (t.seq u).ending = (s.seq u).ending ++ [⟨a.move, a.stage⟩] ∧
  Instr.moveEndAtArbiter u o a.entered (s.axis ⟨u, .R⟩).position ∈ t.mail ∧
  Instr.moveEndReport ⟨a.move.number, a.move.hostTag, u, a.move.goal.kind, o, r, a.move.origin⟩ ∈ t.mail ∧
  ∀ p k, a.move.origin = .plan p k → Instr.stepEnd a.move.number o r ∈ t.mail

/-- The end that a lock conflict fixes for a move, unless an earlier cause has fixed one (R76, R77). -/
def endUnderConflict (a : Active) : MoveOutcome × Reason := a.fixedEnd.getD (.failed, .inhibit)

/-- The end that a quick stop gives a move: ABORTED, STOP, or the ABORTED end that R76 has fixed (R76, R80). -/
def endUnderQuickStop (a : Active) : MoveOutcome × Reason :=
  match a.fixedEnd with
  | some (.aborted, r) => (.aborted, r)
  | _ => (.aborted, .stop)

/-! ### What ends a jog -/

/-- In `t` the jog of tier `u` has ended (R85): its sequencer is `q` without the jog, the exemption marks of its tier's axes
are cleared, and TIER is raised. -/
def JogEnded (q : Seq) (t : State) (u : Tier) : Prop :=
  t.seq u = told { q with jog := none } ∧ t.man.exempt.get u = ⟨false, false, false⟩ ∧
  Instr.latchEvent (.tier u .jogEnded) ∈ t.mail

/-- What an event of R86 of cause `c`, with deceleration `rate`, leaves of the jog `j` of tier `u`, whose sequencer is
otherwise `q`: in WITHDRAW_LOCK it ends, in LIFT_BRAKE its brakes apply and it is in SET_BRAKE, in TRAVEL it is in HALTING
with a stop order, in HALTING at a an event at a_qs takes its place, and in SET_BRAKE it is as it was. -/
def JogMeets (q : Seq) (t : State) (u : Tier) (j : Jog) (c : JogEnd) (rate : StopRate) : Prop :=
  match j.stage with
  | .withdrawLock => JogEnded q t u
  | .liftBrake =>
    if q.braked then JogEnded q t u
    else
      t.seq u = told { q with jog := some { j with stage := .setBrake, cause := some c }, braked := true } ∧
      (if j.target = .rotation then Instr.brakeApplyOrder ⟨u, .R⟩ else Instr.pairApplyOrder u) ∈ t.mail
  | .travel =>
    t.seq u = told { q with jog := some { j with stage := .halting, cause := some c } } ∧
    (if j.target = .rotation then Instr.stopOrder u rate else Instr.pairStopOrder u rate) ∈ t.mail
  | .halting =>
    if rate = .aqs ∧ (j.cause = some .jogStop ∨ j.cause = some .enableLapse ∨ j.cause = some .hold) then
      t.seq u = told { q with jog := some { j with cause := some c } } ∧
      (if j.target = .rotation then Instr.stopOrder u .aqs else Instr.pairStopOrder u .aqs) ∈ t.mail
    else t.seq u = told q
  | .setBrake | .settle | .engageLock | .suspending | .suspended => t.seq u = told q

/-! ### Arrival and rest at a sequencer -/

/-- The active move `a` of tier `u`, whose sequencer is otherwise `q`, has entered SET_BRAKE: its brakes are applied, with an
apply order where they were not (R74). -/
def MoveBrakes (q : Seq) (t : State) (u : Tier) (a : Active) : Prop :=
  t.seq u = told { q with slot := some { a with stage := .setBrake }, braked := true } ∧
  (q.braked = false →
    (if a.move.goal.kind = .rotate then Instr.brakeApplyOrder ⟨u, .R⟩ else Instr.pairApplyOrder u) ∈ t.mail)

/-- The jog `j` of tier `u`, whose sequencer is otherwise `q`, has entered SET_BRAKE with an apply order, or has ended where no
brake of it stood released (R85, R86, notes/assumptions/21.md). -/
def JogBrakes (q : Seq) (t : State) (u : Tier) (j : Jog) : Prop :=
  if q.braked then JogEnded q t u
  else
    t.seq u = told { q with jog := some { j with stage := .setBrake }, braked := true } ∧
    (if j.target = .rotation then Instr.brakeApplyOrder ⟨u, .R⟩ else Instr.pairApplyOrder u) ∈ t.mail

/-- The exemption marks of tier `u` are as they were, unless its jog has ended. -/
def KeepsExempt (s t : State) (u : Tier) : Prop :=
  (t.seq u).jog.isSome = (s.seq u).jog.isSome → t.man.exempt.get u = s.man.exempt.get u

/-- From `s` to `t` the sequencer of tier `u` has taken an arrival (R72, R85): a move in TRAVEL is in SETTLE, a jog in TRAVEL
brakes, as does one in HALTING (notes/assumptions/21.md), and every other occupant is as it was. -/
def ArrivalTaken (s t : State) (u : Tier) : Prop :=
  KeepsExempt s t u ∧
  match (s.seq u).slot, (s.seq u).jog with
  | some a, _ =>
    t.seq u = told (if a.stage = .travel then { s.seq u with slot := some { a with stage := .settle } } else s.seq u)
  | none, some j =>
    if j.stage = .travel ∨ j.stage = .halting then JogBrakes (s.seq u) t u j else t.seq u = told (s.seq u)
  | none, none => t.seq u = told (s.seq u)

/-- From `s` to `t` the sequencer of tier `u` has taken a report of rest (R79, R80, R86): a move in SUSPENDING or HALTING and a
jog in HALTING are in SET_BRAKE with their brakes applied, and every other occupant is as it was. -/
def RestTaken (s t : State) (u : Tier) : Prop :=
  KeepsExempt s t u ∧
  match (s.seq u).slot, (s.seq u).jog with
  | some a, _ =>
    if a.stage = .suspending ∨ a.stage = .halting then MoveBrakes (s.seq u) t u a else t.seq u = told (s.seq u)
  | none, some j => if j.stage = .halting then JogBrakes (s.seq u) t u j else t.seq u = told (s.seq u)
  | none, none => t.seq u = told (s.seq u)

/-- In `t` jack `j` of tier `u`, whose pair has come to rest, stands in STILL at velocity 0 with the remaining distance and the
target of its pair and, where the pair has a demand, with that demand (R88, R121; notes/assumptions/27.md). -/
def JackAtRest (t : State) (u : Tier) (j : Jack) : Prop :=
  (t.axis (jackAxis u j)).phase = .still ∧ (t.axis (jackAxis u j)).v = 0 ∧
  (t.axis (jackAxis u j)).r = (t.pair u).r ∧ (t.axis (jackAxis u j)).target = (t.pair u).target ∧
  ∀ d, (t.pair u).demand = some d → (t.axis (jackAxis u j)).demand = d

/-! ### Cells given up and claimed -/

/-- From `s` to `t` tier `u` has given up the cells of `free` (R43, R46): each leaves its standing and its reserved set and
passes to the tier with the oldest claim owing it, whose standing set it joins and whose claim is spent, or is nobody's.
No other cell changes hands, and no other claim goes. -/
def CellsGivenUp (s t : State) (u : Tier) (free : CellSet) : Prop :=
  (t.arb.owed.Sublist s.arb.owed) ∧
  ∀ c < 64,
    (t.arb.owed.filter fun o => o.cell == c) =
      (if free.getLsbD c then (s.arb.owed.filter fun o => o.cell == c).drop 1
       else s.arb.owed.filter fun o => o.cell == c) ∧
    ∀ v,
      (t.holding v).standing.getLsbD c =
        ((s.holding v).standing.getLsbD c && !(v == u && free.getLsbD c) ||
          free.getLsbD c && (s.arb.owed.find? fun o => o.cell == c).any fun o => o.tier == v) ∧
      (t.holding v).reserved.getLsbD c = ((s.holding v).reserved.getLsbD c && !(v == u && free.getLsbD c))

/-- From `s` to `t` tier `u` has taken the standing claim `claim` and kept `kept` of its reserved set (R41, R43, R46, R58).
A cell of the claim joins the standing set when the tier owns it, or it is FREE and owed to no other tier, and is owed to
the tier otherwise, from the time of its first claim on. A cell that the tier owns no longer passes to the other tier with
the oldest claim owing it, or is nobody's. The tier's owed set becoming non-empty raises TIER. -/
def TookClaim (s t : State) (u : Tier) (claim kept : CellSet) : Prop :=
  (∀ c < 64, ∀ held lost : Bool,
    held = (claim.getLsbD c && ((s.holding u).owns.getLsbD c ||
      (s.arb.owner c).isNone && s.arb.owed.all fun o => o.cell != c || o.tier == u)) →
    lost = ((s.holding u).owns.getLsbD c && !held && !((s.holding u).reserved.getLsbD c && kept.getLsbD c)) →
    (t.holding u).standing.getLsbD c = held ∧
    (t.holding u).reserved.getLsbD c = ((s.holding u).reserved.getLsbD c && kept.getLsbD c) ∧
    (t.arb.owed.filter fun o => o.tier == u && o.cell == c) =
      (if claim.getLsbD c && !held then
        if s.arb.owed.any fun o => o.tier == u && o.cell == c then s.arb.owed.filter fun o => o.tier == u && o.cell == c
        else [⟨u, c, s.clock⟩]
       else []) ∧
    (t.arb.owed.filter fun o => o.tier != u && o.cell == c) =
      (s.arb.owed.filter fun o => o.tier != u && o.cell == c).drop (if lost then 1 else 0) ∧
    ∀ v, v ≠ u →
      (t.holding v).standing.getLsbD c = ((s.holding v).standing.getLsbD c ||
        lost && (s.arb.owed.find? fun o => o.tier != u && o.cell == c).any fun o => o.tier == v) ∧
      (t.holding v).reserved = (s.holding v).reserved) ∧
  (s.arb.owedSet u = 0 → t.arb.owedSet u ≠ 0 → Instr.latchEvent (.tier u .owed) ∈ t.mail)

/-! ### Passes of several moves -/

/-- Check `k` of R50, of the checks 2 to 10, fails for a pending move: `blocked` are the tiers with an older move found not
grantable in the pass, `cells` and `power` what aged moves protect (R54). That a tier is busy until the arbiter has taken the
end of its move, and that the figures of other blocks are read as they stand, are the model's readings
(notes/assumptions/18.md and 26.md). -/
def GrantCheckFails (s : State) (m : MoveRec) (blocked : List Tier) (cells : CellSet) (power : Nat) : Nat → Prop
  | 2 => m.tier ∈ blocked
  | 3 => (s.seq m.tier).slot ≠ none ∨ (s.holding m.tier).active = true
  | 4 => (s.seq m.tier).inhibit ≠ none
  | 5 => (s.loadOf m.tier).valid = false ∨ (s.loadOf m.tier).occupied = true
  | 6 => ∃ a ∈ moveAxes m, (s.axis a).valid = false ∨ (s.axis a).limit = true ∨ (s.axis a).ready = false
  | 7 =>
    match m.goal with
    | .rotate _ => (s.holding m.tier).stowed = false
    | .tilt _ => (s.seq m.tier).lockState ≠ .engaged ∨ (s.seq m.tier).station = none
  | 8 => ∃ c < 64, (s.reservedFor m).getLsbD c = true ∧ (s.holding m.tier).owns.getLsbD c = false ∧
      (s.arb.owner c ≠ none ∨ ∃ o ∈ s.arb.owed, o.cell = c ∧ o.tier ≠ m.tier)
  | 9 => s.tables.hall.capacity < s.arb.committed + s.demandOf m
  | 10 => (∃ c < 64, (s.reservedFor m).getLsbD c = true ∧ cells.getLsbD c = true) ∨
      s.tables.hall.capacity < s.arb.committed + power + s.demandOf m
  | _ => False

/-- What a pass finds of a move whose first failing check of R50 is check `k`: FAILED for INHIBIT, or held with a reason. -/
def findingOf : Nat → Finding
  | 2 => .held .order
  | 3 => .held .tierBusy
  | 4 => .inhibited
  | 5 => .held .load
  | 6 => .held .drive
  | 7 => .held .posture
  | 8 => .held .cells
  | 9 => .held .power
  | 10 => .held .aged
  | _ => .grant

/-- From `s` to `t` the sequencer of the tier of a granted move, which had no jog, has taken it at its first stage (R65, R70,
R71). A TILT is in LIFT_BRAKE with its brakes released. A ROTATE to the current station with the lock ENGAGED has ended DONE;
any other is in WITHDRAW_LOCK, with the withdrawal begun where the lock was ENGAGED or ENGAGING, in LIFT_BRAKE where the lock
was WITHDRAWN and the tier is stowed, and has ended FAILED, INHIBIT where the lock was CONFLICTED. A ROTATE ended at its grant
leaves its record with the stage WITHDRAW_LOCK, the model's reading (notes/assumptions/46.md). -/
def TookMove (s t : State) (m : MoveRec) : Prop :=
  ∀ a : Stage → Active, (∀ g, a g = ⟨{ m with lastRefusal := none }, g, false, none, none, false, false⟩) →
    match m.goal with
    | .tilt _ =>
      t.seq m.tier = told { s.seq m.tier with slot := some (a .liftBrake), braked := false } ∧
      Instr.pairReleaseOrder m.tier (.move m.number) ∈ t.mail
    | .rotate n =>
      if (s.seq m.tier).station = some n ∧ (s.seq m.tier).lockState = .engaged then
        t.seq m.tier = told { s.seq m.tier with ending := (t.seq m.tier).ending } ∧
        MoveEnded s t m.tier (a .withdrawLock) .done .none
      else
        match (s.seq m.tier).lockState with
        | .engaged | .engaging =>
          (s.seq m.tier).lockOut = false →
          t.seq m.tier = told { s.seq m.tier with
            slot := some (a .withdrawLock), lockCmd := .withdraw, lockState := .withdrawing
            lockTimer := some ⟨s.clock, (s.tier m.tier).lockTime⟩, station := none, pendingStation := none }
        | .withdrawing => t.seq m.tier = told { s.seq m.tier with slot := some (a .withdrawLock) }
        | .withdrawn =>
          (s.seq m.tier).lockIn = false → (s.seq m.tier).lockOut = true → (s.pair m.tier).toldStowed = true →
          (t.seq m.tier).slot = some (a .liftBrake) ∧ (t.seq m.tier).lockCmd = .withdraw ∧
          (t.seq m.tier).lockState = .withdrawn ∧ (t.seq m.tier).braked = false ∧
          ((s.seq m.tier).lockCmd = .engage → (t.seq m.tier).lockTimer = none ∧ (t.seq m.tier).station = none) ∧
          Instr.brakeReleaseOrder ⟨m.tier, .R⟩ (.move m.number) ∈ t.mail
        | .conflicted =>
          t.seq m.tier = told { s.seq m.tier with ending := (t.seq m.tier).ending } ∧
          MoveEnded s t m.tier (a .withdrawLock) .failed .inhibit

/-- The cells that aged moves of a pass, each held, protect (R54). -/
def heldCells (s : State) (l : List (MoveRec × HoldReason)) : CellSet :=
  l.foldl (fun acc x => if s.tables.hall.bypassLimit ≤ x.1.bypass then acc ||| s.reservedFor x.1 else acc) 0

/-- The power that aged moves of a pass, each held, protect (R54). -/
def heldPower (s : State) (l : List (MoveRec × HoldReason)) : Nat :=
  l.foldl (fun acc x => if s.tables.hall.bypassLimit ≤ x.1.bypass then acc + s.demandOf x.1 else acc) 0

/-- The tiers that moves of a pass, each held, block for younger moves (R50, R51). -/
def heldTiers (l : List (MoveRec × HoldReason)) : List Tier := (l.map fun x => x.1.tier).reverse

/-- In a pass from `s` every move of the list is held for the reason beside it, each found behind those before it. -/
def AllHeld (s : State) (l : List (MoveRec × HoldReason)) : Prop :=
  ∀ (before after : List (MoveRec × HoldReason)) (m : MoveRec) (r : HoldReason), l = before ++ (m, r) :: after →
    s.findMove m (heldTiers before) (heldCells s before) (heldPower s before) = .held r

/-- From `s` to `t` the move `m` has been granted (R52): its cells are reserved, its demand is committed, its tier is
marked, its path is held, its standing set is as it was, and its sequencer, which had no jog, has taken it. -/
def Granted (s t : State) (m : MoveRec) : Prop :=
  (t.holding m.tier).reserved = s.reservedFor m ∧ (t.holding m.tier).demand = s.demandOf m ∧
  (t.holding m.tier).active = true ∧ (t.holding m.tier).path = some (s.pathOf m) ∧
  (t.holding m.tier).standing = (s.holding m.tier).standing ∧ ((s.seq m.tier).jog = none → TookMove s t m)

/-! ### Load -/

/-- In `t`, reached from `s`, the figures of tier `u` have been found again from its cells and tare as they stand in `t` (R130
to R132), a change of a present tier's status or flag asks for a pass and raises LOAD (R133), and the overload check has
been made while the tier travels, reported when its mark rises (R135). -/
def FoundAgain (s t : State) (u : Tier) : Prop :=
  (t.loadOf u).valid = (!(t.loadOf u).cells.isEmpty && (t.loadOf u).cells.all fun x => x.state != .failed) ∧
  (t.loadOf u).net = ((t.loadOf u).cells.map fun x => x.reading.getD 0).sum - (t.loadOf u).tare ∧
  (t.loadOf u).occupied =
    (if (t.loadOf u).valid = false then (s.loadOf u).occupied
     else if (s.loadOf u).occupied then decide ((s.tier u).presence * 3 / 4 < (t.loadOf u).net.natAbs)
     else decide ((s.tier u).presence < (t.loadOf u).net.natAbs)) ∧
  ((s.tier u).present = true →
    (t.loadOf u).valid ≠ (s.loadOf u).valid ∨ (t.loadOf u).occupied ≠ (s.loadOf u).occupied →
    t.arb.passRequested = true ∧
      Instr.latchEvent (.load u (t.loadOf u).valid (t.loadOf u).occupied (t.loadOf u).net) ∈ t.mail) ∧
  (t.loadOf u).inTravel = (s.loadOf u).inTravel ∧
  ((s.loadOf u).inTravel = none → (t.loadOf u).overMark = (s.loadOf u).overMark) ∧
  ∀ n, (s.loadOf u).inTravel = some n →
    (t.loadOf u).overMark = decide (((s.tier u).overload : Int) < (t.loadOf u).net) ∧
    (((s.tier u).overload : Int) < (t.loadOf u).net → (s.loadOf u).overMark = false →
      Instr.causeReport ⟨.overload, some u, none, .move n, none, none, some (t.loadOf u).net⟩ ∈ t.mail)

/-! ### Table writes -/

/-- The table writes, with their KIND codes (R184). -/
def tableKind : Instr → Option Byte
  | .setHall _ _ => some 0x28
  | .setTier _ _ _ => some 0x29
  | .setAxis _ _ _ => some 0x2A
  | .setBand _ _ _ _ => some 0x2B
  | .setStation _ _ _ _ _ | .setStationHere _ _ _ => some 0x2C
  | .setPosition _ _ _ => some 0x2D
  | _ => none

/-- A table write concerns tier `u`: it names the tier, or one of its axes (R2). -/
def TableConcerns (c : Instr) (u : Tier) : Prop :=
  match c with
  | .setTier _ n _ | .setBand _ n _ _ | .setStation _ n _ _ _ | .setStationHere _ n _ => n = Idx8.num u
  | .setAxis _ n _ | .setPosition _ n _ => ∃ r, n = axisCode ⟨u, r⟩
  | _ => False

/-- A table write is structurally unsound (R2): it names a tier, station, band or axis that there is not; its load cell list is
longer than four, holds an address outside 0x08 to 0x77 or one twice, or one of another tier's list (R7); its cell list is
longer than 64, holds a cell outside 0 to 63 or one twice (R16); or its angle lies outside the travel range (R17). The flag
bytes of SET_TIER and the form of SET_STATION are sound as the log says (notes/assumptions/12.md and 11.md). -/
def TableUnsound (s : State) : Instr → Prop
  | .setTier _ n w => n = 0 ∨ 8 < n ∨ 1 < w.present ∨ 1 < w.tiltFlag ∨ 4 < w.cells.length ∨ ¬ w.cells.Nodup ∨
      ∃ x ∈ w.cells, x < 0x08 ∨ 0x77 < x ∨ ∃ u, Idx8.num u ≠ n ∧ x ∈ (s.tier u).cells
  | .setBand _ n b l => n = 0 ∨ 8 < n ∨ 35 < b ∨ 64 < l.length ∨ ¬ l.Nodup ∨ ∃ c ∈ l, 63 < c
  | .setStation _ n k form angle => n = 0 ∨ 8 < n ∨ k = 0 ∨ 8 < k ∨ 2 < form ∨
      (form = 0 ∧ ∃ u, Idx8.num u = n ∧ ¬((s.tier u).travelMin ≤ angle ∧ angle ≤ (s.tier u).travelMax))
  | .setStationHere _ n k => n = 0 ∨ 8 < n ∨ k = 0 ∨ 8 < k
  | .setAxis _ n _ | .setPosition _ n _ => 23 < n
  | _ => False

/-- A tier is in motion for a table write: a jog of it runs, or a brake output of it is released (R2). -/
def TierInMotion (s : State) (u : Tier) : Prop :=
  (s.seq u).jog ≠ none ∨ ∃ r, (s.axis ⟨u, r⟩).released = true

/-- From `s` to `t` the sequencer and the pair unit of tier `u` have met its new record, which `t` holds, as SETUP has them meet
it, and those of every other tier are as they were. A tier made present has an inhibit set when its lock is CONFLICTED and none
is set, and asks for a pass (R64). A tilt group part removed leaves degrade and marks clear, the skew unknown and the tier
stowed; one added clears degrade and marks, computes the skew from the latest positions and decides stowed afresh; a tier made
present otherwise has stowed decided afresh; any other write leaves the pair unit as it was. The result of a present tier is
reported where it differs from the one last reported (R122, R123). What a unit in SETTING does as its part is removed is the
model's choice (notes/assumptions/43.md), and that the skew checks wait for the next report (notes/assumptions/28.md). -/
def TierMet (s t : State) (u : Tier) : Prop :=
  (∀ v, v ≠ u → t.seq v = s.seq v ∧ t.pair v = s.pair v ∧ t.loadOf v = s.loadOf v) ∧
  ∀ made low : Bool, made = (!(s.tier u).present && (t.tier u).present) →
    (low = true ↔ ∀ g, (t.tier u).tilt = some g → ∀ j, ((s.pair u).latest.jack j).valid = true ∧
      ((s.pair u).latest.jack j).position ≤ 256 * (g.stow : Int) + (s.axisRec (jackAxis u j)).window) →
    (made = true → t.arb.passRequested = true) ∧
    t.seq u = told { s.seq u with
      inhibit :=
        if made = true ∧ (s.seq u).lockState = .conflicted ∧ (s.seq u).inhibit = none then some .lockConflict
        else (s.seq u).inhibit } ∧
    (made = true → (s.seq u).lockState = .conflicted →
      Instr.tierCauseReport u .lockConflict ((s.seq u).slot.map (·.move.number)) ∈ t.mail ∧
      ((s.seq u).inhibit = none → Instr.latchEvent (.tier u .inhibitSet) ∈ t.mail)) ∧
    (match (s.tier u).tilt, (t.tier u).tilt with
      | some _, none =>
        t.pair u = { (s.pair u).brake with
          degrade := false, skew := none, markSkew := false, markSevere := false, stowed := true, phase := .idle
          served := .none, toldStowed := (t.tier u).present || (s.pair u).toldStowed }
      | none, some _ =>
        t.pair u = { s.pair u with
          degrade := false, markSkew := false, markSevere := false, stowed := low
          skew :=
            if (s.pair u).latest.a.valid && (s.pair u).latest.b.valid then
              some ((s.pair u).latest.a.position - (s.pair u).latest.b.position)
            else none
          toldStowed := if (t.tier u).present then low else (s.pair u).toldStowed }
      | _, _ =>
        t.pair u = if made then { s.pair u with stowed := low, toldStowed := low } else s.pair u) ∧
    ((t.pair u).toldStowed ≠ (s.pair u).toldStowed → Instr.stowedChangeReport u (t.pair u).toldStowed ∈ t.mail)

/-! ### Entry to RUN -/

/-- Check `k` of R169 fails at a place, named as its finding names it: tier; tier and station; tier; tier and axis; tier and
axis; two tiers and a cell. -/
def RunCheckFails (s : State) : Nat → List Nat → Prop
  | 1, place => ∃ u, place = [Idx8.num u] ∧ (s.tier u).present = true ∧ ¬(s.tier u).travelMin < (s.tier u).travelMax
  | 2, place => ∃ u n x, place = [Idx8.num u, Idx8.num n] ∧ (s.tier u).present = true ∧ s.stationAngle u n = some x ∧
      ¬((s.tier u).travelMin ≤ x ∧ x ≤ (s.tier u).travelMax)
  | 3, place => ∃ u g, place = [Idx8.num u] ∧ (s.tier u).present = true ∧ (s.tier u).tilt = some g ∧
      ¬(g.jackMin ≤ g.stow ∧ g.stow ≤ g.jackMax)
  | 4, place => ∃ a : Axis, place = [Idx8.num a.tier, axisCode a] ∧ s.axisPresent a = true ∧ (s.axis a).valid = false
  | 5, place => ∃ u, place = [Idx8.num u, axisCode ⟨u, .R⟩] ∧ (s.tier u).present = true ∧
      ¬(256 * (s.tier u).travelMin - 256 ≤ (s.axis ⟨u, .R⟩).position ∧
        (s.axis ⟨u, .R⟩).position ≤ 256 * (s.tier u).travelMax + 256)
  | 6, place => ∃ u v c, place = [Idx8.num u, Idx8.num v, c] ∧ Idx8.num u < Idx8.num v ∧ c < 64 ∧
      ∀ w, w = u ∨ w = v → (s.tier w).present = true ∧
        (s.bandCells w (bandOf (s.axis ⟨w, .R⟩).position) |||
          if (s.pair w).stowed then 0 else s.raisedSet w).getLsbD c = true
  | _, _ => False

/-! ### Steps of a plan -/

/-- The steps from step `k` on, counted from 1, that a submission which reaches step `k` takes with it (R141): step `k`, and
each PARALLEL step behind it without a gap. -/
def runLength (l : List PlanStep) (k : Nat) : Nat := 1 + ((l.drop k).takeWhile fun x => x.cond == .parallel).length

/-- A step as PLAN_WRITE sends it (R137, R186): the codes of its kind, speed class and start condition, and its numbers. -/
def rawStep (x : PlanStep) : RawStep where
  tier := Idx8.num x.tier
  kind := match x.goal with | .rotate _ => 0 | .tilt _ => 1
  target := match x.goal with | .rotate n => Idx8.num n | .tilt h => h
  cls := match x.cls with | .full => 0 | .reduced => 1 | .crawl => 2
  cond := match x.cond with | .sequential => 0 | .parallel => 1 | .barrier => 2

/-- A step passes check 7 of R140: its tier is present, its station taught, its tier of a TILT has a tilt group. -/
def StepNamed (s : State) (x : PlanStep) : Prop :=
  (s.tier x.tier).present = true ∧ (∀ n, x.goal = .rotate n → (s.stationAngle x.tier n).isSome = true) ∧
  (∀ h, x.goal = .tilt h → (s.tier x.tier).tilt.isSome = true)

/-- Step `k` of some steps can be submitted by admission (R31): its tier is present and not inhibited, its station taught, its
tier of a TILT has a tilt group. -/
def StepSound (s : State) (x : PlanStep) : Prop :=
  (s.tier x.tier).present = true ∧ (s.seq x.tier).inhibit = none ∧
  (∀ n, x.goal = .rotate n → (s.stationAngle x.tier n).isSome = true) ∧
  (∀ h, x.goal = .tilt h → (s.tier x.tier).tilt.isSome = true)

/-- The target of a step as stored: a height clamped into the jack range (R24). -/
def stepGoal (s : State) (x : PlanStep) : Goal :=
  match x.goal, (s.tier x.tier).tilt with
  | .tilt h, some g => .tilt (min g.jackMax (max g.jackMin h))
  | y, _ => y

/-- The start condition of step `k`, with the steps of the run context as they stand (R141). -/
def CondMet (x : PlanStep) (steps : List StepRun) (k : Nat) : Prop :=
  k = 1 ∨
    match x.cond with
    | .sequential => (steps[k - 2]?).map (·.status) = some .done
    | .parallel => (steps[k - 2]?).map (·.status) = some .done ∨
        ∃ n, (steps[k - 2]?).map (·.status) = some (.submitted n)
    | .barrier => ∀ j < k - 1, (steps[j]?).map (·.status) = some .done

/-- The run context runs plan `p`, whose contents are the steps `l`; no step but the next one, if any, waits for room; and
admission takes its moves (R23, R31). -/
def PlanRuns (s : State) (p : PlanNo) (l : List PlanStep) : Prop :=
  s.plans.plan = some p ∧ s.plans.store.get p = l ∧ l.length ≤ 24 ∧ s.plans.steps.length = l.length ∧
  (∀ j r, s.plans.steps[j]? = some r → r.status = .waitingRoom → s.plans.next = some (j + 1)) ∧
  s.auth.mode = .run ∧ (s.man.state = .clear ∨ s.man.state = .holding ∨ s.man.state = .held)

/-- Every step of a submission from step `k` on can be submitted. -/
def RunSound (s : State) (l : List PlanStep) (k : Nat) : Prop :=
  ∀ x ∈ (l.drop (k - 1)).take (runLength l k), StepSound s x

/-- From `s`, whose run context has the steps `before`, to `t` the steps of plan `p` from step `k` on have been submitted in
step order (R141, R142): each that goes, as far as the pending list has room, joins the tail with a number of its own and
is SUBMITTED, and PLAN is raised for one whose target is clamped (R148); the first that finds no room is in WAITING_ROOM and next;
no other step changes, and the step after the last submitted is next. -/
def StepsSubmitted (s t : State) (p : PlanNo) (l : List PlanStep) (before : List StepRun) (k : Nat) : Prop :=
  ∀ wanted gone : Nat, wanted = runLength l k → gone = min wanted (32 - s.adm.waiting.length) →
    (∃ recs : List MoveRec, recs.length = gone ∧ t.adm.waiting = s.adm.waiting ++ recs ∧
      (∀ m, recs.head? = some m → m.number = s.freshNumber) ∧
      (t.adm.lastNumber = (recs.getLast?.map (·.number)).getD s.adm.lastNumber) ∧
      ∀ i m, recs[i]? = some m → ∃ x, l[k - 1 + i]? = some x ∧
        m = ⟨m.number, 0, x.tier, stepGoal s x, x.cls, .plan p (k + i), s.clock, 0, none⟩ ∧
        t.plans.steps[k - 1 + i]? = some ⟨.submitted m.number, decide (stepGoal s x ≠ x.goal)⟩ ∧
        ∀ h, stepGoal s x = .tilt h → stepGoal s x ≠ x.goal →
          Instr.latchEvent (.plan p .running (.adjusted (k + i) h)) ∈ t.mail) ∧
    (gone < wanted → (t.plans.steps[k - 1 + gone]?).map (·.status) = some .waitingRoom) ∧
    t.plans.next = (if gone < wanted ∨ k + gone ≤ l.length then some (k + gone) else none) ∧
    (∀ i, i < k - 1 ∨ k + gone ≤ i ∨ (i = k - 1 + gone ∧ gone = wanted) → t.plans.steps[i]? = before[i]?) ∧
    t.plans.steps.length = before.length ∧ t.adm.outcomes = s.adm.outcomes ∧
    (0 < gone → t.arb.armed = true ∧ t.arb.passRequested = true)

/-- From the plan executor `p` to `q` a running plan, whose steps stand as `steps`, has ended with a state, a failing step
and a reason: no step is next, each step in WAITING_ROOM is NOT_SUBMITTED again and every other is as in `steps`, and plan
and store stand (R144, R145, R147). -/
def PlanEnded (p q : Plans) (steps : List StepRun) (st : PlanState) (failing : Option Nat) (r : PlanReason) : Prop :=
  q = { p with
    state := st, failing := failing, reason := some r, next := none
    steps := steps.map fun x => if x.status = .waitingRoom then { x with status := .notSubmitted } else x }

/-- From `s` to `t`, whose plan has ended, admission has ended the pending moves of its steps still SUBMITTED CANCELLED with
reason PLAN_ENDED, oldest first, and left every other pending move where it stood (R144): each has its outcome record, with
MOVE_END raised, and a plan's move its step end. -/
def PlanMovesCancelled (s t : State) : Prop :=
  ∀ numbers : List Nat, numbers = (t.plans.steps.filterMap fun x => match x.status with | .submitted n => some n | _ => none) →
    t.adm.waiting = (s.adm.waiting.filter fun m => !numbers.contains m.number) ∧ t.adm.lastNumber = s.adm.lastNumber ∧
    (s.adm.outcomes.length ≤ 16 →
      t.adm.outcomes = newest16 (s.adm.outcomes ++
        (s.adm.waiting.filter fun m => numbers.contains m.number).map fun m =>
          endRecord m .cancelled .planEnded s.clock)) ∧
    ∀ m ∈ s.adm.waiting, numbers.contains m.number = true →
      Instr.latchEvent (.moveEnd (endRecord m .cancelled .planEnded s.clock)) ∈ t.mail ∧
      (m.origin ≠ .direct → Instr.stepEnd m.number .cancelled .planEnded ∈ t.mail)

/-- From `s`, whose run context has the steps `before`, to `t` the submission of step `k` of plan `p` has been refused INTERLOCK,
and the plan has failed with that step and that status (R142, R144): the step is ENDED_BAD with no move number, the pending moves
of the others have been cancelled, and PLAN is raised. -/
def StepRefused (s t : State) (p : PlanNo) (before : List StepRun) (k : Nat) : Prop :=
  (∀ r, before[k - 1]? = some r →
    PlanEnded s.plans t.plans (before.set (k - 1) { r with status := .endedBad none }) .failed (some k)
      (.refused .interlock)) ∧
  PlanMovesCancelled s t ∧ Instr.latchEvent (.plan p .failed (.failed k (.refused .interlock))) ∈ t.mail ∧
  t = { s with
    plans := t.plans, adm := t.adm
    arb := { s.arb with armed := t.arb.armed, passRequested := t.arb.passRequested }, mail := t.mail }

/-! ### Invariants -/

/-- No floor cell is owned by two tiers, and in SETUP every cell is FREE and none is owed (R40, R43). -/
def FloorSafe (s : State) : Prop :=
  (∀ t u, t ≠ u → (s.holding t).owns &&& (s.holding u).owns = 0) ∧
  (s.auth.mode = .setup → (∀ t, (s.holding t).owns = 0) ∧ s.arb.owed = [])

/-- The committed power never exceeds the capacity, in SETUP nothing is committed, and a tier with no active move has no
demand committed (R47, R48). -/
def PowerSafe (s : State) : Prop :=
  s.arb.committed ≤ s.tables.hall.capacity ∧ (s.auth.mode = .setup → s.arb.committed = 0) ∧
  ∀ u, (s.holding u).active = false → (s.holding u).demand = 0

/-- Every speed reference lies within −8 191 to +8 191, and is 0 while its axis's brake is applied or the contactor, as
the axis was told, is open (R101). -/
def DriveSafe (s : State) : Prop :=
  ∀ a, -8191 ≤ (s.axis a).speed ∧ (s.axis a).speed ≤ 8191 ∧
    ((s.axis a).released = false ∨ (s.axis a).contactor = false → (s.axis a).speed = 0)

/-- With RESET_N high the contactor is open exactly in TRIPPED (R151); the first-fault record is absent exactly in CLEAR,
HOLDING and HELD (R162). -/
def StopSafe (s : State) : Prop :=
  (s.held = false → (s.man.contactor = false ↔ s.man.state = .tripped)) ∧
  (s.man.record = none ↔ s.man.state = .clear ∨ s.man.state = .holding ∨ s.man.state = .held)

/-- In SETUP no move is pending or active; in RUN no jog runs; and at most one jog runs in the hall (R84, R170). -/
def MotionSafe (s : State) : Prop :=
  (s.auth.mode = .setup → s.adm.waiting = [] ∧ ∀ t, (s.seq t).slot = none) ∧
  (s.auth.mode = .run → ∀ t, (s.seq t).jog = none) ∧
  (∀ t u, (s.seq t).jog.isSome = true → (s.seq u).jog.isSome = true → t = u)

/-- The lists and queues stay within their capacities (R22, R36, R183, R192), and the further-fault count within 255
(R150). -/
def ListsSafe (s : State) : Prop :=
  s.adm.waiting.length ≤ 32 ∧ s.adm.outcomes.length ≤ 16 ∧ s.man.further ≤ 255 ∧
  ∀ p, (s.port p).input.length ≤ 4 ∧ (s.port p).notices.length ≤ 8

/-- Each ATTN line stands asserted while the latched set shares a kind with its port's enable set, and is deasserted
otherwise; the latch is empty, and so both lines are deasserted, while RESET_N is low (R194, R178). -/
def AttnSafe (s : State) : Prop :=
  (s.held = true → s.latched = 0) ∧ ∀ p, (s.port p).attn = ((s.latched &&& (s.port p).enabled) != 0)

/-- A remaining distance from which the velocity can still come to rest at the target (R97 to R99). -/
def CanStop (a v r : Nat) : Prop := brakeDist a v ≤ r

end Sys2Proof.Machine
end

