-- ==== Sys2Proof/WellFormed.lean ====
section
/-! DEFINITION. Well-formed commands: a request's fields fit the widths of its payload (R184, R187, R190), and a report's
or an order's figures lie in the ranges of the state they come from. A field's range within its width is no matter of
form: the owning block refuses a value outside it. -/

namespace Sys2Proof

/-- A one-byte field. -/
def isByte (n : Nat) : Bool := decide (n < 256)

/-- A two-byte field. -/
def isWord (n : Nat) : Bool := decide (n < 65536)

/-- A signed two-byte field. -/
def isSigned16 (x : Int) : Bool := decide (-32768 ≤ x ∧ x ≤ 32767)

/-- A move number (00_scope, Numbering). -/
def isMoveNumber (n : Nat) : Bool := decide (1 ≤ n ∧ n ≤ 65535)

/-- An actual position: a count less a zero offset (R13). -/
def isPosition (x : Int) : Bool := decide (-16777215 ≤ x ∧ x ≤ 16777215)

/-- A target of travel: a position of the rotation range or of the jack range, in fine units (R13). -/
def isTarget (x : Int) : Bool := decide (-4608000 ≤ x ∧ x ≤ 5120000)

/-- What an axis serves names a move number when it names a move. -/
def Served.wf : Served → Bool
  | .move n => isMoveNumber n
  | .none | .jog => true

/-- A plan step of an origin is 1 to 24 (R21). -/
def Origin.wf : Origin → Bool
  | .direct => true
  | .plan _ k => decide (1 ≤ k ∧ k ≤ 24)

def HallRec.wf (w : HallRec) : Bool :=
  isWord w.capacity && isByte w.bypassLimit && isWord w.releaseMargin && isWord w.tEn && isWord w.tEsc

def TiltRec.wf (w : TiltRec) : Bool :=
  isWord w.jackMin && isWord w.jackMax && isWord w.stow && isWord w.skewWarn && isWord w.skewTrip && isByte w.ks &&
    isWord w.demandA && isWord w.demandB

/-- A tilt group part stands in a SET_TIER exactly when its flag byte is 1 (R184). -/
def TierWrite.wf (w : TierWrite) : Bool :=
  isByte w.present && isSigned16 w.travelMin && isSigned16 w.travelMax && isWord w.lockTime && isWord w.presence &&
    decide (w.overload < 2 ^ 32) && isWord w.rotDemand && isByte w.cells.length && w.cells.all isByte &&
    isByte w.tiltFlag && (w.tilt.isSome == (w.tiltFlag == 1)) && w.tilt.all TiltRec.wf

def AxisRec.wf (w : AxisRec) : Bool :=
  isWord w.vLim && isByte w.a && isByte w.aQs && isWord w.kff && isByte w.kp && isWord w.feLimit && isWord w.window &&
    isByte w.settleCount && isWord w.settleTimeout && isWord w.liftTime && isWord w.setTime && decide (w.zero < 2 ^ 24)

def RawStep.wf (w : RawStep) : Bool :=
  isByte w.tier && isByte w.kind && isWord w.target && isByte w.cls && isByte w.cond

/-- A move's end has a move number, a two-byte host tag, and an origin in form. -/
def MoveEnd.wf (e : MoveEnd) : Bool := isMoveNumber e.number && isWord e.hostTag && e.origin.wf

def OutcomeRec.wf (o : OutcomeRec) : Bool := isMoveNumber o.number && isWord o.hostTag && o.origin.wf

/-- A reason that an order to empty the pending list, or to end a plan, carries: STOP or TRIP (R37, R147). -/
def Reason.isStop : Reason → Bool
  | .stop | .trip => true
  | .none | .operator | .lockTimeout | .settleTimeout | .lockLost | .planEnded | .inhibit => false

/-- A cause names its own tier's axis, and figures of positions. -/
def Cause.wf (c : Cause) : Bool :=
  c.served.wf && c.demand.all isPosition && c.actual.all isPosition &&
    (match c.axis, c.tier with
     | some a, some t => a.tier == t
     | some _, none => false
     | none, _ => true)

def Event.wf : Event → Bool
  | .moveEnd o => o.wf
  | .stalemate n => decide (n ≤ 32)
  | .plan _ _ _ | .stop _ _ | .fault _ _ _ _ | .tier _ _ | .load _ _ _ _ | .enable _ _ _ | .mode _ | .authority _ => true

/-- A command in form. -/
def Instr.wf : Instr → Bool
  | .powerOn | .resetNAssert | .resetNRelease => true
  | .byteReceived _ _ _ | .gapTimerExpiry _ | .frameDispatch _ | .transmitDone _ => true
  | .hallStatus _ | .readCells _ | .readFault _ => true
  | .tierStatus _ t => isByte t
  | .moveStatus _ n => isWord n
  | .readTable _ sel i j => isByte sel && isByte i && isByte j
  | .planStatus _ p => isByte p
  | .takeAuthority _ | .forceAuthority _ | .giveAuthority _ | .enable _ | .setModeRun _ => true
  | .setModeSetup _ m => isByte m && m != 1
  | .restart _ | .hold _ | .resume _ | .stop _ | .resetFaultHall _ => true
  | .resetFaultTier _ t => isByte t && t != 0
  | .move _ t k target c tag => isByte t && isByte k && isWord target && isByte c && isWord tag
  | .cancel _ n => isWord n
  | .jog _ t g d => isByte t && isByte g && isByte d
  | .jogStop _ => true
  | .setHall _ w => w.wf
  | .setTier _ t w => isByte t && w.wf
  | .setAxis _ a w => isByte a && w.wf
  | .setBand _ t b l => isByte t && isByte b && isByte l.length && l.all isByte
  | .setStation _ t n form x => isByte t && isByte n && isByte form && form != 1 && isSigned16 x
  | .setStationHere _ t n => isByte t && isByte n
  | .setPosition _ a x => isByte a && isSigned16 x
  | .tare _ t => isByte t
  | .planWrite _ p l => isByte p && isByte l.length && l.all RawStep.wf
  | .planClear _ p | .planStart _ p => isByte p
  | .planAbort _ => true
  | .setNotices _ _ | .clearEvents _ _ => true
  | .lockInputChange _ _ _ | .limitInputChange _ _ | .driveReadyChange _ _ | .estopInputChange _ => true
  | .axisUpdate _ _ | .liftComplete _ | .setComplete _ | .settleEnd _ | .settleTimeout _ => true
  | .pairUpdate _ | .pairLiftComplete _ | .pairSetComplete _ => true
  | .jackPositionReport _ _ x _ => isPosition x
  | .pollSlot | .pollEnd _ | .busHeldLow | .busRecoveryEnd _ => true
  | .lockTimerExpiry _ | .repoweringTimeout | .enableExpiry | .escalationExpiry | .grantPass => true
  | .bandReleaseReport _ served x => served.wf && isPosition x
  | .stowedChangeReport _ _ => true
  | .moveEndAtArbiter _ _ _ x => isPosition x
  | .moveEndReport e => e.wf
  | .stepEnd n _ _ => isMoveNumber n
  | .freedEntry => true
  | .emptyPendingList r | .planStopOrder r => r.isStop
  | .causeReport c => c.wf
  | .tierCauseReport _ _ n => n.all isMoveNumber
  | .brakedReport _ _ | .motionReport _ _ => true
  | .travelMarkReport _ n => n.all isMoveNumber
  | .arbiterTripReport | .holdOrder _ | .quickStopOrder _ | .tripOrder _ | .resumeOrder _ => true
  | .planHoldOrder | .planResumeOrder => true
  | .brakeReleaseOrder _ served | .pairReleaseOrder _ served => served.wf
  | .travelOrder _ x _ | .pairTravelOrder _ x _ => isTarget x
  | .stopOrder _ _ | .pairStopOrder _ _ | .brakeApplyOrder _ | .axisTripOrder _ | .pairApplyOrder _ | .pairTripOrder _ =>
    true
  | .contactorReport _ _ => true
  | .latchEvent e => e.wf

end Sys2Proof
end

