-- ==== Sys2Proof/Certificates/Slice0/Obligations.lean ====
section
/-! DEFINITION. The statements for the provers.

A report, an order or an event that one block sends another stands in `State.mail` until it is taken: that it stands
there, in the order sent, is the model's choice (notes/assumptions/1.md); what is sent, and when, is the spec's. -/

open Sys2Proof Sys2Proof.Machine

/-! ### Steps, reset and start-up -/

/-- A step takes the command at the front of the queue and runs it with the queue's rest. -/
def Obligations.StepTakesTheFrontCommand : Prop :=
  ∀ (s : State) (c : Instr) (rest : List Instr), s.pending = c :: rest →
    step s = exec c { s with pending := rest }

/-- With no command waiting, a step takes the oldest report in flight; with none in flight either, and RESET_N high, a
millisecond passes: the hall clock and the running gap timers advance by one, and the expiries of the timers that have
run out by then are sent: lock, repowering, enable, escalation (with a tier in motion) and gap timers. The model's choice: notes/assumptions/2.md; the count of milliseconds is R177's. -/
def Obligations.AnIdleStepDeliversOrCounts : Prop :=
  (∀ (s : State) (m : Instr) (rest : List Instr), s.pending = [] → s.mail = m :: rest → step s = exec m s) ∧
  (∀ s : State, s.pending = [] → s.mail = [] → s.held = false →
    ∃ t, step s = .next t ∧ t.clock = s.clock + 1 ∧
      (∀ p, (t.port p).rx.gap = (s.port p).rx.gap.map (· + 1)) ∧
      (∀ u, Instr.lockTimerExpiry u ∈ t.mail ↔ dueTimer (s.seq u).lockTimer t.clock = true) ∧
      (Instr.repoweringTimeout ∈ t.mail ↔ dueTimer s.man.repower t.clock = true) ∧
      (Instr.enableExpiry ∈ t.mail ↔ ∃ tm, s.auth.timer = .watching tm ∧ tm.due t.clock = true) ∧
      (Instr.escalationExpiry ∈ t.mail ↔
        ∃ tm u, s.auth.timer = .lapsed (some tm) ∧ tm.due t.clock = true ∧ s.auth.moving.get u = true) ∧
      (∀ p, Instr.gapTimerExpiry p ∈ t.mail ↔ ∃ g, (t.port p).rx.gap = some g ∧ 20 ≤ g) ∧
      t = { s with clock := t.clock, ports := t.ports, mail := t.mail })

/-- The values that the spec gives the part for power-on and RESET_N, with ESTOP inactive (R1, R22, R26, R36, R40, R63 to R65, R88, R112,
R124, R137, R139, R150, R167, R171, R174, R177, R180, R191 to R194). -/
def Obligations.ResetLeavesTheStatedValues : Prop :=
  State.reset.auth = ⟨.setup, none, .quiet, .fill false⟩ ∧
  State.reset.man.state = .tripped ∧ State.reset.man.contactor = false ∧ State.reset.man.further = 0 ∧
  State.reset.man.record = some ⟨.powerOn, none, none, none, none, none, 0⟩ ∧
  State.reset.man.repower = none ∧ State.reset.man.seen = kindSet .powerOn ∧
  State.reset.tables.hall = ⟨100, 4, 50, 500, 10000⟩ ∧
  (∀ t, State.reset.tier t = ⟨false, -18000, 18000, 2000, 100, 20000, [], 0, none⟩) ∧
  (∀ a, State.reset.axisRec a = ⟨256, 16, 32, 0, 16, 100, 256, 10, 300, 200, 200, 0⟩) ∧
  (∀ t b, State.reset.bandCells t b = 0) ∧ (∀ t n, State.reset.stationAngle t n = none) ∧
  State.reset.adm = ⟨[], [], 0⟩ ∧ State.reset.arb.owed = [] ∧ State.reset.arb.armed = false ∧
  State.reset.arb.passRequested = false ∧
  (∀ t, (State.reset.holding t).owns = 0 ∧ (State.reset.holding t).band = none ∧ (State.reset.holding t).demand = 0) ∧
  (∀ t, (State.reset.seq t).slot = none ∧ (State.reset.seq t).jog = none ∧ (State.reset.seq t).lockCmd = .engage ∧
    (State.reset.seq t).lockTimer = none ∧ (State.reset.seq t).station = none ∧ (State.reset.seq t).inhibit = none) ∧
  (∀ a, (State.reset.axis a).valid = false ∧ (State.reset.axis a).count = none ∧ (State.reset.axis a).phase = .idle ∧
    (State.reset.axis a).released = false ∧ (State.reset.axis a).speed = 0) ∧
  (∀ t, (State.reset.pair t).phase = .idle ∧ (State.reset.pair t).skew = none ∧ (State.reset.pair t).stowed = true) ∧
  (∀ t, (State.reset.loadOf t).cells = [] ∧ (State.reset.loadOf t).tare = 0 ∧ (State.reset.loadOf t).valid = false) ∧
  (∀ p, State.reset.plans.store.get p = []) ∧ State.reset.plans.state = .idle ∧ State.reset.latched = 0 ∧
  (∀ p, (State.reset.port p).rx = ⟨.hunt, [], none⟩ ∧ (State.reset.port p).input = [] ∧
    (State.reset.port p).reply = none ∧ (State.reset.port p).notices = [] ∧ (State.reset.port p).enabled = 0 ∧
    (State.reset.port p).attn = false) ∧
  State.reset.clock = 0

/-- Power-on and the release of RESET_N give every block its starting state in one event, the field inputs as they
stand: the tables at their defaults, the lists empty, SETUP, TRIPPED with POWER_ON (ESTOP seen as well when that input is
active), and the clock at 0. The lock states follow from the lock inputs with no transition running (R67). Power-on
while RESET_N is low leaves it low, and the values that the spec leaves open are the model's (notes/assumptions/3.md, 5.md,
9.md and 14.md). -/
def Obligations.PowerOnAndResetReleaseStartThePart : Prop :=
  ∀ (c : Instr) (s : State), startsAfresh c = true →
    ∃ t, exec c s = .next t ∧ t.held = (if c = .resetNRelease then false else s.held) ∧
      (∀ u, t.seq u = { Seq.initial with
        lockIn := (s.seq u).lockIn, lockOut := (s.seq u).lockOut
        lockState := lockStateOf (s.seq u).lockIn (s.seq u).lockOut none }) ∧
      (∀ a, t.axis a = { AxisCtl.initial with limit := (s.axis a).limit, ready := (s.axis a).ready }) ∧
      t.man = { StopManager.initial with
        seen := if s.man.estop then kindSet .powerOn ||| kindSet .estop else kindSet .powerOn, estop := s.man.estop } ∧
      t = { State.reset with seqs := t.seqs, axes := t.axes, man := t.man, held := t.held, pending := s.pending }

/-- RESET_N going low de-energises every output: the contactor opens, every brake applies, every lock is commanded to
ENGAGE, every speed reference is 0, ATTN is deasserted and the transmitters are idle, no byte is received (R178), the load
bus is released (R127), and the latch is empty (R194). Every axis controller is told of the open contactor in that event, no
reference is saturated then, and nothing is left in flight (the model's choice, notes/assumptions/3.md). All else stands:
every other field of the sequencers, the axes and the ports, and every other block; that a port's queues, waiting reply and
notice enable set stand until the release is the model's choice (notes/assumptions/64.md). -/
def Obligations.ResetAssertedCutsEveryOutput : Prop :=
  ∀ s : State, ∃ t, exec .resetNAssert s = .next t ∧
    (∀ a, t.axis a = { s.axis a with released := false, speed := 0, saturated := false, contactor := false }) ∧
    (∀ u, t.seq u = { s.seq u with lockCmd := .engage }) ∧
    (∀ p, t.port p = { s.port p with attn := false, sending := none, rx := ⟨.hunt, [], none⟩ }) ∧
    t = { s with
      held := true, seqs := t.seqs, axes := t.axes, man := { s.man with contactor := false }
      mon := { s.mon with transaction := .idle }, ports := t.ports, latched := 0, mail := [] }

/-- While RESET_N is low, no command but a start changes an output, a table, a list or the clock: only the levels of the
field inputs are kept, and a report taken is no longer in flight (R178). That the levels are kept and that nothing else
happens meanwhile is the model's choice (notes/assumptions/9.md). -/
def Obligations.NothingRunsWhileResetIsHeld : Prop :=
  ∀ (c : Instr) (s : State), s.held = true → startsAfresh c = false → c ≠ .resetNAssert →
    ∃ t, exec c s = .next t ∧ t.mail = s.mail.erase c ∧
      (∀ a, t.axis a = { s.axis a with limit := (t.axis a).limit, ready := (t.axis a).ready }) ∧
      (∀ u, t.seq u = { s.seq u with lockIn := (t.seq u).lockIn, lockOut := (t.seq u).lockOut }) ∧
      t.man = { s.man with estop := t.man.estop } ∧
      t = { s with axes := t.axes, seqs := t.seqs, man := t.man, mail := t.mail }

/-- RESTART from a port that may send it, with every brake applied and every tier at rest, empties the lists and the
slots, ends the jogs, idles axes and pairs, clears the latch and both ATTN lines, and leaves SETUP, no holder, the timer
QUIET and TRIPPED with RESTART; tables, plan store, tares, allocator, lock, station and inhibit, encoder data, skew,
degrade and stowed, notices with their enable sets and the clock stay (R179). Otherwise it is refused AUTHORITY or BUSY,
with no other effect. R179 names no detail of the refusal AUTHORITY: that it carries the holder's byte is the model's choice
(notes/assumptions/15.md); so are the waiting reply that the other port keeps (notes/assumptions/16.md), and that no order to
empty the pending list is on its way any more (notes/assumptions/52.md). -/
def Obligations.RestartClearsWhatR179States : Prop :=
  ∀ (q : Src) (s : State), s.held = false →
    (s.holderOrNone q = true → s.atRest = true →
      ∃ t, exec (.restart q) s = .next t ∧
        t.adm = ⟨[], [], s.adm.lastNumber⟩ ∧ t.auth = ⟨.setup, none, .quiet, .fill false⟩ ∧ t.latched = 0 ∧
        t.man.state = .tripped ∧ t.man.contactor = false ∧ t.man.repower = none ∧ t.man.further = 0 ∧
        t.man.record = some ⟨.restart, none, none, none, none, none, s.clock⟩ ∧
        t.man.seen = (if s.man.estop then kindSet .restart ||| kindSet .estop else kindSet .restart) ∧
        t.man.estop = s.man.estop ∧ t.man.emptying = false ∧
        t.plans = { Plans.initial with store := s.plans.store } ∧ t.arb.committed = 0 ∧ t.arb.owed = [] ∧
        (∀ u, (t.holding u).owns = 0 ∧ (t.holding u).band = none ∧ (t.seq u).slot = none ∧ (t.seq u).jog = none ∧
          (t.seq u).ending = [] ∧ (t.seq u).lockCmd = (s.seq u).lockCmd ∧ (t.seq u).lockTimer = (s.seq u).lockTimer ∧
          (t.seq u).lockState = (s.seq u).lockState ∧ (t.seq u).station = (s.seq u).station ∧
          (t.seq u).inhibit = (s.seq u).inhibit ∧ (t.loadOf u).tare = (s.loadOf u).tare ∧
          (t.pair u).phase = .idle ∧ (t.pair u).skew = (s.pair u).skew ∧ (t.pair u).degrade = (s.pair u).degrade ∧
          (t.pair u).stowed = (s.pair u).stowed) ∧
        (∀ a, (t.axis a).phase = .idle ∧ (t.axis a).released = false ∧ (t.axis a).count = (s.axis a).count ∧
          (t.axis a).position = (s.axis a).position ∧ (t.axis a).valid = (s.axis a).valid) ∧
        (∀ p, (t.port p).attn = false ∧ (t.port p).enabled = (s.port p).enabled) ∧
        Replied (s.withPorts { s.ports.a with attn := false } { s.ports.b with attn := false }) t q 0x15 .ok [] ∧
        t.tables = s.tables ∧ t.clock = s.clock ∧ t.pending = s.pending ∧ t.held = false) ∧
    (s.holderOrNone q = false →
      ∃ t, exec (.restart q) s = .next t ∧ OnlyPorts s t ∧
        Answered s t (.restart q) q 0x15 .authority [holderCode s.auth.holder] []) ∧
    (s.holderOrNone q = true → s.atRest = false →
      ∃ t, exec (.restart q) s = .next t ∧ OnlyPorts s t ∧ Answered s t (.restart q) q 0x15 .busy [] [])

/-! ### Links -/

/-- In HUNT a SYNC byte starts a frame and any other byte is discarded; a byte with a framing error returns the receiver
to HUNT with an empty buffer. A frame whose LEN is 0, 1 or above 248, and one whose CRC does not agree, with no SYNC among its
bytes, is dropped. When the gap timer has run out, a buffer with no SYNC in it is dropped, while a whole
frame that stands in it, behind a stray SYNC, joins an input queue that has room (R182). That an expiry which finds its timer
not run out does nothing is the model's reading (notes/assumptions/33.md). -/
def Obligations.ReceiverEventsOfR182 : Prop :=
  ∀ (p : Port) (s : State), s.held = false →
    (∀ b : Byte, ∃ t, exec (.byteReceived p b true) s = .next t ∧
      t = ({ s with mail := s.mail.erase (.byteReceived p b true) }).modPort p fun x => { x with rx := ⟨.hunt, [], none⟩ }) ∧
    (∀ b : Byte, (s.port p).rx.phase = .hunt →
      ∃ t, exec (.byteReceived p b false) s = .next t ∧ OnlyPorts s t ∧ Mailed s t (.byteReceived p b false) p [] ∧
        t.ports = s.ports.setPort p { s.port p with
          rx := if b = 0xA5 then ⟨.length, [], some 0⟩ else ⟨.hunt, [], none⟩ }) ∧
    (∀ b : Byte, (s.port p).rx.phase = .length → (s.port p).rx.buffer = [] → b.toNat < 2 ∨ 248 < b.toNat →
      ∃ t, exec (.byteReceived p b false) s = .next t ∧ OnlyPorts s t ∧ Mailed s t (.byteReceived p b false) p [] ∧
        t.ports = s.ports.setPort p { s.port p with rx := ⟨.hunt, [], none⟩ }) ∧
    (∀ (n c b : Byte) (body : List Byte), (s.port p).rx.phase = .check → (s.port p).rx.buffer = n :: body ++ [c] →
      body.length = n.toNat → 2 ≤ n.toNat → n.toNat ≤ 248 → [c, b] ≠ crcBytes (crc16 (n :: body)) →
      (∀ x ∈ n :: body ++ [c, b], x ≠ syncByte) →
      ∃ t, exec (.byteReceived p b false) s = .next t ∧ OnlyPorts s t ∧ Mailed s t (.byteReceived p b false) p [] ∧
        t.ports = s.ports.setPort p { s.port p with rx := ⟨.hunt, [], none⟩ }) ∧
    ((s.port p).rx.gapOut = false →
      ∃ t, exec (.gapTimerExpiry p) s = .next t ∧ t = s.taken (.gapTimerExpiry p)) ∧
    ((s.port p).rx.gapOut = true → (∀ b ∈ (s.port p).rx.buffer, b ≠ syncByte) →
      ∃ t, exec (.gapTimerExpiry p) s = .next t ∧ OnlyPorts s t ∧ Mailed s t (.gapTimerExpiry p) p [] ∧
        t.ports = s.ports.setPort p { s.port p with rx := ⟨.hunt, [], none⟩ }) ∧
    (∀ f : Frame, (s.port p).rx.gapOut = true → f.payload.length ≤ 246 → (s.port p).rx.buffer = frameBytes f →
      (s.port p).input.length < 4 →
      ∃ t, exec (.gapTimerExpiry p) s = .next t ∧ OnlyPorts s t ∧ Mailed s t (.gapTimerExpiry p) p [] ∧
        t.ports = s.ports.setPort p { s.port p with rx := ⟨.hunt, [], none⟩, input := (s.port p).input ++ [f] })

/-- The bytes of a frame, received one after another at a port in HUNT, give exactly that frame: its KIND, its TAG and
its payload join the input queue, and the receiver is in HUNT again. It holds for every payload of up to 246 bytes, so a
frame is read back from the bytes, LEN and CRC that the part itself sends for it (R181, R182). -/
def Obligations.EveryFrameSentIsReceivedWhole : Prop :=
  ∀ (p : Port) (f : Frame) (s : State), s.held = false → f.payload.length ≤ 246 →
    (s.port p).rx = ⟨.hunt, [], none⟩ → (s.port p).input.length < 4 →
    ∃ t, receiveAll p (frameBytes f) s = .next t ∧
      (t.port p).input = (s.port p).input ++ [f] ∧ (t.port p).rx = ⟨.hunt, [], none⟩

/-- Dispatch takes the head frame of a port whose reply slot is empty and whose last request is answered: an unknown
KIND is answered UNKNOWN_KIND and a wrong length BAD_LENGTH by the port itself, and any other frame goes on as its
request, with the frame's port and TAG (R183). A transmission's end frees the transmitter, which takes the waiting reply,
or else the oldest notice, or falls idle (R185). -/
def Obligations.DispatchAndTransmission : Prop :=
  ∀ (p : Port) (s : State), s.held = false →
    (∀ (f : Frame) (rest : List Frame), (s.port p).input = f :: rest →
      (s.taken (.frameDispatch p)).canDispatch p = true →
      ∃ t, exec (.frameDispatch p) s = .next t ∧ OnlyPorts s t ∧
        (parseRequest ⟨p, f.tag⟩ f.kind f.payload = .unknownKind →
          Answered (s.modPort p fun x => { x with input := rest }) t (.frameDispatch p) ⟨p, f.tag⟩ f.kind .unknownKind [] []) ∧
        (parseRequest ⟨p, f.tag⟩ f.kind f.payload = .badLength →
          Answered (s.modPort p fun x => { x with input := rest }) t (.frameDispatch p) ⟨p, f.tag⟩ f.kind .badLength [] []) ∧
        (∀ c, parseRequest ⟨p, f.tag⟩ f.kind f.payload = .request c →
          requestSrc c = some ⟨p, f.tag⟩ ∧ t.mail = s.mail.erase (.frameDispatch p) ++ [c] ∧
            t.ports = s.ports.setPort p { s.port p with input := rest })) ∧
    ∃ t, exec (.transmitDone p) s = .next t ∧ OnlyPorts s t ∧ Mailed s t (.transmitDone p) p [] ∧
      t.ports = s.ports.setPort p
        (match (s.port p).reply, (s.port p).notices with
         | some f, _ => { s.port p with sending := some (frameBytes f), reply := none }
         | none, f :: rest => { s.port p with sending := some (frameBytes f), notices := rest }
         | none, [] => { s.port p with sending := none })

/-- Every request that a port reads from a frame is in form and carries the frame's port and TAG; a KIND outside the
table is unknown whatever its payload, and one of the table never is; and the seven bytes of a MOVE give tier, kind, target, class and host tag in the
places R187 gives them. -/
def Obligations.RequestsAreReadInForm : Prop :=
  (∀ (q : Src) (kind : Byte) (l : List Byte) (c : Instr), parseRequest q kind l = .request c →
    c.wf = true ∧ requestSrc c = some q) ∧
  (∀ (q : Src) (kind : Byte) (l : List Byte),
    parseRequest q kind l = .unknownKind ↔
      kind.toNat ∉ [0x01, 0x02, 0x03, 0x04, 0x05, 0x06, 0x07, 0x10, 0x11, 0x12, 0x13, 0x14, 0x15, 0x18, 0x19, 0x1A, 0x1B,
        0x20, 0x21, 0x22, 0x23, 0x28, 0x29, 0x2A, 0x2B, 0x2C, 0x2D, 0x2E, 0x30, 0x31, 0x32, 0x33, 0x38, 0x39]) ∧
  (∀ (q : Src) (tier mk t1 t0 cls h1 h0 : Byte),
    parseRequest q 0x20 [tier, mk, t1, t0, cls, h1, h0] =
      .request (.move q tier.toNat mk.toNat (t1.toNat * 256 + t0.toNat) cls.toNat (h1.toNat * 256 + h0.toNat)))

/-- The records that replies carry are the payloads of the requests that write them: read back by a port, the bytes of a
hall record, an axis record, a tier record, a band entry, a station entry and a plan are the request that writes exactly
that record (R184, R190). -/
def Obligations.RecordsTravelAsTheirWriteRequests : Prop :=
  (∀ (q : Src) (w : HallRec), w.wf = true → parseRequest q 0x28 (hallBytes w) = .request (.setHall q w)) ∧
  (∀ (q : Src) (a : Axis) (w : AxisRec), w.wf = true →
    parseRequest q 0x2A (axisBytes a w) = .request (.setAxis q (axisCode a) w)) ∧
  (∀ (q : Src) (t : Tier) (w : TierWrite), w.wf = true → w.present ≤ 1 → w.tiltFlag ≤ 1 →
    parseRequest q 0x29 (tierBytes t
      ⟨w.present == 1, w.travelMin, w.travelMax, w.lockTime, w.presence, w.overload, w.cells, w.rotDemand, w.tilt⟩) =
      .request (.setTier q (Idx8.num t) w)) ∧
  (∀ (q : Src) (t : Tier) (b : Nat) (c : CellSet), b < 36 →
    parseRequest q 0x2B (bandBytes t b c) = .request (.setBand q (Idx8.num t) b (cellList c)) ∧ cellsOf (cellList c) = c) ∧
  (∀ (q : Src) (t : Tier) (n : Station) (x : Int), isSigned16 x = true →
    parseRequest q 0x2C (stationBytes t n (some x)) = .request (.setStation q (Idx8.num t) (Idx8.num n) 0 x)) ∧
  (∀ (q : Src) (p : PlanNo) (l : List RawStep), l.length ≤ 24 → l.all RawStep.wf = true →
    parseRequest q 0x30 (beBytes 1 (Idx8.num p) ++ beBytes 1 l.length ++ l.flatMap fun x =>
      beBytes 1 x.tier ++ beBytes 1 x.kind ++ beBytes 2 x.target ++ beBytes 1 x.cls ++ beBytes 1 x.cond) =
      .request (.planWrite q (Idx8.num p) l))

/-- The latch takes an event: its kind joins the latched set, each port that enables the kind and holds fewer than 8 notices
has the notice at the tail of its queue, and each port's ATTN line is judged afresh (R191, R192, R194). A busy transmitter
leaves the queue so; an idle one begins at once to send the reply in the slot, or else the notice at the head, so that with
nothing waiting the new notice's frame starts in this event. A notice has TAG 0, KIND 0x60 and the bit of its kind, and the
fields that R192 lists for it, a TIER notice the figures that stand as the latch takes it. That the status, flag and net load
of LOAD, and the count of STALEMATE, are those of the raising event is the model's choice (notes/assumptions/56.md), as is the
inhibit kind of a TIER notice in the codes of R189 (notes/assumptions/59.md), and the
reading of TIER too (notes/assumptions/32.md); so are the order and widths of the fields (notes/assumptions/8.md), and that the
fields of PLAN that belong to one case are left out in the others (notes/assumptions/63.md). -/
def Obligations.TheLatchTakesAnEvent : Prop :=
  (∀ (e : Event) (s : State), s.held = false →
    ∃ t, exec (.latchEvent e) s = .next t ∧ t.latched = s.latched ||| eventSet (eventKind e) ∧
      (∀ (p : Port) (queue : List Frame) (attn : Bool),
        queue = (if (s.port p).enabled.getLsbD (eventBit (eventKind e)) = true ∧ (s.port p).notices.length < 8 then
            (s.port p).notices ++ [noticeOf s e]
          else (s.port p).notices) →
        attn = ((t.latched &&& (s.port p).enabled) != 0) →
        t.port p =
          match (s.port p).sending, (s.port p).reply, queue with
          | some _, _, _ => { s.port p with notices := queue, attn := attn }
          | none, some f, _ =>
            { s.port p with sending := some (frameBytes f), reply := none, notices := queue, attn := attn }
          | none, none, f :: rest => { s.port p with sending := some (frameBytes f), notices := rest, attn := attn }
          | none, none, [] => { s.port p with notices := [], attn := attn }) ∧
      t = { s with latched := t.latched, ports := t.ports, mail := t.mail }) ∧
  ∀ s : State,
    (∀ o, noticeOf s (.moveEnd o) = ⟨0x60, 0, outcomeBytes o⟩) ∧
    (∀ p st, noticeOf s (.plan p st .plain) = ⟨0x61, 0, [BitVec.ofNat 8 (Idx8.num p), planCode st]⟩ ∧
      (∀ k x, noticeOf s (.plan p st (.adjusted k x)) =
        ⟨0x61, 0, [BitVec.ofNat 8 (Idx8.num p), planCode st, BitVec.ofNat 8 k] ++ beBytes 2 x⟩) ∧
      (∀ k r, noticeOf s (.plan p st (.failed k r)) =
        ⟨0x61, 0, [BitVec.ofNat 8 (Idx8.num p), planCode st, BitVec.ofNat 8 k] ++ planReasonBytes r⟩) ∧
      ∀ r, noticeOf s (.plan p st (.aborted r)) =
        ⟨0x61, 0, [BitVec.ofNat 8 (Idx8.num p), planCode st] ++ planReasonBytes r⟩) ∧
    (∀ st k, noticeOf s (.stop st k) = ⟨0x62, 0, [stopCode st, BitVec.ofNat 8 ((k.map kindCode).getD 0)]⟩) ∧
    (∀ k t a took, noticeOf s (.fault k t a took) =
      ⟨0x63, 0, [BitVec.ofNat 8 (kindCode k), BitVec.ofNat 8 (numOr0 t), BitVec.ofNat 8 ((a.map axisCode).getD 0xFF),
        if took then 1 else 0]⟩) ∧
    (∀ u m, noticeOf s (.tier u m) =
      ⟨0x64, 0, [BitVec.ofNat 8 (Idx8.num u), if (s.seq u).inhibit.isSome then 1 else 0, inhibitCode (s.seq u).inhibit,
        if (s.pair u).degrade then 1 else 0, ((s.seq u).jog.map fun j => stageCode j.stage).getD 0,
        BitVec.ofNat 8 (cellCount (s.arb.owedSet u)), matterCode m]⟩) ∧
    (∀ u valid occupied net, noticeOf s (.load u valid occupied net) =
      ⟨0x65, 0, [BitVec.ofNat 8 (Idx8.num u), if valid then 0 else 1, if occupied then 1 else 0] ++ beSigned 4 net⟩) ∧
    (∀ m st lost, noticeOf s (.enable m st lost) = ⟨0x66, 0, [modeCode m, timerCode st, if lost then 1 else 0]⟩) ∧
    (∀ n, noticeOf s (.stalemate n) = ⟨0x67, 0, [BitVec.ofNat 8 n]⟩) ∧
    (∀ m, noticeOf s (.mode m) = ⟨0x68, 0, [modeCode m]⟩) ∧
    ∀ h, noticeOf s (.authority h) = ⟨0x69, 0, [holderCode h]⟩

/-- SET_NOTICES replaces the enable set of its own port alone, judges that port's ATTN line and answers the set as stored
with the latched set; a field with any of bits 10 to 15 set is refused BAD_VALUE and changes nothing. -/
def Obligations.SetNoticesReplacesOnePortsSet : Prop :=
  ∀ (q : Src) (mask : BitVec 16) (s : State), s.held = false →
    ∃ t, exec (.setNotices q mask) s = .next t ∧ OnlyPorts s t ∧ Mailed s t (.setNotices q mask) q.port [] ∧
      if 1024 ≤ mask.toNat then Replied s t q 0x38 .badValue []
      else
        Replied
          (s.modPort q.port fun x => { x with enabled := mask.setWidth 10, attn := (s.latched &&& mask.setWidth 10) != 0 })
          t q 0x38 .ok
          (beBytes 2 (mask.setWidth 10 : EventSet).toNat ++ beBytes 2 s.latched.toNat)

/-- CLEAR_EVENTS, from either port, in either mode and in every stop state, removes every named kind from the latched
set, has both ports judge their ATTN lines afresh and answers OK with the set that is left; a kind that is not latched
stays so, the notice queues stay as they stand, and a field with any of bits 10 to 15 set is refused BAD_VALUE (R195). -/
def Obligations.ClearEventsRemovesTheNamedKinds : Prop :=
  ∀ (q : Src) (mask : BitVec 16) (s : State), s.held = false →
    ∃ t, exec (.clearEvents q mask) s = .next t ∧ Mailed s t (.clearEvents q mask) q.port [] ∧
      t = { s with latched := t.latched, ports := t.ports, mail := t.mail } ∧
      if 1024 ≤ mask.toNat then t.latched = s.latched ∧ Replied s t q 0x39 .badValue []
      else
        (∀ i, i < 10 → t.latched.getLsbD i = (s.latched.getLsbD i && !mask.getLsbD i)) ∧
        Replied
          (s.withPorts { s.ports.a with attn := (t.latched &&& s.ports.a.enabled) != 0 }
            { s.ports.b with attn := (t.latched &&& s.ports.b.enabled) != 0 }) t q 0x39 .ok (beBytes 2 t.latched.toNat)

/-! ### Queries -/

/-- Every query is answered from either port, in either mode and in every stop state, and changes nothing but the reply
at its port: no state of a block, no event, no report. READ_CELLS answers in 249 bytes the mode, for each cell its owner, how
that tier holds it and the tier with the oldest claim owing it, for each tier its standing band, the counts of its three sets
and its demand, then capacity, committed and free power and the detector (R61);
READ_TABLE the record or entry that its selector and indexes name (R20); and PLAN_STATUS the run context, its next and
failing step, its steps' marks, and the contents of the plan it names (R149). The length of the READ_CELLS and of the longest
PLAN_STATUS reply, the two zero bytes of an absent failure reason and the angle bytes of an absent station entry are the
model's readings (notes/assumptions/6.md, 7.md and 45.md), and so are the order and widths of READ_CELLS, with 0xFF for an
absent band (notes/assumptions/8.md). -/
def Obligations.QueriesChangeNothingButTheReply : Prop :=
  (∀ (c : Instr) (kind : Byte) (q : Src) (s : State), s.held = false → queryKind c = some kind →
    requestSrc c = some q →
    ∃ t st body, exec c s = .next t ∧ OnlyPorts s t ∧ Answered s t c q kind st body []) ∧
  (∀ (q : Src) (s : State), s.held = false →
    (∃ t body, exec (.readCells q) s = .next t ∧ Replied s t q 0x04 .ok body ∧ (statusCode .ok :: body).length = 249 ∧
      body =
        [modeCode s.auth.mode] ++
        ((List.range 64).flatMap fun c =>
          (match Idx8.all.find? fun u => (s.holding u).owns.getLsbD c with
           | none => [0, 0]
           | some u =>
             [BitVec.ofNat 8 (Idx8.num u),
              match (s.holding u).standing.getLsbD c, (s.holding u).reserved.getLsbD c with
              | true, true => 3
              | false, true => 2
              | true, false => 1
              | false, false => 0]) ++
          [BitVec.ofNat 8 (numOr0 ((s.arb.owed.find? fun o => o.cell == c).map (·.tier)))]) ++
        (Idx8.all.flatMap fun u =>
          [BitVec.ofNat 8 ((s.holding u).band.getD 0xFF), BitVec.ofNat 8 (cellCount (s.holding u).standing),
           BitVec.ofNat 8 (cellCount (s.holding u).reserved), BitVec.ofNat 8 (cellCount (s.arb.owedSet u))] ++
          beBytes 2 (s.holding u).demand) ++
        beBytes 2 s.tables.hall.capacity ++ beBytes 2 s.arb.committed ++
        beBytes 2 (s.tables.hall.capacity - s.arb.committed) ++ [if s.arb.armed then 1 else 0]) ∧
    (∃ t, exec (.readTable q 0 0 0) s = .next t ∧ Replied s t q 0x05 .ok (hallBytes s.tables.hall)) ∧
    (∀ u : Tier, ∃ t, exec (.readTable q 1 (Idx8.num u) 0) s = .next t ∧
      Replied s t q 0x05 .ok (tierBytes u (s.tier u))) ∧
    (∀ a : Axis, ∃ t, exec (.readTable q 2 (axisCode a) 0) s = .next t ∧
      Replied s t q 0x05 .ok (axisBytes a (s.axisRec a))) ∧
    (∀ (u : Tier) (b : Nat), b < 36 → ∃ t, exec (.readTable q 3 (Idx8.num u) b) s = .next t ∧
      Replied s t q 0x05 .ok (bandBytes u b (s.bandCells u b))) ∧
    (∀ (u : Tier) (n : Station), ∃ t, exec (.readTable q 4 (Idx8.num u) (Idx8.num n)) s = .next t ∧
      Replied s t q 0x05 .ok (stationBytes u n (s.stationAngle u n))) ∧
    (∀ n : Nat, 4 < n → ∃ t, exec (.readTable q n 0 0) s = .next t ∧ Replied s t q 0x05 .badValue []) ∧
    (∀ n : Nat, n ≤ 8 → ∃ t, exec (.planStatus q n) s = .next t ∧
      Replied s t q 0x06 .ok
        ([BitVec.ofNat 8 (numOr0 s.plans.plan), planCode s.plans.state, BitVec.ofNat 8 (s.plans.next.getD 0),
          BitVec.ofNat 8 (s.plans.failing.getD 0)] ++
          ((s.plans.reason.map planReasonBytes).getD [0, 0] ++ BitVec.ofNat 8 s.plans.steps.length ::
            s.plans.steps.flatMap stepRunBytes) ++
          (match Idx8.ofNat? n with
           | none => []
           | some p =>
             BitVec.ofNat 8 (s.plans.store.get p).length :: (s.plans.store.get p).flatMap stepBytes))))

/-- HALL_STATUS and READ_FAULT answer the figures of R196 and R163 in their order and widths, READ_FAULT with the first-fault
record's fields of R162 while one stands. A TIER_STATUS reply holds the tier's figures, a block for each present axis and
one for each load cell, as R189 lays them out, and is 25 + 15·m + 8·k bytes long, with m the present axes of the tier and k
its load cells, in any state whose load monitor holds one record for each entry of the tier's list; a tier outside 1 to 8 is
refused BAD_VALUE (R189). The presence byte before a field that may be absent, and 0xFF for an absent axis, are the model's
reading (notes/assumptions/8.md). -/
def Obligations.StatusRepliesCarryTheirFigures : Prop :=
  (∀ (q : Src) (s : State), s.held = false →
    ∃ t, exec (.hallStatus q) s = .next t ∧
      Replied s t q 0x01 .ok
        ([modeCode s.auth.mode, stopCode s.man.state, holderCode s.auth.holder, timerCode s.auth.timer.state,
          BitVec.ofNat 8 s.adm.waiting.length, BitVec.ofNat 8 s.activeCount, planCode s.plans.state] ++
          beBytes 2 s.latched.toNat ++ beBytes 1 ((s.man.record.map fun r => kindCode r.kind).getD 0) ++
          beBytes 4 s.clock.toNat)) ∧
  (∀ (q : Src) (s : State), s.held = false →
    ∃ t, exec (.readFault q) s = .next t ∧
      Replied s t q 0x07 .ok
        (stopCode s.man.state ::
          (match s.man.record with
           | none => [0]
           | some r =>
             [1, BitVec.ofNat 8 (kindCode r.kind), BitVec.ofNat 8 (numOr0 r.tier),
               (match r.axis with | some a => BitVec.ofNat 8 (axisCode a) | none => 0xFF)] ++
             beBytes 2 (r.number.getD 0) ++
             (match r.demand with | some d => 1 :: beSigned 4 d | none => [0]) ++
             (match r.actual with | some x => 1 :: beSigned 4 x | none => [0]) ++ beBytes 4 r.time.toNat) ++
          beBytes 4 s.man.seen.toNat ++
          [BitVec.ofNat 8 s.man.further, if s.man.contactor then 1 else 0, if s.man.estop then 1 else 0] ++
          (BitVec.ofNat 8 s.limitsActive.length :: s.limitsActive.map fun a => BitVec.ofNat 8 (axisCode a)) ++
          (BitVec.ofNat 8 s.drivesNotReady.length :: s.drivesNotReady.map fun a => BitVec.ofNat 8 (axisCode a)) ++
          (match s.man.repower with
           | some tm => 1 :: beBytes 4 (tm.duration - (s.clock - tm.start).toNat)
           | none => [0]))) ∧
  (∀ (s : State) (t : Tier),
    ∃ (flags : Byte) (axisFlags : Axis → Byte) (cellFlags : LoadCell → Byte),
      (∀ i < 8, flags.getLsbD i =
        [(s.tier t).present, (s.tier t).tilt.isSome, (s.pair t).stowed, (s.pair t).degrade, (s.pair t).skew.isSome,
          !(s.loadOf t).valid, (s.loadOf t).occupied, (s.seq t).inhibit.isSome].getD i false) ∧
      (∀ a, ∀ i < 8, (axisFlags a).getLsbD i =
        [(s.axis a).valid, (s.axis a).encoderMiss, (s.axis a).saturated, (s.axis a).released, (s.axis a).limit,
          (s.axis a).ready].getD i false) ∧
      (∀ c : LoadCell, ∀ i < 8, (cellFlags c).getLsbD i = [c.reading.isSome, c.saturated].getD i false) ∧
      statusCode .ok :: tierStatusBytes s t =
        [0, BitVec.ofNat 8 (Idx8.num t), flags, lockStateCode (s.seq t).lockState,
          BitVec.ofNat 8 (numOr0 (s.seq t).station),
          (match (s.seq t).inhibit with
           | none => 0 | some .lockTimeout => 1 | some .settleTimeout => 2 | some .lockConflict => 3)] ++
        beBytes 2 (((s.seq t).slot.map fun a => a.move.number).getD 0) ++
        [(((s.seq t).slot.map fun a => stageCode a.stage).getD 0), (((s.seq t).jog.map fun j => stageCode j.stage).getD 0),
          BitVec.ofNat 8 (cellCount (s.holding t).standing)] ++
        beSigned 4 ((s.pair t).skew.getD 0) ++ beSigned 4 (s.loadOf t).net ++ beSigned 4 (s.loadOf t).tare ++
        (BitVec.ofNat 8 ((axesOf t).filter s.axisPresent).length :: ((axesOf t).filter s.axisPresent).flatMap fun a =>
          BitVec.ofNat 8 (axisCode a) :: (beSigned 4 (s.axis a).position ++ beSigned 4 (s.axis a).demand ++
            beBytes 2 (s.axis a).v ++ beSigned 2 (s.axis a).speed ++ [phaseCode (s.axis a).phase, axisFlags a])) ++
        (BitVec.ofNat 8 (s.tier t).cells.length :: ((s.tier t).cells.zip (s.loadOf t).cells).flatMap fun x =>
          BitVec.ofNat 8 x.1 :: (beSigned 4 (x.2.reading.getD 0) ++
            [cellFlags x.2, BitVec.ofNat 8 x.2.misses, cellStateCode x.2.state]))) ∧
  (∀ (s : State) (t : Tier), (s.loadOf t).cells.length = (s.tier t).cells.length →
    (statusCode .ok :: tierStatusBytes s t).length =
      25 + 15 * ((axesOf t).filter s.axisPresent).length + 8 * (s.tier t).cells.length) ∧
  (∀ (q : Src) (s : State) (t : Tier), s.held = false →
    ∃ u, exec (.tierStatus q (Idx8.num t)) s = .next u ∧
      Replied s u q 0x02 .ok (tierStatusBytes s t)) ∧
  (∀ (q : Src) (n : Nat) (s : State), s.held = false → n = 0 ∨ 8 < n →
    ∃ u, exec (.tierStatus q n) s = .next u ∧ Replied s u q 0x02 .badValue [])

/-- MOVE_STATUS answers 0 with BAD_VALUE; a pending number with PENDING and its position, 1 for the head; a number in an
active slot with SUSPENDED in that stage and with ACTIVE in any other, and its stage; a number whose move has left its slot
and whose end admission has not taken with the same active state, of its last stage (R39); a number of the outcomes list alone
with ENDED and the record as sent; and a number found nowhere with NOT_FOUND (R38). The stage byte of a SUSPENDED move is the
model's choice (notes/assumptions/8.md), and that the active record is found behind the slots while its end is on its way is
its reading (notes/assumptions/46.md). -/
def Obligations.MoveStatusAnswersByPlace : Prop :=
  ∀ (q : Src) (s : State), s.held = false →
    (∃ t, exec (.moveStatus q 0) s = .next t ∧ Replied s t q 0x03 .badValue []) ∧
    (∀ (before after : List MoveRec) (m : MoveRec), m.number ≠ 0 → s.adm.waiting = before ++ m :: after →
      (∀ x ∈ before, x.number ≠ m.number) →
      ∃ t, exec (.moveStatus q m.number) s = .next t ∧
        Replied s t q 0x03 .ok
          ([0] ++ beBytes 2 (before.length + 1) ++ moveBytes m ++ [refusalCode m.lastRefusal])) ∧
    (∀ (u : Tier) (a : Active), (s.seq u).slot = some a → a.move.number ≠ 0 →
      (∀ m ∈ s.adm.waiting, m.number ≠ a.move.number) →
      (∀ v b, (s.seq v).slot = some b → b.move.number = a.move.number → v = u) →
      ∃ t, exec (.moveStatus q a.move.number) s = .next t ∧
        Replied s t q 0x03 .ok ([if a.stage = .suspended then 2 else 1, stageCode a.stage] ++ moveBytes a.move)) ∧
    (∀ (u : Tier) (before after : List Ending) (e : Ending), (s.seq u).ending = before ++ e :: after →
      e.move.number ≠ 0 → (∀ m ∈ s.adm.waiting, m.number ≠ e.move.number) →
      (∀ v a, (s.seq v).slot = some a → a.move.number ≠ e.move.number) → (∀ x ∈ before, x.move.number ≠ e.move.number) →
      (∀ v, v ≠ u → ∀ x ∈ (s.seq v).ending, x.move.number ≠ e.move.number) →
      ∃ t, exec (.moveStatus q e.move.number) s = .next t ∧
        Replied s t q 0x03 .ok ([if e.stage = .suspended then 2 else 1, stageCode e.stage] ++ moveBytes e.move)) ∧
    (∀ (n : Nat) (o : OutcomeRec), n ≠ 0 → (∀ m ∈ s.adm.waiting, m.number ≠ n) →
      (∀ t a, (s.seq t).slot = some a → a.move.number ≠ n) → (∀ t, ∀ e ∈ (s.seq t).ending, e.move.number ≠ n) →
      s.adm.outcomes.find? (fun x => x.number == n) = some o →
      ∃ t, exec (.moveStatus q n) s = .next t ∧ Replied s t q 0x03 .ok (3 :: outcomeBytes o)) ∧
    (∀ n : Nat, n ≠ 0 → (∀ m ∈ s.adm.waiting, m.number ≠ n) →
      (∀ t a, (s.seq t).slot = some a → a.move.number ≠ n) → (∀ t, ∀ e ∈ (s.seq t).ending, e.move.number ≠ n) →
      (∀ o ∈ s.adm.outcomes, o.number ≠ n) →
      ∃ t, exec (.moveStatus q n) s = .next t ∧ Replied s t q 0x03 .notFound [])

/-! ### Mode and authority -/

/-- A request that needs the holder, from a port that is not the holder, is refused, for AUTHORITY or for the mode that
its owner checks first, and changes nothing but the reply (R173). The rules of these requests name no detail of the refusal:
that every refusal AUTHORITY carries the holder's byte is the model's choice (notes/assumptions/15.md). -/
def Obligations.OnlyTheHolderMayAct : Prop :=
  ∀ (c : Instr) (kind : Byte) (q : Src) (s : State), s.held = false → holderKind c = some kind →
    requestSrc c = some q → s.auth.holder ≠ some q.port →
    ∃ t st, exec c s = .next t ∧ OnlyPorts s t ∧ (st = .authority ∨ st = .mode) ∧
      Answered s t c q kind st (if st = .authority then [holderCode s.auth.holder] else []) []

/-- TAKE_AUTHORITY gives authority to a port when none holds it, answers the holder with itself, and refuses the other
port naming the holder (R171). GIVE_AUTHORITY and FORCE_AUTHORITY change the holder only while no move is active and no
jog runs, and are answered BUSY otherwise; each change of holder raises AUTHORITY (R172). -/
def Obligations.AuthorityChangesHands : Prop :=
  ∀ (q : Src) (s : State), s.held = false →
    (∃ t, exec (.takeAuthority q) s = .next t ∧
      match s.auth.holder with
      | none => t = { s with auth := { s.auth with holder := some q.port }, ports := t.ports, mail := t.mail } ∧
          Answered s t (.takeAuthority q) q 0x10 .ok [holderCode (some q.port)] [.latchEvent (.authority (some q.port))]
      | some p => OnlyPorts s t ∧
          Answered s t (.takeAuthority q) q 0x10 (if p = q.port then .ok else .authority) [holderCode (some p)] []) ∧
    (∃ t, exec (.forceAuthority q) s = .next t ∧
      if s.auth.holder = some q.port then OnlyPorts s t ∧ Answered s t (.forceAuthority q) q 0x11 .ok [] []
      else if s.handsFull then OnlyPorts s t ∧ Answered s t (.forceAuthority q) q 0x11 .busy [] []
      else t = { s with auth := { s.auth with holder := some q.port }, ports := t.ports, mail := t.mail } ∧
        Answered s t (.forceAuthority q) q 0x11 .ok [holderCode (some q.port)]
          [.latchEvent (.authority (some q.port))]) ∧
    (s.auth.holder = some q.port → ∃ t, exec (.giveAuthority q) s = .next t ∧
      if s.handsFull then OnlyPorts s t ∧ Answered s t (.giveAuthority q) q 0x12 .busy [] []
      else t = { s with auth := { s.auth with holder := none }, ports := t.ports, mail := t.mail } ∧
        Answered s t (.giveAuthority q) q 0x12 .ok [] [.latchEvent (.authority none)]) ∧
    (s.auth.holder ≠ some q.port → ∃ t, exec (.giveAuthority q) s = .next t ∧ OnlyPorts s t ∧
      Answered s t (.giveAuthority q) q 0x12 .authority [holderCode s.auth.holder] [])

/-- The enable timer: a tier's motion report starts WATCHING from QUIET with the enable period of the hall record, and the
last rest report makes it QUIET (R174); ENABLE from the holder reloads WATCHING and recovers LAPSED (R174); the expiry in
RUN reports ENABLE_LAPSE, enters LAPSED with the escalation time running and raises ENABLE, and in SETUP halts the running
jog at a in place of the report (R175, R86); the escalation time
running out with motion present reports ENABLE_LOST and raises ENABLE (R176). That a jog in LIFT_BRAKE whose brakes are applied
already ends at once is the model's reading (notes/assumptions/21.md). -/
def Obligations.TheEnableTimerWatchesMotion : Prop :=
  (∀ (u : Tier) (moving : Bool) (s : State), s.held = false →
    ∃ t, exec (.motionReport u moving) s = .next t ∧
      t = { s with auth := t.auth, mail := s.mail.erase (.motionReport u moving) } ∧
      t.auth.moving = s.auth.moving.set u moving ∧ t.auth.mode = s.auth.mode ∧ t.auth.holder = s.auth.holder ∧
      t.auth.timer =
        (if (s.auth.moving.set u moving).all (fun b => !b) then .quiet
         else if s.auth.timer = .quiet then .watching ⟨s.clock, s.tables.hall.tEn⟩ else s.auth.timer)) ∧
  (∀ (q : Src) (s : State), s.held = false → s.auth.holder = some q.port →
    ∃ t, exec (.enable q) s = .next t ∧ t = { s with auth := t.auth, ports := t.ports, mail := t.mail } ∧
      Answered s t (.enable q) q 0x13 .ok [timerCode t.auth.timer.state] [] ∧
      t.auth = { s.auth with timer :=
        match s.auth.timer with
        | .quiet => .quiet
        | .watching _ => .watching ⟨s.clock, s.tables.hall.tEn⟩
        | .lapsed _ =>
          if s.auth.moving.all (fun b => !b) then .quiet else .watching ⟨s.clock, s.tables.hall.tEn⟩ }) ∧
  (∀ (tm : Timer) (s : State), s.held = false → s.auth.timer = .watching tm → s.auth.mode = .run →
    ∃ t, exec .enableExpiry s = .next t ∧
      if tm.due s.clock then
        t = { s with
          auth := { s.auth with timer := .lapsed (some ⟨s.clock, s.tables.hall.tEsc⟩) }
          mail := s.mail.erase .enableExpiry ++
            [.causeReport (bareCause .enableLapse), .latchEvent (.enable .run .lapsed false)] }
      else t = s.taken .enableExpiry) ∧
  (∀ (tm : Timer) (s : State), s.held = false → s.auth.timer = .watching tm → s.auth.mode = .setup →
    ∃ t, exec .enableExpiry s = .next t ∧
      if tm.due s.clock then
        t.auth = { s.auth with timer := .lapsed (some ⟨s.clock, s.tables.hall.tEsc⟩) } ∧
        Instr.latchEvent (.enable .setup .lapsed false) ∈ t.mail ∧
        t = { s with
          auth := t.auth, seqs := t.seqs, man := { s.man with exempt := t.man.exempt }, mail := t.mail } ∧
        ((∀ v, (s.seq v).jog = none) → t = { s with
          auth := t.auth, mail := s.mail.erase .enableExpiry ++ [.latchEvent (.enable .setup .lapsed false)] }) ∧
        ∀ u j, (s.seq u).jog = some j → (s.seq u).slot = none → (∀ v, v ≠ u → (s.seq v).jog = none) →
          JogMeets (s.seq u) t u j .enableLapse .a ∧
          ∀ v, v ≠ u → t.seq v = s.seq v ∧ t.man.exempt.get v = s.man.exempt.get v
      else t = s.taken .enableExpiry) ∧
  (∀ (tm : Timer) (s : State), s.held = false → s.auth.timer = .lapsed (some tm) →
    ∃ t, exec .escalationExpiry s = .next t ∧
      if tm.due s.clock && s.someMoving then
        t = { s with
          auth := { s.auth with timer := .lapsed none }
          mail := s.mail.erase .escalationExpiry ++
            [.causeReport (bareCause .enableLost), .latchEvent (.enable s.auth.mode .lapsed true)] }
      else t = s.taken .escalationExpiry)

/-- SET_MODE(RUN) from the holder, in SETUP and CLEAR with no jog running and the validation passed, makes the mode RUN
and builds the map in the same event: every present tier owns the cells of its band, with its raised set when it is not
stowed, nothing is reserved, committed or owed, the detector is armed, a pass is asked for and MODE is raised (R44, R168).
A validation that fails is answered CONFLICT with its finding and changes nothing: the number of the first of the six checks
that fails, and the first place, in tier order, at which that check fails (R169; the form of the finding is the model's
reading, notes/assumptions/37.md). SET_MODE(SETUP) in RUN, with no move and no plan running, clears the map and raises
MODE; in SETUP it changes nothing (R45, R170). -/
def Obligations.ModeChangesBuildAndClearTheMap : Prop :=
  (∀ (q : Src) (s : State), s.held = false → s.auth.holder = some q.port → s.auth.mode = .setup →
    s.man.state = .clear → (∀ u, (s.seq u).jog = none) → s.runFinding = none →
    ∃ t, exec (.setModeRun q) s = .next t ∧
      t = { s with auth := { s.auth with mode := .run }, arb := t.arb, ports := t.ports, mail := t.mail } ∧
      Replied s t q 0x14 .ok [] ∧ Instr.latchEvent (.mode .run) ∈ t.mail ∧ t.arb.armed = true ∧ t.arb.owed = [] ∧
      t.arb.passRequested = true ∧ t.arb.committed = 0 ∧
      ∀ u, (t.holding u).reserved = 0 ∧ (t.holding u).active = false ∧
        if (s.tier u).present then
          (t.holding u).band = some (bandOf (s.axis ⟨u, .R⟩).position) ∧
          (t.holding u).standing =
            (s.bandCells u (bandOf (s.axis ⟨u, .R⟩).position) ||| if (s.pair u).stowed then 0 else s.raisedSet u)
        else (t.holding u).band = none ∧ (t.holding u).standing = 0) ∧
  (∀ s : State, s.runFinding = none ↔ ∀ k place, ¬ RunCheckFails s k place) ∧
  (∀ (q : Src) (s : State) (k : Nat) (place : List Nat), s.held = false → s.auth.holder = some q.port →
    s.auth.mode = .setup → s.man.state = .clear → (∀ u, (s.seq u).jog = none) →
    RunCheckFails s k place → (∀ k' < k, ∀ other, ¬ RunCheckFails s k' other) →
    (∀ other, RunCheckFails s k other → ¬ other < place) →
    ∃ t, exec (.setModeRun q) s = .next t ∧ OnlyPorts s t ∧
      Answered s t (.setModeRun q) q 0x14 .conflict ((k :: place).map (BitVec.ofNat 8)) []) ∧
  (∀ (q : Src) (s : State), s.held = false → s.auth.holder = some q.port → s.auth.mode = .run →
    s.adm.waiting = [] → (∀ u, (s.seq u).slot = none) → s.plans.running = false →
    ∃ t, exec (.setModeSetup q 0) s = .next t ∧
      t = { s with auth := { s.auth with mode := .setup }, arb := t.arb, ports := t.ports, mail := t.mail } ∧
      Answered s t (.setModeSetup q 0) q 0x14 .ok [] [.latchEvent (.mode .setup)] ∧ t.arb.armed = false ∧
      t.arb.owed = [] ∧ t.arb.committed = 0 ∧
      ∀ u, (t.holding u).owns = 0 ∧ (t.holding u).band = none ∧ (t.holding u).stowed = (s.holding u).stowed) ∧
  (∀ (q : Src) (s : State), s.held = false → s.auth.holder = some q.port → s.auth.mode = .setup →
    ∃ t, exec (.setModeSetup q 0) s = .next t ∧ OnlyPorts s t ∧ Answered s t (.setModeSetup q 0) q 0x14 .ok [] [])

/-- The mode changes by an accepted SET_MODE alone: every other command, power, RESET_N and RESTART apart, leaves it as
it stands; and in RUN no command but a start changes the hall tables (R2, R167). -/
def Obligations.ModeAndTablesChangeByTheirOwnCommandsAlone : Prop :=
  (∀ (c : Instr) (s t : State), exec c s = .next t → startsAfresh c = false → (∀ q, c ≠ .restart q) →
    (∀ q, c ≠ .setModeRun q) → (∀ q m, c ≠ .setModeSetup q m) → t.auth.mode = s.auth.mode) ∧
  (∀ (c : Instr) (s t : State), exec c s = .next t → startsAfresh c = false → s.auth.mode = .run →
    t.tables = s.tables)

/-- Every request is answered in the event in which it is taken, with its KIND plus 0x80 and its TAG, on its own port; and
a request that is refused changes nothing else: no table, list, register or other block (R2, R23, R183, R185). -/
def Obligations.EveryRequestIsAnsweredAndARefusedOneChangesNothing : Prop :=
  ∀ (c : Instr) (kind : Byte) (q : Src) (s : State), s.held = false → requestKind c = some kind →
    requestSrc c = some q →
    ∃ t st body, exec c s = .next t ∧
      ((s.port q.port).sending = none → (t.port q.port).sending = some (frameBytes (replyFrame q kind st body))) ∧
      ((s.port q.port).sending.isSome = true → (t.port q.port).reply = some (replyFrame q kind st body)) ∧
      (isRefusal st = true → OnlyPorts s t ∧ Answered s t c q kind st body [])

/-! ### Stops and faults -/

/-- HOLD, from either port, in either mode and in every stop state, is a HOLD cause: in CLEAR it enters a hold (HELD at
once when every tier is braked) and orders every sequencer and the plan executor to hold; in any other state it is
recorded only. It is answered OK with the stop state after it (R155). -/
def Obligations.HoldPausesTheHall : Prop :=
  ∀ (q : Src) (s : State), s.held = false →
    ∃ t, exec (.hold q) s = .next t ∧ t = { s with man := t.man, ports := t.ports, mail := t.mail } ∧
      Replied s t q 0x18 .ok [stopCode t.man.state] ∧
      if s.man.state = .clear then
        t.man = { recordedOnly s.man .hold with state := if s.allBraked then .held else .holding } ∧
        (∀ u, Instr.holdOrder u ∈ t.mail) ∧ Instr.planHoldOrder ∈ t.mail
      else t.man = recordedOnly s.man .hold ∧ Mailed s t (.hold q) q.port []

/-- STOP, from either port, in either mode and in every stop state, is a STOP cause: in CLEAR, HOLDING and HELD it enters
a quick stop (STOPPED at once when every tier is braked), with STOP as the first-fault kind, no tier and no axis, and
orders every sequencer, admission and the plan executor; in any other state it is recorded only. It is answered OK with
the stop state after it (R158). -/
def Obligations.StopStopsTheHall : Prop :=
  ∀ (q : Src) (s : State), s.held = false →
    ∃ t, exec (.stop q) s = .next t ∧ t = { s with man := t.man, ports := t.ports, mail := t.mail } ∧
      Replied s t q 0x1A .ok [stopCode t.man.state] ∧
      if s.man.state = .clear ∨ s.man.state = .holding ∨ s.man.state = .held then
        t.man = { s.man with
          state := if s.allBraked then .stopped else .stopping
          seen := s.man.seen ||| kindSet .stop
          record := some ⟨.stop, none, none, none, none, none, s.clock⟩
          emptying := t.man.emptying } ∧
        (∀ u, Instr.quickStopOrder u ∈ t.mail) ∧ Instr.emptyPendingList .stop ∈ t.mail ∧
        Instr.planStopOrder .stop ∈ t.mail
      else t.man = recordedOnly s.man .stop ∧ Mailed s t (.stop q) q.port []

/-- RESUME from the holder: in HELD the hall becomes CLEAR, every sequencer and the plan executor are ordered to resume,
and a grant pass is asked for; HOLDING answers BUSY, CLEAR answers CONFLICT and every other stop state STOPPED. Record,
seen-kinds set and count stay (R156). -/
def Obligations.ResumeReleasesAHold : Prop :=
  ∀ (q : Src) (s : State), s.held = false → s.auth.holder = some q.port →
    ∃ t, exec (.resume q) s = .next t ∧
      match s.man.state with
      | .held =>
        t = { s with
          man := { s.man with state := .clear }, arb := { s.arb with passRequested := true }, ports := t.ports
          mail := t.mail } ∧
        Replied s t q 0x19 .ok [] ∧ (∀ u, Instr.resumeOrder u ∈ t.mail) ∧ Instr.planResumeOrder ∈ t.mail ∧
        Instr.latchEvent (.stop .clear none) ∈ t.mail
      | .holding => OnlyPorts s t ∧ Answered s t (.resume q) q 0x19 .busy [] []
      | .clear => OnlyPorts s t ∧ Answered s t (.resume q) q 0x19 .conflict [] []
      | .stopping | .stopped | .tripped | .repowering =>
        OnlyPorts s t ∧ Answered s t (.resume q) q 0x19 .stopped [] []

/-- RESET_FAULT(HALL) by stop state: in CLEAR, HOLDING and HELD the set is emptied and the count 0; in STOPPING and
REPOWERING it is BUSY; in STOPPED and TRIPPED it is INTERLOCK while ESTOP is active, and in TRIPPED in RUN also while a
present axis's limit input is active, naming the first such axis; from STOPPED it brings CLEAR with record, set and count
cleared, and from TRIPPED it closes the contactor and begins repowering, which ends in CLEAR at once when every drive is
ready (R164, R165). From a port that neither holds authority nor finds it free it is refused AUTHORITY; R164 names no detail
of that refusal, and that it carries the holder's byte is the model's choice (notes/assumptions/15.md). -/
def Obligations.ResetFaultHallByStopState : Prop :=
  ∀ (q : Src) (s : State), s.held = false →
    ∃ t, exec (.resetFaultHall q) s = .next t ∧
      if s.holderOrNone q = false then
        OnlyPorts s t ∧ Answered s t (.resetFaultHall q) q 0x1B .authority [holderCode s.auth.holder] []
      else
        t = { s with
          man := t.man, arb := { s.arb with passRequested := t.arb.passRequested }, ports := t.ports, mail := t.mail } ∧
        match s.man.state with
        | .clear | .holding | .held =>
          t.man = { s.man with seen := 0, further := 0 } ∧ Answered s t (.resetFaultHall q) q 0x1B .ok [] []
        | .stopping | .repowering => OnlyPorts s t ∧ Answered s t (.resetFaultHall q) q 0x1B .busy [] []
        | .stopped =>
          if s.man.estop then OnlyPorts s t ∧ Answered s t (.resetFaultHall q) q 0x1B .interlock [] []
          else t.man = { s.man with state := .clear, record := none, seen := 0, further := 0 } ∧
            t.arb.passRequested = true ∧ Replied s t q 0x1B .ok []
        | .tripped =>
          if s.man.estop then OnlyPorts s t ∧ Answered s t (.resetFaultHall q) q 0x1B .interlock [] []
          else if s.auth.mode = .run ∧ s.limitsActive ≠ [] then
            OnlyPorts s t ∧
              Answered s t (.resetFaultHall q) q 0x1B .interlock (axisByte s.limitsActive.head?) []
          else
            Replied s t q 0x1B .ok [] ∧ (∀ a, Instr.contactorReport a true ∈ t.mail) ∧
            if s.drivesNotReady = [] then
              t.man = { s.man with
                state := .clear, contactor := true, repower := none, record := none, seen := 0, further := 0 } ∧
              t.arb.passRequested = true
            else t.man = { s.man with state := .repowering, contactor := true, repower := some ⟨s.clock, 2000⟩ }

/-- A cause of the hold, quick or trip category, by the stop state in which it is taken (R153): its kind is seen, and it
takes effect as the table gives or is recorded only. A hold orders the sequencers and the plan executor (R154); a quick
stop captures the record and orders sequencers, admission and plan executor (R157); a trip opens the contactor, stops the
repowering timer, captures the record from CLEAR, HOLDING and HELD alone and orders sequencers, arbiter, admission and
plan executor (R159). An entry to a stop from CLEAR, HOLDING and HELD has its order to empty the list on its way (R32,
notes/assumptions/52.md). Each cause but those of the HOLD and STOP requests raises FAULT, with its kind, tier and axis and
whether it took effect (R153), these two raise none, and each change of the stop state raises STOP with the state entered and
the kind (R151); one that is only recorded raises nothing else. That a hold or a quick stop which finds every tier braked
raises STOP twice is the model's reading (notes/assumptions/30.md). -/
def Obligations.CausesTakeEffectByStopState : Prop :=
  ∀ (c : Cause) (s : State), s.held = false → categoryOf c.kind ≠ none →
    ∃ t, exec (.causeReport c) s = .next t ∧ t = { s with man := t.man, mail := t.mail } ∧
      (∀ took : Bool,
        (took = true ↔
          (categoryOf c.kind = some .hold ∧ s.man.state = .clear) ∨
          (categoryOf c.kind = some .quick ∧
            (s.man.state = .clear ∨ s.man.state = .holding ∨ s.man.state = .held)) ∨
          (categoryOf c.kind = some .trip ∧ s.man.state ≠ .tripped)) →
        (c.kind ≠ .hold → c.kind ≠ .stop → Instr.latchEvent (.fault c.kind c.tier c.axis took) ∈ t.mail) ∧
        (c.kind = .hold ∨ c.kind = .stop →
          ∀ k u a b, Instr.latchEvent (.fault k u a b) ∈ t.mail → Instr.latchEvent (.fault k u a b) ∈ s.mail) ∧
        (took = false →
          t.mail = s.mail.erase (.causeReport c) ++
            if c.kind = .hold ∨ c.kind = .stop then [] else [.latchEvent (.fault c.kind c.tier c.axis false)])) ∧
      (categoryOf c.kind = some .hold →
        if s.man.state = .clear then
          t.man = { recordedOnly s.man c.kind with state := if s.allBraked then .held else .holding } ∧
          Instr.latchEvent (.stop .holding (some c.kind)) ∈ t.mail ∧
          (s.allBraked = true → Instr.latchEvent (.stop .held none) ∈ t.mail) ∧
          (∀ u, Instr.holdOrder u ∈ t.mail) ∧ Instr.planHoldOrder ∈ t.mail
        else t.man = recordedOnly s.man c.kind) ∧
      (categoryOf c.kind = some .quick →
        if s.man.state = .clear ∨ s.man.state = .holding ∨ s.man.state = .held then
          t.man = { s.man with
            state := if s.allBraked then .stopped else .stopping
            seen := s.man.seen ||| kindSet c.kind
            record := some ⟨c.kind, c.tier, c.axis, servedNumber c.served, c.demand, c.actual, s.clock⟩
            emptying := true } ∧
          Instr.latchEvent (.stop .stopping (some c.kind)) ∈ t.mail ∧
          (s.allBraked = true → Instr.latchEvent (.stop .stopped none) ∈ t.mail) ∧
          (∀ u, Instr.quickStopOrder u ∈ t.mail) ∧ Instr.emptyPendingList .stop ∈ t.mail ∧
          Instr.planStopOrder .stop ∈ t.mail
        else t.man = recordedOnly s.man c.kind) ∧
      (categoryOf c.kind = some .trip →
        if s.man.state = .tripped then t.man = recordedOnly s.man c.kind
        else
          (if s.man.state = .clear ∨ s.man.state = .holding ∨ s.man.state = .held then
            t.man = { s.man with
              state := .tripped, contactor := false, repower := none, seen := s.man.seen ||| kindSet c.kind
              record := some ⟨c.kind, c.tier, c.axis, servedNumber c.served, c.demand, c.actual, s.clock⟩
              emptying := true }
          else t.man = { recordedOnly s.man c.kind with state := .tripped, contactor := false, repower := none }) ∧
          Instr.latchEvent (.stop .tripped (some c.kind)) ∈ t.mail ∧
          (∀ u, Instr.tripOrder u ∈ t.mail) ∧ (∀ a, Instr.contactorReport a false ∈ t.mail) ∧
          Instr.arbiterTripReport ∈ t.mail ∧ Instr.emptyPendingList .trip ∈ t.mail ∧ Instr.planStopOrder .trip ∈ t.mail)

/-- A tier cause is recorded and raises FAULT, without effect on the hall (R161). A braked report is kept, and the report
that leaves every tier braked makes HOLDING into HELD and STOPPING into STOPPED (R154, R157). -/
def Obligations.TierCausesAndBrakedReports : Prop :=
  (∀ (u : Tier) (k : TierCause) (n : Option Nat) (s : State), s.held = false →
    ∃ t, exec (.tierCauseReport u k n) s = .next t ∧
      t = { s with
        man := recordedOnly s.man (tierCauseKind k)
        mail := s.mail.erase (.tierCauseReport u k n) ++
          [.latchEvent (.fault (tierCauseKind k) (some u) none false)] }) ∧
  (∀ (u : Tier) (b : Bool) (s : State), s.held = false →
    ∃ t, exec (.brakedReport u b) s = .next t ∧ t = { s with man := t.man, mail := t.mail } ∧
      t.man = { s.man with
        braked := s.man.braked.set u b
        state :=
          if (s.man.braked.set u b).all id then
            match s.man.state with
            | .holding => .held
            | .stopping => .stopped
            | x => x
          else s.man.state })

/-- The field inputs (R92, R160): the level is kept; ESTOP becoming active trips a hall that is not tripped; a limit input
becoming active or a drive-ready input becoming inactive on a present axis trips it when that axis's brake is released,
and gives no cause when the brake is applied; a change on a present axis asks for a grant pass. In REPOWERING the drive-ready
input that leaves every present drive ready stops the timer and makes the hall CLEAR, with the record, the seen-kinds set
and the count cleared; one that leaves another drive not ready changes nothing there (R165). -/
def Obligations.FieldInputsAreKeptAndJudged : Prop :=
  (∀ (b : Bool) (s : State), s.held = false →
    ∃ t, exec (.estopInputChange b) s = .next t ∧ t = { s with man := t.man, mail := t.mail } ∧ t.man.estop = b ∧
      (b = true → s.man.estop = false → t.man.state = .tripped ∧ t.man.contactor = (s.man.contactor && s.man.state == .tripped)) ∧
      (b = false ∨ s.man.estop = true → t.man = { s.man with estop := b })) ∧
  (∀ (a : Axis) (b : Bool) (s : State), s.held = false → (s.axis a).limit ≠ b →
    ∃ t, exec (.limitInputChange a b) s = .next t ∧
      t = { s with
        axes := t.axes, man := t.man, arb := { s.arb with passRequested := t.arb.passRequested }, mail := t.mail } ∧
      t.axis a = { s.axis a with limit := b } ∧ (∀ x, x ≠ a → t.axis x = s.axis x) ∧
      (s.axisPresent a = true → t.arb.passRequested = true) ∧
      (b = false → t.isExempt a = false) ∧
      (s.axisPresent a = true → b = true → (s.axis a).released = true → t.man.state = .tripped) ∧
      (s.axisPresent a = false ∨ b = false ∨ (s.axis a).released = false →
        t.man = { s.man with exempt := t.man.exempt })) ∧
  (∀ (a : Axis) (b : Bool) (s : State), s.held = false → (s.axis a).ready ≠ b →
    ∃ t, exec (.driveReadyChange a b) s = .next t ∧
      t = { s with
        axes := t.axes, man := t.man, arb := { s.arb with passRequested := t.arb.passRequested }, mail := t.mail } ∧
      t.axis a = { s.axis a with ready := b } ∧ (∀ x, x ≠ a → t.axis x = s.axis x) ∧
      (s.axisPresent a = true → t.arb.passRequested = true) ∧
      (s.axisPresent a = true → b = false → (s.axis a).released = true → t.man.state = .tripped) ∧
      (s.axisPresent a = false ∨ (s.axis a).released = false ∨ b = true → s.man.state ≠ .repowering → t.man = s.man) ∧
      (s.man.state = .repowering → s.axisPresent a = true → b = true →
        ((∀ x, x ≠ a → s.axisPresent x = true → (s.axis x).ready = true) →
          t.man = { s.man with state := .clear, repower := none, record := none, seen := 0, further := 0 } ∧
          Instr.latchEvent (.stop .clear none) ∈ t.mail) ∧
        (∀ x, x ≠ a → s.axisPresent x = true → (s.axis x).ready = false → t.man = s.man)))

/-- The repowering timer running out makes the hall STOPPED with a record of DRIVE_NOT_READY for the first present axis
whose drive is not ready, that kind alone seen and the count 0, and raises FAULT; the contactor stays closed (R165). That FAULT says the
cause took effect, and that STOP is raised before it, is the model's choice (notes/assumptions/30.md); so is that an expiry
which finds no timer run out does nothing (notes/assumptions/33.md), and that with no present axis not ready any more the hall is
STOPPED all the same, with neither tier nor axis named (notes/assumptions/55.md). -/
def Obligations.RepoweringRunsOutToStopped : Prop :=
  ∀ s : State, s.held = false →
    (s.man.state = .repowering → dueTimer s.man.repower s.clock = true →
      ∃ t, exec .repoweringTimeout s = .next t ∧
        t = { s with
          man := { s.man with
            state := .stopped, repower := none, seen := kindSet .driveNotReady, further := 0
            record := some ⟨.driveNotReady, s.drivesNotReady.head?.map (·.tier), s.drivesNotReady.head?, none, none, none,
              s.clock⟩ }
          mail := s.mail.erase .repoweringTimeout ++
            [.latchEvent (.stop .stopped (some .driveNotReady)),
             .latchEvent (.fault .driveNotReady (s.drivesNotReady.head?.map (·.tier)) s.drivesNotReady.head? true)] }) ∧
    (s.man.state ≠ .repowering ∨ dueTimer s.man.repower s.clock = false →
      exec .repoweringTimeout s = .next (s.taken .repoweringTimeout))

/-! ### Admission -/

/-- The number given out next is from 1 to 65 535 and is in use by no record pending, active or in the outcomes list, as
long as one of the 65 535 numbers is free (R27); nor by a move whose end is on its way to that list, which is the model's
reading (notes/assumptions/46.md). -/
def Obligations.FreshNumbersAreNotInUse : Prop :=
  ∀ s : State, s.adm.lastNumber ≤ 65535 → s.usedNumbers.length < 65535 →
    1 ≤ s.freshNumber ∧ s.freshNumber ≤ 65535 ∧ (∀ m ∈ s.adm.waiting, m.number ≠ s.freshNumber) ∧
    (∀ t a, (s.seq t).slot = some a → a.move.number ≠ s.freshNumber) ∧
    (∀ t, ∀ e ∈ (s.seq t).ending, e.move.number ≠ s.freshNumber) ∧
    (∀ o ∈ s.adm.outcomes, o.number ≠ s.freshNumber)

/-- A MOVE from the holder, in RUN, in CLEAR, HOLDING or HELD, that names a present tier without an inhibit, a taught
station or a tier with a tilt group, and finds fewer than 32 moves pending, joins the tail of the pending list with the
next number; a TILT height is clamped into the jack range and then answered ADJUSTED. The reply carries number, host tag
and target as stored, and a grant pass is asked for (R23 to R25). So does one that a quick stop or a trip has overtaken whose
order to empty the list admission has yet to take; once it has, a MOVE in any other stop state is refused STOPPED and gives
out no number (R32). Which order that is when several are on their way is the model's reading (notes/assumptions/52.md). -/
def Obligations.AdmittedMovesJoinTheTail : Prop :=
  ∀ (q : Src) (u : Tier) (cls : SpeedClass) (tag : Nat) (s : State), s.held = false → s.auth.mode = .run →
    s.auth.holder = some q.port →
    (s.man.emptying = false → s.man.state ≠ .clear → s.man.state ≠ .holding → s.man.state ≠ .held →
      ∀ tier kind target speed : Nat, ∃ t, exec (.move q tier kind target speed tag) s = .next t ∧ OnlyPorts s t ∧
        Answered s t (.move q tier kind target speed tag) q 0x20 .stopped [] []) ∧
    ((s.man.state = .clear ∨ s.man.state = .holding ∨ s.man.state = .held ∨ s.man.emptying = true) →
      (s.tier u).present = true → (s.seq u).inhibit = none → s.adm.waiting.length < 32 →
      (∀ n : Station, (s.stationAngle u n).isSome = true →
        ∃ t, exec (.move q (Idx8.num u) 0 (Idx8.num n) (classCode cls).toNat tag) s = .next t ∧
          t = { s with
            adm := { s.adm with
              waiting := s.adm.waiting ++ [⟨s.freshNumber, tag, u, .rotate n, cls, .direct, s.clock, 0, none⟩]
              lastNumber := s.freshNumber }
            arb := { s.arb with armed := true, passRequested := true }, ports := t.ports, mail := t.mail } ∧
          Replied s t q 0x20 .ok (beBytes 2 s.freshNumber ++ beBytes 2 tag ++ beBytes 2 (Idx8.num n))) ∧
      (∀ (h : Nat) (g : TiltRec), (s.tier u).tilt = some g →
        ∃ t, exec (.move q (Idx8.num u) 1 h (classCode cls).toNat tag) s = .next t ∧
          t = { s with
            adm := { s.adm with
              waiting := s.adm.waiting ++
                [⟨s.freshNumber, tag, u, .tilt (min g.jackMax (max g.jackMin h)), cls, .direct, s.clock, 0, none⟩]
              lastNumber := s.freshNumber }
            arb := { s.arb with armed := true, passRequested := true }, ports := t.ports, mail := t.mail } ∧
          Replied s t q 0x20 (if min g.jackMax (max g.jackMin h) = h then .ok else .adjusted)
            (beBytes 2 s.freshNumber ++ beBytes 2 tag ++ beBytes 2 (min g.jackMax (max g.jackMin h)))))

/-- CANCEL from the holder: 0 is refused BAD_VALUE; a pending move is removed, ends CANCELLED with reason OPERATOR and is
answered OK with its number and host tag; a number in an active slot is BUSY; and any other is NOT_FOUND (R33). That a move
which has left its slot is no longer found there is the model's reading (notes/assumptions/46.md). -/
def Obligations.CancelWithdrawsAPendingMove : Prop :=
  ∀ (q : Src) (s : State), s.held = false → s.auth.holder = some q.port →
    (∃ t, exec (.cancel q 0) s = .next t ∧ OnlyPorts s t ∧ Answered s t (.cancel q 0) q 0x21 .badValue [] []) ∧
    (∀ (n : Nat) (m : MoveRec), n ≠ 0 → s.adm.waiting.find? (fun x => x.number == n) = some m →
      s.adm.outcomes.length ≤ 16 →
      ∃ t, exec (.cancel q n) s = .next t ∧
        t = { s with
          adm := { s.adm with
            waiting := s.adm.waiting.filter fun x => x.number != n
            outcomes := newest16 (s.adm.outcomes ++ [endRecord m .cancelled .operator s.clock]) }
          arb := { s.arb with armed := true, passRequested := true }, ports := t.ports, mail := t.mail } ∧
        Replied s t q 0x21 .ok (beBytes 2 n ++ beBytes 2 m.hostTag) ∧
        Instr.latchEvent (.moveEnd (endRecord m .cancelled .operator s.clock)) ∈ t.mail ∧ Instr.freedEntry ∈ t.mail ∧
        (∀ p k, m.origin = .plan p k → Instr.stepEnd n .cancelled .operator ∈ t.mail)) ∧
    (∀ n : Nat, n ≠ 0 → (∀ m ∈ s.adm.waiting, m.number ≠ n) →
      ∃ t, exec (.cancel q n) s = .next t ∧ OnlyPorts s t ∧
        Answered s t (.cancel q n) q 0x21
          (if Idx8.all.any (fun u => (s.seq u).slot.any fun a => a.move.number == n) then .busy else .notFound) [] [])

/-- A move's end reported to admission makes one outcome record, with the hall clock of that event, at the tail of the 16
newest, raises MOVE_END with it, and is the end of the move's active record (R35, R36). The order to empty the pending list
ends every pending move CANCELLED with the order's reason, oldest first, and leaves the list empty (R37). That order counts as
on its way from a STOP that enters a quick stop until it is taken (R32, notes/assumptions/52.md). -/
def Obligations.EndsAreRecordedOldestFirst : Prop :=
  (∀ (e : MoveEnd) (s : State), s.held = false → s.adm.outcomes.length ≤ 16 →
    ∃ t, exec (.moveEndReport e) s = .next t ∧
      t = { s with
        adm := { s.adm with outcomes := newest16 (s.adm.outcomes ++
          [⟨e.number, e.hostTag, e.tier, e.kind, e.outcome, e.reason, s.clock, e.origin⟩]) }
        seqs := s.seqs.set e.tier { s.seq e.tier with
          ending := (s.seq e.tier).ending.filter fun x => x.move.number != e.number }
        mail := s.mail.erase (.moveEndReport e) ++
          [.latchEvent (.moveEnd ⟨e.number, e.hostTag, e.tier, e.kind, e.outcome, e.reason, s.clock, e.origin⟩)] }) ∧
  (∀ (r : Reason) (s : State), s.held = false → s.adm.outcomes.length ≤ 16 →
    ∃ t, exec (.emptyPendingList r) s = .next t ∧
      t.adm = ⟨[], newest16 (s.adm.outcomes ++ s.adm.waiting.map fun m => endRecord m .cancelled r s.clock),
        s.adm.lastNumber⟩ ∧
      (∀ m ∈ s.adm.waiting, Instr.latchEvent (.moveEnd (endRecord m .cancelled r s.clock)) ∈ t.mail) ∧
      t = { s with
        adm := t.adm, arb := { s.arb with armed := t.arb.armed, passRequested := t.arb.passRequested }
        man := { s.man with emptying := false }, mail := t.mail }) ∧
  (∀ (q : Src) (s : State), s.held = false →
    ∃ t, exec (.stop q) s = .next t ∧
      t.man.emptying = (s.man.emptying || s.man.state == .clear || s.man.state == .holding || s.man.state == .held))

/-! ### Hall tables -/

/-- An accepted SET_HALL, SET_BAND or SET_TIER replaces the whole record or entry, its fields clamped as R3, R5, R7 and R8
state, and answers the record as stored, ADJUSTED when a field was clamped; every other record stays. A tier write that
changes the load cell list starts its cells afresh with tare 0, its figures found again, and a poll in flight for one of them is
lost, the poll position and a recovery as they were (R129); one that does not leaves the tier's cells and tare. A tier made
present with a CONFLICTED lock is inhibited (R64), and a tilt group part added or removed, and a tier made present, has its
stowed condition, skew and marks as R122 and R123 state; no other tier is touched. That a
write which clears the present flag stores its other fields too is the model's choice (notes/assumptions/44.md); so are the unit
that loses its part in SETTING and what an added part leaves to the next report (notes/assumptions/43.md and 28.md), and the
LOAD event of a write that also makes the tier present (notes/assumptions/50.md). Every table write is refused MODE in RUN; from
the holder in SETUP a structurally unsound one is refused BAD_VALUE, and a sound one whose tier is in motion BUSY, and none of
these changes anything but the reply (R2). Which flag and form bytes are sound is the model's choice (notes/assumptions/12.md
and 11.md). -/
def Obligations.AcceptedTableWritesStoreTheClampedRecord : Prop :=
  (∀ (c : Instr) (kind : Byte) (q : Src) (s : State), s.held = false → tableKind c = some kind → requestSrc c = some q →
    (s.auth.mode = .run → ∃ t, exec c s = .next t ∧ OnlyPorts s t ∧ Answered s t c q kind .mode [] []) ∧
    (s.auth.mode = .setup → s.auth.holder = some q.port →
      (TableUnsound s c → ∃ t, exec c s = .next t ∧ OnlyPorts s t ∧ Answered s t c q kind .badValue [] []) ∧
      (¬ TableUnsound s c → ∀ u, TableConcerns c u → TierInMotion s u →
        ∃ t, exec c s = .next t ∧ OnlyPorts s t ∧ Answered s t c q kind .busy [] []))) ∧
  ∀ (q : Src) (s : State), s.held = false → s.auth.mode = .setup → s.auth.holder = some q.port →
    (∀ w : HallRec, ∃ t, exec (.setHall q w) s = .next t ∧
      t = { s with
        tables := { s.tables with hall :=
          ⟨min 4000 (max 1 w.capacity), min 15 (max 1 w.bypassLimit), min 1000 w.releaseMargin,
            min 2000 (max 100 w.tEn), min 60000 (max 1000 w.tEsc)⟩ }
        ports := t.ports, mail := t.mail } ∧
      Answered s t (.setHall q w) q 0x28 (if t.tables.hall = w then .ok else .adjusted) (hallBytes t.tables.hall) []) ∧
    (∀ (u : Tier) (b : Nat) (l : List Nat), s.tierBusy u = false → b < 36 → l.length ≤ 64 → (∀ c ∈ l, c < 64) → l.Nodup →
      ∃ t, exec (.setBand q (Idx8.num u) b l) s = .next t ∧
        t = { s with tables := { s.tables with bands := t.tables.bands }, ports := t.ports, mail := t.mail } ∧
        (∀ c, (t.bandCells u b).getLsbD c = decide (c ∈ l)) ∧
        (∀ v d, v ≠ u ∨ d ≠ b → t.bandCells v d = s.bandCells v d) ∧
        Answered s t (.setBand q (Idx8.num u) b l) q 0x2B .ok (bandBytes u b (t.bandCells u b)) []) ∧
    (∀ (u : Tier) (w : TierWrite), s.tierBusy u = false → s.tierSound u w = true →
      ∃ t, exec (.setTier q (Idx8.num u) w) s = .next t ∧
        t.tier u =
          { present := w.present == 1
            travelMin := min 18000 (max (-18000) w.travelMin), travelMax := min 18000 (max (-18000) w.travelMax)
            lockTime := min 10000 (max 100 w.lockTime), presence := min 10000 (max 10 w.presence)
            overload := max (min 10000 (max 10 w.presence)) (min 200000 (max 100 w.overload))
            cells := w.cells, rotDemand := min 1000 w.rotDemand
            tilt := w.tilt.map fun g =>
              { jackMin := min 20000 g.jackMin, jackMax := min 20000 g.jackMax
                stow := min (min 20000 g.jackMax) (max (min 20000 g.jackMin) (min 20000 g.stow))
                skewWarn := min 500 (max 1 g.skewWarn)
                skewTrip := max (min 500 (max 1 g.skewWarn)) (min 1000 (max 1 g.skewTrip))
                ks := min 255 g.ks, demandA := min 1000 g.demandA, demandB := min 1000 g.demandB, raised := g.raised } } ∧
        (∀ v, v ≠ u → t.tier v = s.tier v) ∧ Replied s t q 0x29 (writeStatus (tierClamped w)) (tierBytes u (t.tier u)) ∧
        (w.cells ≠ (s.tier u).cells →
          (t.loadOf u).cells = List.replicate w.cells.length ⟨none, false, 0, .failed⟩ ∧ (t.loadOf u).tare = 0 ∧
          FoundAgain { s with tables := t.tables } t u) ∧
        (w.cells = (s.tier u).cells → t.loadOf u = s.loadOf u) ∧
        t.mon.pollAt = s.mon.pollAt ∧ t.mon.recoveryOwed = s.mon.recoveryOwed ∧
        (∀ i, s.mon.transaction = .poll u i → w.cells ≠ (s.tier u).cells → t.mon.transaction = .lost) ∧
        (w.cells = (s.tier u).cells ∨ (∀ i, s.mon.transaction ≠ .poll u i) → t.mon.transaction = s.mon.transaction) ∧
        t = { s with
          tables := { s.tables with tiers := t.tables.tiers }
          arb := { s.arb with passRequested := t.arb.passRequested }, seqs := t.seqs, pairs := t.pairs, mon := t.mon
          ports := t.ports, mail := t.mail } ∧
        TierMet s t u)

/-- An accepted SET_AXIS stores the record with each field clamped and a_qs raised to a (R11, R12); SET_POSITION stores
the zero offset that makes the axis read the clamped value, clamped into its range (R14). Every other axis and record stays.
That a new zero offset of a SET_AXIS moves the position in the event of the write, and the demand and previous positions with
it, is the model's reading between R12, by which it counts from the next update on, and R110 (notes/assumptions/17.md). -/
def Obligations.AxisRecordsAndPositionsAreTaught : Prop :=
  ∀ (q : Src) (a : Axis) (s : State), s.held = false → s.auth.mode = .setup → s.auth.holder = some q.port →
    s.tierBusy a.tier = false →
    (∀ w : AxisRec, ∃ t, exec (.setAxis q (axisCode a) w) s = .next t ∧
      t.axisRec a =
        { vLim := min 4095 (max 1 w.vLim), a := min 255 (max 1 w.a)
          aQs := max (min 255 (max 1 w.a)) (min 255 (max 1 w.aQs)), kff := min 8191 w.kff, kp := min 255 w.kp
          feLimit := min 4095 (max 1 w.feLimit), window := min 65535 (max 1 w.window)
          settleCount := min 100 (max 1 w.settleCount), settleTimeout := min 1000 (max 1 w.settleTimeout)
          liftTime := min 2000 w.liftTime, setTime := min 2000 w.setTime, zero := min 16777215 w.zero } ∧
      (∀ x, x ≠ a → t.axisRec x = s.axisRec x ∧ t.axis x = s.axis x) ∧
      ((t.axisRec a).zero = (s.axisRec a).zero → t.axis a = s.axis a) ∧
      (∀ c, (s.axis a).count = some c → (t.axisRec a).zero ≠ (s.axisRec a).zero →
        t.axis a = { s.axis a with
          position := (c.toNat : Int) - (t.axisRec a).zero, demand := (c.toNat : Int) - (t.axisRec a).zero
          previous := some ((c.toNat : Int) - (t.axisRec a).zero) }) ∧
      Replied s t q 0x2A (if t.axisRec a = w then .ok else .adjusted) (axisBytes a (t.axisRec a)) ∧
      t = { s with tables := { s.tables with axes := t.tables.axes }, axes := t.axes, ports := t.ports, mail := t.mail }) ∧
    (∀ (x : Int) (c : Count), (s.axis a).valid = true → (s.axis a).count = some c →
      ∀ v wanted : Int, v = (if a.role = .R then min 18000 (max (-18000) x) else min 20000 (max 0 x)) →
        wanted = (c.toNat : Int) - 256 * v →
      ∃ t, exec (.setPosition q (axisCode a) x) s = .next t ∧
        ((t.axisRec a).zero : Int) = min 16777215 (max 0 wanted) ∧
        t.axisRec a = { s.axisRec a with zero := (t.axisRec a).zero } ∧
        t.axis a = { s.axis a with
          position := (c.toNat : Int) - (t.axisRec a).zero, demand := (c.toNat : Int) - (t.axisRec a).zero
          previous := some ((c.toNat : Int) - (t.axisRec a).zero) } ∧
        (∀ y, y ≠ a → t.axisRec y = s.axisRec y ∧ t.axis y = s.axis y) ∧
        Replied s t q 0x2D (if v = x ∧ ((t.axisRec a).zero : Int) = wanted then .ok else .adjusted)
          (beSigned 4 (t.axis a).position ++ beBytes 3 (t.axisRec a).zero) ∧
        t = { s with tables := { s.tables with axes := t.tables.axes }, axes := t.axes, ports := t.ports, mail := t.mail })

/-- SET_STATION stores an angle inside the tier's travel range, or clears the entry; HERE stores the actual position of tR
to the nearest whole centidegree, and is refused INTERLOCK while that position is invalid (R17, R18). Only the entry named
changes; when it is the current station's and is left absent or with another angle, the current station becomes unknown (R19). The angle
bytes of an entry cleared are the model's choice in the reply (notes/assumptions/45.md). -/
def Obligations.StationsAreTaught : Prop :=
  ∀ (q : Src) (u : Tier) (n : Station) (s : State), s.held = false → s.auth.mode = .setup →
    s.auth.holder = some q.port → s.tierBusy u = false →
    (∀ (c : Instr) (entry : Option Int),
      ((∃ x, c = .setStation q (Idx8.num u) (Idx8.num n) 0 x ∧ entry = some x ∧ (s.tier u).travelMin ≤ x ∧
          x ≤ (s.tier u).travelMax) ∨
        (∃ x, c = .setStation q (Idx8.num u) (Idx8.num n) 2 x ∧ entry = none) ∨
        (c = .setStationHere q (Idx8.num u) (Idx8.num n) ∧ (s.axis ⟨u, .R⟩).valid = true ∧
          entry = some (nearestBase (s.axis ⟨u, .R⟩).position) ∧
          (s.tier u).travelMin ≤ nearestBase (s.axis ⟨u, .R⟩).position ∧
          nearestBase (s.axis ⟨u, .R⟩).position ≤ (s.tier u).travelMax)) →
      ∃ t, exec c s = .next t ∧ t.stationAngle u n = entry ∧
        (∀ v m, v ≠ u ∨ m ≠ n → t.stationAngle v m = s.stationAngle v m) ∧
        t.seq u = { s.seq u with
          station := if (s.seq u).station = some n ∧ (entry = none ∨ s.stationAngle u n ≠ entry) then none else (s.seq u).station } ∧
        (∀ v, v ≠ u → t.seq v = s.seq v) ∧ Replied s t q 0x2C .ok (stationBytes u n entry) ∧
        t = { s with
          tables := { s.tables with stations := t.tables.stations }
          arb := { s.arb with passRequested := t.arb.passRequested }, seqs := t.seqs, ports := t.ports, mail := t.mail }) ∧
    ((s.axis ⟨u, .R⟩).valid = false →
      ∃ t, exec (.setStationHere q (Idx8.num u) (Idx8.num n)) s = .next t ∧ OnlyPorts s t ∧
        Answered s t (.setStationHere q (Idx8.num u) (Idx8.num n)) q 0x2C .interlock [] [])

/-! ### Grant arbiter -/

/-- A grant pass is made in every state: it changes the list, what the arbiter holds of reserved sets, demands, marks and
paths, sequencers and release points, and nothing else, with no jog in RUN, which every step keeps
(EveryStepKeepsFloorPowerAndMotion); where a jog runs in RUN, in states that no run reaches, a granted move whose lock meets a
conflict may end it and so clear exemption marks. With no pass asked for it does nothing; in SETUP, and while the stop state is not CLEAR, it clears the
flag and reaches no move; and in RUN and CLEAR a single pending move is held with the reason of the first check it
fails, or fails for INHIBIT, or is granted, which reserves its cells, commits its demand, marks its tier and empties the
list (R49 to R52), and its sequencer takes it at its first stage: a TILT releases its brakes, a ROTATE ends DONE at its current
station or begins with the lock (R65, R70, R71). That the record of a ROTATE ended at its grant carries WITHDRAW_LOCK is the
model's reading (notes/assumptions/46.md). A pass that holds it on CELLS with no move active and the detector armed raises STALEMATE (R55).

Over several moves it goes through the list in order. A move behind an older one of its tier that is held is held on ORDER
(R51), and one that only protected cells or power keep back is held on AGED (R54). When every move is held each takes its
reason, and STALEMATE, with their number, is raised while all are held on CELLS or ORDER, no move is active and the detector
is armed (R55). A move granted behind held ones leaves the list, and each of those held on CELLS or POWER counts one bypass,
up to 15 (R53). Of two moves that both could be granted the older is, and the younger then only beside it: on TIER_BUSY in
the same tier, on CELLS where their reserved sets share a cell, on POWER where both demands do not fit, in every state with no
cell owned twice and no demand committed without an active move, which every step keeps (EveryStepKeepsFloorPowerAndMotion).
That a tier is busy until the arbiter has taken its move's end, and that the figures of the other blocks are read as they stand,
is the model's reading (notes/assumptions/18.md and 26.md). -/
def Obligations.GrantPassOverOneMove : Prop :=
  ∀ s : State, s.held = false →
    (∃ t, exec .grantPass s = .next t ∧
      t.adm.lastNumber = s.adm.lastNumber ∧ (t.adm.waiting.map (·.number)).Sublist (s.adm.waiting.map (·.number)) ∧
      t.arb.owed = s.arb.owed ∧
      (∀ u, t.holding u = { s.holding u with
        reserved := (t.holding u).reserved, demand := (t.holding u).demand, active := (t.holding u).active
        path := (t.holding u).path }) ∧
      (∀ a, t.axis a = { s.axis a with release := (t.axis a).release }) ∧
      t = { s with
        adm := t.adm, arb := t.arb, seqs := t.seqs, axes := t.axes, mail := t.mail
        man := { s.man with exempt := t.man.exempt } } ∧
      ((s.auth.mode = .run → ∀ u, (s.seq u).jog = none) → t.man = s.man)) ∧
    (s.arb.passRequested = false → exec .grantPass s = .next (s.taken .grantPass)) ∧
    (s.arb.passRequested = true → s.auth.mode = .setup ∨ s.man.state ≠ .clear →
      exec .grantPass s =
        .next { s with arb := { s.arb with passRequested := false }, mail := s.mail.erase .grantPass }) ∧
    (∀ m : MoveRec, s.arb.passRequested = true → s.auth.mode = .run → s.man.state = .clear → s.adm.waiting = [m] →
      (∀ r, s.findMove m [] 0 0 = .held r →
        ∃ t, exec .grantPass s = .next t ∧
          t.adm = { s.adm with waiting := [{ m with lastRefusal := some r }] } ∧ t.arb.passRequested = false ∧
          (r = .cells → s.arb.armed = true → (∀ u, (s.seq u).slot = none) →
            t.arb.armed = false ∧ t.mail = s.mail.erase .grantPass ++ [.latchEvent (.stalemate 1)]) ∧
          t = { s with
            adm := t.adm, arb := { s.arb with passRequested := false, armed := t.arb.armed }, mail := t.mail }) ∧
      (s.findMove m [] 0 0 = .inhibited → s.adm.outcomes.length ≤ 16 →
        ∃ t, exec .grantPass s = .next t ∧
          t.adm = { s.adm with
            waiting := [], outcomes := newest16 (s.adm.outcomes ++ [endRecord m .failed .inhibit s.clock]) } ∧
          t = { s with adm := t.adm, arb := { s.arb with passRequested := true, armed := true }, mail := t.mail }) ∧
      (s.findMove m [] 0 0 = .grant →
        ∃ t, exec .grantPass s = .next t ∧ t.adm = { s.adm with waiting := [] } ∧ Granted s t m ∧
          (∀ v, v ≠ m.tier → t.holding v = s.holding v ∧ t.seq v = s.seq v) ∧ t.arb.armed = true ∧
          t.arb.passRequested = true ∧ t.arb.owed = s.arb.owed)) ∧
    (∀ (m : MoveRec) (blocked : List Tier) (cells : CellSet) (power : Nat),
      (m.tier ∈ blocked → s.findMove m blocked cells power = .held .order) ∧
      (s.findMove m blocked 0 0 = .grant →
        s.findMove m blocked cells power = .grant ∨ s.findMove m blocked cells power = .held .aged)) ∧
    (∀ l : List (MoveRec × HoldReason), s.arb.passRequested = true → s.auth.mode = .run → s.man.state = .clear →
      s.adm.waiting = l.map (·.1) → (s.adm.waiting.map (·.number)).Nodup → AllHeld s l →
      ∃ t, exec .grantPass s = .next t ∧
        t.adm = { s.adm with waiting := l.map fun x => { x.1 with lastRefusal := some x.2 } } ∧
        t = { s with
          adm := t.adm, arb := { s.arb with passRequested := false, armed := t.arb.armed }, mail := t.mail } ∧
        (∀ stalemate : Prop, stalemate = (s.arb.armed = true ∧ l ≠ [] ∧ (∀ u, (s.seq u).slot = none) ∧
            ∀ x ∈ l, x.2 = .cells ∨ x.2 = .order) →
          (stalemate → t.arb.armed = false ∧
            t.mail = s.mail.erase .grantPass ++ [.latchEvent (.stalemate l.length)]) ∧
          (¬stalemate → t.arb.armed = s.arb.armed ∧ t.mail = s.mail.erase .grantPass))) ∧
    (∀ (l : List (MoveRec × HoldReason)) (m : MoveRec), s.arb.passRequested = true → s.auth.mode = .run →
      s.man.state = .clear → s.adm.waiting = l.map (·.1) ++ [m] → (s.adm.waiting.map (·.number)).Nodup → AllHeld s l →
      s.findMove m (heldTiers l) (heldCells s l) (heldPower s l) = .grant →
      ∃ t, exec .grantPass s = .next t ∧
        t.adm = { s.adm with waiting := l.map fun x =>
          { x.1 with
            lastRefusal := some x.2
            bypass := if x.2 = .cells ∨ x.2 = .power then min 15 (x.1.bypass + 1) else x.1.bypass } } ∧
        Granted s t m ∧ (∀ v, v ≠ m.tier → t.holding v = s.holding v ∧ t.seq v = s.seq v) ∧
        t.arb.owed = s.arb.owed ∧ t.arb.passRequested = true) ∧
    (∀ m n : MoveRec, s.arb.passRequested = true → s.auth.mode = .run → s.man.state = .clear → s.adm.waiting = [m, n] →
      m.number ≠ n.number → FloorSafe s → (∀ u, (s.holding u).active = false → (s.holding u).demand = 0) →
      s.findMove m [] 0 0 = .grant → s.findMove n [] 0 0 = .grant →
      ∃ t, exec .grantPass s = .next t ∧ Granted s t m ∧
        if m.tier = n.tier then t.adm = { s.adm with waiting := [{ n with lastRefusal := some .tierBusy }] }
        else if s.reservedFor m &&& s.reservedFor n ≠ 0 then
          t.adm = { s.adm with waiting := [{ n with lastRefusal := some .cells }] } ∧ t.holding n.tier = s.holding n.tier
        else if s.tables.hall.capacity < s.arb.committed + s.demandOf m + s.demandOf n then
          t.adm = { s.adm with waiting := [{ n with lastRefusal := some .power }] } ∧ t.holding n.tier = s.holding n.tier
        else t.adm = { s.adm with waiting := [] } ∧ Granted s t n)

/-- A pass grants a move only when every check of R50 passes: the tier has no active move and no inhibit, its load is
VALID and not OCCUPIED, each axis of the move has a valid position, an inactive limit input and an active drive-ready
input, the posture fits, every cell of its reserved set is the tier's or FREE and owed to no other tier, its demand fits
into the free power, and the aging constraints are met; and whenever all of these hold it is granted. Otherwise the first check
that fails, in the order of R50, decides: it fails for INHIBIT on check 4, and on any other is held with the reason of that
check: ORDER, TIER_BUSY, LOAD, DRIVE, POSTURE, CELLS, POWER or AGED. That a tier is busy until the arbiter has taken the end of
its move, and that the figures of other blocks are read as they stand, where R50 says as last reported, is the model's reading
(notes/assumptions/18.md and 26.md). The figures that the checks and the grant use are R15's, R42's and R47's: the path of a
ROTATE runs from the band of tR's actual position to that of its station's angle times 256, and its reserved set holds the cells
of every band between, both included; the path of a TILT is its tier's standing band, and its reserved set is the raised set
when the tier is not stowed, as the arbiter holds it (notes/assumptions/26.md), or the target lies above stow height, and empty
otherwise; the demand is the rated demand, of tR or of both jacks together, or its half or quarter rounded up, by speed class. -/
def Obligations.OnlyMovesThatPassEveryCheckAreGranted : Prop :=
  (∀ (p : Int) (b : Nat), bandOf p = b ↔
    b ≤ 35 ∧ (b ≠ 0 → 256 * (-18000 + 1000 * (b : Int)) ≤ p) ∧ (b ≠ 35 → p < 256 * (-18000 + 1000 * ((b : Int) + 1)))) ∧
  (∀ (s : State) (m : MoveRec),
    (∀ (n : Station) (x : Int), m.goal = .rotate n → s.stationAngle m.tier n = some x →
      ∀ here there : Nat, here = bandOf (s.axis ⟨m.tier, .R⟩).position → there = bandOf (256 * x) →
        s.pathOf m = ⟨m.number, true, here, there, here⟩ ∧
        ∀ c : Nat, (s.reservedFor m).getLsbD c = true ↔
          ∃ b, min here there ≤ b ∧ b ≤ max here there ∧ (s.bandCells m.tier b).getLsbD c = true) ∧
    (∀ (h : Nat) (g : TiltRec), m.goal = .tilt h → (s.tier m.tier).tilt = some g →
      (∀ b, (s.holding m.tier).band = some b → s.pathOf m = ⟨m.number, false, b, b, b⟩) ∧
      s.reservedFor m = if (s.holding m.tier).stowed = false ∨ g.stow < h then g.raised else 0) ∧
    ∀ rated : Nat,
      (rated = match m.goal, (s.tier m.tier).tilt with
        | .rotate _, _ => (s.tier m.tier).rotDemand
        | .tilt _, some g => g.demandA + g.demandB
        | .tilt _, none => 0) →
      s.demandOf m = match m.cls with
        | .full => rated
        | .reduced => (rated + 1) / 2
        | .crawl => (rated + 3) / 4) ∧
  ∀ (s : State) (m : MoveRec) (blocked : List Tier) (cells : CellSet) (power : Nat),
    (s.findMove m blocked cells power = .grant ↔
      m.tier ∉ blocked ∧ (s.seq m.tier).slot = none ∧ (s.holding m.tier).active = false ∧
      (s.seq m.tier).inhibit = none ∧ (s.loadOf m.tier).valid = true ∧ (s.loadOf m.tier).occupied = false ∧
      (∀ a ∈ moveAxes m, (s.axis a).valid = true ∧ (s.axis a).limit = false ∧ (s.axis a).ready = true) ∧
      (match m.goal with
       | .rotate _ => (s.holding m.tier).stowed = true
       | .tilt _ => (s.seq m.tier).lockState = .engaged ∧ (s.seq m.tier).station ≠ none) ∧
      (∀ c < 64, (s.reservedFor m).getLsbD c = true →
        (s.holding m.tier).owns.getLsbD c = true ∨
        (s.arb.owner c = none ∧ ∀ o ∈ s.arb.owed, o.cell = c → o.tier = m.tier)) ∧
      s.arb.committed + s.demandOf m ≤ s.tables.hall.capacity ∧
      (∀ c < 64, ((s.reservedFor m).getLsbD c && cells.getLsbD c) = false) ∧
      s.arb.committed + power + s.demandOf m ≤ s.tables.hall.capacity) ∧
    ∀ k, GrantCheckFails s m blocked cells power k → (∀ j < k, ¬ GrantCheckFails s m blocked cells power j) →
      s.findMove m blocked cells power = findingOf k

/-- A release report is ignored unless it names the move whose ROTATE path the arbiter holds. Taken, it releases the next
band of the path and each further one whose release point has been passed (R56): every cell of them that the tier owns and
that lies in no band still ahead (R57) leaves its standing and its reserved set, and passes to the tier with the oldest
claim owing it, whose standing set it joins and whose claim is spent, or becomes FREE (R43). No other cell changes hands and
no other claim goes. The next band moves on along the path, tR is given the release point of the band that is next now, or
none, and a grant pass is asked for when a band was released (R49). -/
def Obligations.ReleaseReportsGiveBackBands : Prop :=
  ∀ (u : Tier) (served : Served) (x : Int) (s : State), s.held = false →
    ((∀ p, (s.holding u).path = some p → ¬(p.rotate = true ∧ served = .move p.number)) →
      exec (.bandReleaseReport u served x) s = .next (s.taken (.bandReleaseReport u served x))) ∧
    (∀ p, (s.holding u).path = some p → p.rotate = true → served = .move p.number →
      ∃ t, exec (.bandReleaseReport u served x) s = .next t ∧
        (t.holding u).path = some { p with next := p.after (s.releasedBands p x) } ∧
        (p.next ≠ p.g → s.releasedBands p x =
          p.next :: (p.toRelease.drop 1).takeWhile fun b => (s.releasePoint (pathDir p.s p.g) b).passed x) ∧
        (p.next = p.g → s.releasedBands p x = []) ∧
        CellsGivenUp s t u
          ((s.bandUnion u (s.releasedBands p x) &&& ~~~(s.bandUnion u (p.ahead x))) &&& (s.holding u).owns) ∧
        (∀ c < 64, (s.bandUnion u (s.releasedBands p x)).getLsbD c = true →
          (s.bandUnion u (p.ahead x)).getLsbD c = false → (s.holding u).owns.getLsbD c = true →
          (t.holding u).reserved.getLsbD c = false ∧
          match s.arb.owed.find? fun o => o.cell == c with
          | some o => (t.holding o.tier).standing.getLsbD c = true ∧
              (o.tier ≠ u → (t.holding u).owns.getLsbD c = false)
          | none => (t.holding u).owns.getLsbD c = false) ∧
        (∀ c, (s.bandUnion u (p.ahead x)).getLsbD c = true → (s.holding u).owns.getLsbD c = true →
          (t.holding u).owns.getLsbD c = true) ∧
        (∀ v c, v ≠ u → (s.holding v).owns.getLsbD c = true → (t.holding v).owns.getLsbD c = true) ∧
        (p.next ≠ p.g → t.arb.passRequested = true) ∧
        (t.axis ⟨u, .R⟩).release = s.nextPoint { p with next := p.after (s.releasedBands p x) } ∧
        t = { s with
          arb := { s.arb with tiers := t.arb.tiers, owed := t.arb.owed, passRequested := t.arb.passRequested }
          axes := t.axes, mail := t.mail })

/-- What the arbiter takes from its neighbours. A stowed change is kept and asks for a pass; in RUN it brings the sets of a
present tier into line with its new standing claim, the cells of its band, with the raised set when it is not stowed (R41,
R43, R46), and a report of a tier that is not present is ignored. Under a ROTATE the claim leaves out the cells that
progressive release has given back (R56). The end of a move releases the demand, forgets the path and the release point,
sets the standing band by outcome and place, by the last position clamped into the path when tR's is invalid, takes the new
band's claim with the raised set when the tier is not stowed, keeping nothing of the reserved set, and asks for a pass (R41,
R43, R58). That validity is read from tR as the end is taken is the model's choice (notes/assumptions/26.md), and so is what a stowed change claims under a ROTATE (notes/assumptions/19.md). A trip sets
every demand to 0, leaves the cells, and asks for a pass when power was committed (R48, R49). -/
def Obligations.ArbiterFollowsStowedEndsAndTrips : Prop :=
  ∀ s : State, s.held = false →
    (∀ (u : Tier) (b : Bool),
      ∃ t, exec (.stowedChangeReport u b) s = .next t ∧
        if s.auth.mode = .run ∧ (s.tier u).present = false then t = s.taken (.stowedChangeReport u b)
        else
          (t.holding u).stowed = b ∧ t.arb.passRequested = true ∧ (t.holding u).band = (s.holding u).band ∧
          (t.holding u).path = (s.holding u).path ∧ (∀ v, (t.holding v).demand = (s.holding v).demand) ∧
          (s.auth.mode = .run → ∀ band : CellSet,
            band = (match (s.holding u).band with | some d => s.bandCells u d | none => 0) →
            TookClaim s t u
              ((if (s.holding u).path.any (·.rotate) then band &&& ((s.holding u).standing ||| s.arb.owedSet u)
                else band) ||| (if b then 0 else s.raisedSet u))
              (s.holding u).reserved) ∧
          (s.auth.mode = .setup → t.arb.owed = s.arb.owed ∧ ∀ v, (t.holding v).owns = (s.holding v).owns) ∧
          t = { s with
            arb := { s.arb with tiers := t.arb.tiers, owed := t.arb.owed, passRequested := true }, mail := t.mail }) ∧
    (∀ (u : Tier) (o : MoveOutcome) (entered : Bool) (x : Int),
      ∃ t, exec (.moveEndAtArbiter u o entered x) s = .next t ∧ (t.holding u).reserved = 0 ∧ (t.holding u).demand = 0 ∧
        (t.holding u).active = false ∧ (t.holding u).path = none ∧ (t.axis ⟨u, .R⟩).release = none ∧
        t.arb.passRequested = true ∧
        (∀ p, (s.holding u).path = some p → s.auth.mode = .run → (s.tier u).present = true →
          (t.holding u).band =
            match o with
            | .done =>
              if p.rotate then some p.g
              else if (s.axis ⟨u, .R⟩).valid then some (bandOf x)
              else some (clampBand p.s p.g (bandOf x))
            | .failed => if entered then some (clampBand p.s p.g (bandOf x)) else (s.holding u).band
            | .aborted | .cancelled => some (clampBand p.s p.g (bandOf x))) ∧
        ((s.holding u).path = none → (t.holding u).band = (s.holding u).band) ∧
        (s.auth.mode = .run → (s.tier u).present = true →
          TookClaim s t u
            ((match (t.holding u).band with | some d => s.bandCells u d | none => 0) |||
              (if (s.holding u).stowed then 0 else s.raisedSet u)) 0) ∧
        (s.auth.mode = .setup ∨ (s.tier u).present = false →
          t.arb.owed = s.arb.owed ∧ (∀ v, (t.holding v).standing = (s.holding v).standing) ∧
          ∀ v, v ≠ u → t.holding v = s.holding v) ∧
        t = { s with
          arb := { s.arb with tiers := t.arb.tiers, owed := t.arb.owed, passRequested := true }, axes := t.axes
          mail := t.mail }) ∧
    ∃ t, exec .arbiterTripReport s = .next t ∧ t.arb.committed = 0 ∧
      (∀ u, t.holding u = { s.holding u with demand := 0 }) ∧
      (s.arb.committed ≠ 0 → t.arb.passRequested = true) ∧
      (s.arb.committed = 0 → t.arb.passRequested = s.arb.passRequested) ∧
      t = { s with
        arb := { s.arb with tiers := t.arb.tiers, passRequested := t.arb.passRequested }, mail := t.mail }

/-! ### Tier sequencers -/

/-- The lock state follows its inputs and the transition that runs, by the table of R67: leaving ENGAGED makes the station
unknown (R69), an entry to CONFLICTED inhibits a present tier without an inhibit (R77), and the transition's target
completes it: an engagement brings its pending station (R68, R69). A transition that neither completes nor meets a conflict
leaves WITHDRAWING or ENGAGING with its timer, and one that meets a conflict ends, its timer stopped and its pending station
discarded (R67, R68). On an occupied tier a completed withdrawal takes the
move or jog that waited in WITHDRAW_LOCK into LIFT_BRAKE with its brakes released (R70, R71, R85), and a completed engagement
ends the move in ENGAGE_LOCK DONE at its station (R75). A conflict ends the move, or brings it to HALTING from TRAVEL,
SETTLE and SUSPENDING, with an end fixed earlier or FAILED, INHIBIT (R77), and meets a jog as a stop at a_qs (R86); the lock
leaving ENGAGED under a TILT in motion fixes ABORTED, LOCK_LOST and is reported (R76). A lock timer that runs out before then
stops, LOCK_CMD returns to ENGAGE, a present tier is inhibited, and the move that waited for the transition ends FAILED with
LOCK_TIMEOUT (R68, R70, R75, R77). That an unchanged level does nothing (notes/assumptions/10.md), that an expiry which finds
its timer not run out does nothing (notes/assumptions/33.md), and which of two causes fixes an end
(notes/assumptions/22.md), is the model's choice; so is what meets a jog whose brakes are applied (notes/assumptions/21.md). -/
def Obligations.TheLockFollowsItsInputs : Prop :=
  ∀ (u : Tier) (s : State), s.held = false →
    (exec (.lockInputChange u (s.seq u).lockIn (s.seq u).lockOut) s =
      .next (s.taken (.lockInputChange u (s.seq u).lockIn (s.seq u).lockOut))) ∧
    (∀ i o : Bool, (s.seq u).slot = none → (s.seq u).jog = none → ¬((s.seq u).lockIn = i ∧ (s.seq u).lockOut = o) →
      ∃ t, exec (.lockInputChange u i o) s = .next t ∧ TouchesOnlySeq s t u ∧
        ((s.seq u).lockTimer = none →
          t.seq u = told { s.seq u with
            lockIn := i, lockOut := o
            lockState := if i = o then .conflicted else if i then .engaged else .withdrawn
            station := if (s.seq u).lockState = .engaged ∧ ¬(i = true ∧ o = false) then none else (s.seq u).station
            inhibit :=
              if i = o ∧ (s.seq u).lockState ≠ .conflicted ∧ (s.tier u).present = true ∧ (s.seq u).inhibit = none then
                some .lockConflict
              else (s.seq u).inhibit }) ∧
        ((s.seq u).lockTimer.isSome = true → (s.seq u).lockCmd = .withdraw → i = false → o = true →
          t.seq u = told { s.seq u with
            lockIn := i, lockOut := o, lockState := .withdrawn, lockTimer := none
            station := if (s.seq u).lockState = .engaged then none else (s.seq u).station }) ∧
        ((s.seq u).lockTimer.isSome = true → (s.seq u).lockCmd = .engage → i = true → o = false →
          t.seq u = told { s.seq u with
            lockIn := i, lockOut := o, lockState := .engaged, lockTimer := none, pendingStation := none
            station := if (s.seq u).pendingStation.isSome then (s.seq u).pendingStation else (s.seq u).station }) ∧
        ((s.seq u).lockTimer.isSome = true → i = true → o = true →
          t.seq u = told { s.seq u with
            lockIn := true, lockOut := true, lockState := .conflicted, lockTimer := none, pendingStation := none
            station := if (s.seq u).lockState = .engaged then none else (s.seq u).station
            inhibit :=
              if (s.seq u).lockState ≠ .conflicted ∧ (s.tier u).present = true ∧ (s.seq u).inhibit = none then
                some .lockConflict
              else (s.seq u).inhibit }) ∧
        ((s.tier u).present = true → (t.seq u).lockState ≠ (s.seq u).lockState →
          t.arb.passRequested = true ∧
            ((t.seq u).lockState = .conflicted → Instr.tierCauseReport u .lockConflict none ∈ t.mail))) ∧
    (∀ i o : Bool, ¬((s.seq u).lockIn = i ∧ (s.seq u).lockOut = o) → (s.seq u).lockTimer.isSome = true →
      (s.seq u).lockCmd = .withdraw ∧ o = false ∨ (s.seq u).lockCmd = .engage ∧ i = false →
      ((s.seq u).lockState = .engaged → (s.seq u).slot = none) →
      ∃ t, exec (.lockInputChange u i o) s = .next t ∧ TouchesOnlySeq s t u ∧
        t.seq u = told { s.seq u with
          lockIn := i, lockOut := o
          lockState := if (s.seq u).lockCmd = .withdraw then .withdrawing else .engaging
          station := if (s.seq u).lockState = .engaged then none else (s.seq u).station }) ∧
    (∀ i o : Bool, ¬((s.seq u).lockIn = i ∧ (s.seq u).lockOut = o) → (s.seq u).lockTimer = none → i ≠ o →
      ((s.seq u).lockState = .engaged → i = true ∨ (s.seq u).slot = none) →
      ∃ t, exec (.lockInputChange u i o) s = .next t ∧ TouchesOnlySeq s t u ∧
        t.seq u = told { s.seq u with
          lockIn := i, lockOut := o, lockState := if i then .engaged else .withdrawn
          station := if (s.seq u).lockState = .engaged ∧ i = false then none else (s.seq u).station }) ∧
    (∀ a, (s.seq u).slot = some a → (s.seq u).jog = none →
      (∀ n, a.move.goal = .rotate n → a.stage = .withdrawLock → (s.seq u).lockTimer.isSome = true →
        (s.seq u).lockCmd = .withdraw → (s.seq u).lockOut = false → (s.pair u).toldStowed = true →
        ∃ t, exec (.lockInputChange u false true) s = .next t ∧ TouchesOnlySeq s t u ∧
          t.seq u = told { s.seq u with
            lockIn := false, lockOut := true, lockState := .withdrawn, lockTimer := none, braked := false
            station := if (s.seq u).lockState = .engaged then none else (s.seq u).station
            slot := some { a with stage := .liftBrake, context := none } } ∧
          Instr.brakeReleaseOrder ⟨u, .R⟩ (.move a.move.number) ∈ t.mail) ∧
      (∀ n, a.move.goal = .rotate n → a.stage = .engageLock → (s.seq u).lockTimer.isSome = true →
        (s.seq u).lockCmd = .engage → (s.seq u).lockIn = false →
        ∃ t, exec (.lockInputChange u true false) s = .next t ∧ TouchesOnlySeq s t u ∧ MoveEnded s t u a .done .none ∧
          (t.seq u).station = some n ∧ (t.seq u).lockState = .engaged ∧ (t.seq u).lockTimer = none) ∧
      (∀ i : Bool, (s.seq u).lockIn ≠ i ∨ (s.seq u).lockOut ≠ i → ((s.seq u).lockTimer = none ∨ i = true) →
        (s.seq u).lockState ≠ .conflicted → (s.tier u).present = true →
        ∃ t, exec (.lockInputChange u i i) s = .next t ∧ TouchesOnlySeq s t u ∧ (t.seq u).lockState = .conflicted ∧
          (t.seq u).lockTimer = none ∧ (t.seq u).inhibit = some ((s.seq u).inhibit.getD .lockConflict) ∧
          Instr.tierCauseReport u .lockConflict (some a.move.number) ∈ t.mail ∧
          if (s.seq u).lockState = .engaged ∧ a.move.goal.kind = .tilt ∧
              (a.stage = .liftBrake ∨ a.stage = .travel ∨ a.stage = .settle) then
            (t.seq u).slot = some { a with fixedEnd := some (a.fixedEnd.getD (.aborted, .lockLost)) } ∧
            Instr.causeReport ⟨.lockLost, some u, none, .move a.move.number, none, none, none⟩ ∈ t.mail
          else
            match a.stage with
            | .withdrawLock | .setBrake | .engageLock | .suspended =>
              MoveEnded s t u a .failed .inhibit ∧ (t.seq u).braked = true
            | .liftBrake =>
              MoveEnded s t u a (endUnderConflict a).1 (endUnderConflict a).2 ∧ (t.seq u).braked = true
            | .travel | .settle | .suspending =>
              (t.seq u).slot =
                some { a with stage := .halting, context := none, fixedEnd := some (endUnderConflict a) } ∧
              (if a.move.goal.kind = .rotate then Instr.stopOrder u .aqs else Instr.pairStopOrder u .aqs) ∈ t.mail
            | .halting => (t.seq u).slot = some a) ∧
      (a.move.goal.kind = .tilt → a.stage = .liftBrake ∨ a.stage = .travel ∨ a.stage = .settle →
        (s.seq u).lockState = .engaged → (s.seq u).lockTimer = none → (s.seq u).lockOut = false →
        ∃ t, exec (.lockInputChange u false true) s = .next t ∧ TouchesOnlySeq s t u ∧
          t.seq u = told { s.seq u with
            lockIn := false, lockOut := true, lockState := .withdrawn, station := none
            slot := some { a with fixedEnd := some (a.fixedEnd.getD (.aborted, .lockLost)) } } ∧
          Instr.causeReport ⟨.lockLost, some u, none, .move a.move.number, none, none, none⟩ ∈ t.mail)) ∧
    (∀ j, (s.seq u).jog = some j → (s.seq u).slot = none →
      (j.target = .rotation → j.stage = .withdrawLock → (s.seq u).lockTimer.isSome = true →
        (s.seq u).lockCmd = .withdraw → (s.seq u).lockOut = false → (s.pair u).toldStowed = true →
        ∃ t, exec (.lockInputChange u false true) s = .next t ∧ TouchesOnlySeq s t u ∧
          t.seq u = told { s.seq u with
            lockIn := false, lockOut := true, lockState := .withdrawn, lockTimer := none, braked := false
            station := if (s.seq u).lockState = .engaged then none else (s.seq u).station
            jog := some { j with stage := .liftBrake } } ∧
          Instr.brakeReleaseOrder ⟨u, .R⟩ .jog ∈ t.mail) ∧
      (∀ i : Bool, (s.seq u).lockIn ≠ i ∨ (s.seq u).lockOut ≠ i → ((s.seq u).lockTimer = none ∨ i = true) →
        (s.seq u).lockState ≠ .conflicted → (s.tier u).present = true →
        ∃ t, exec (.lockInputChange u i i) s = .next t ∧ TouchesOnlySeq s t u ∧
          JogMeets { s.seq u with
            lockIn := i, lockOut := i, lockState := .conflicted, lockTimer := none
            pendingStation := if (s.seq u).lockTimer.isSome then none else (s.seq u).pendingStation
            station := if (s.seq u).lockState = .engaged then none else (s.seq u).station
            inhibit := some ((s.seq u).inhibit.getD .lockConflict) } t u j .lockConflict .aqs)) ∧
    (dueTimer (s.seq u).lockTimer s.clock = false → exec (.lockTimerExpiry u) s = .next (s.taken (.lockTimerExpiry u))) ∧
    (dueTimer (s.seq u).lockTimer s.clock = true →
      ∃ t, exec (.lockTimerExpiry u) s = .next t ∧ TouchesOnlySeq s t u ∧ (t.seq u).lockCmd = .engage ∧
        (t.seq u).lockTimer = none ∧ (t.seq u).lockState = lockStateOf (s.seq u).lockIn (s.seq u).lockOut none ∧
        (t.seq u).inhibit =
          (if (s.tier u).present then some ((s.seq u).inhibit.getD .lockTimeout) else (s.seq u).inhibit) ∧
        ∀ a, (s.seq u).slot = some a →
          ((s.seq u).lockCmd = .withdraw ∧
              (a.stage = .withdrawLock ∨ a.stage = .suspended ∧ a.context = some .withdrawLock) ∨
            (s.seq u).lockCmd = .engage ∧ a.stage = .engageLock) →
          MoveEnded s t u a .failed .lockTimeout)

/-- What the lift, set and settle reports do to the active move. A lift that ends in LIFT_BRAKE begins TRAVEL with a travel
order to the target (R72). A settle that ends in SETTLE begins SET_BRAKE and has the brakes applied; one that times out
also inhibits the tier and marks the move (R73); the settle of a pair ends once both jacks have (R120). SET_BRAKE ends in
SUSPENDED under a hold, else in the fixed end, else in FAILED after a settle timeout, else DONE for a TILT, and for a
ROTATE in ENGAGE_LOCK, which a lock already engaged ends DONE at the move's station (R74, R75). That a fixed end goes before the
FAILED of a settle timeout is the model's reading (notes/assumptions/23.md). -/
def Obligations.LiftSetAndSettleReportsMoveTheStagesOn : Prop :=
  ∀ (u : Tier) (a : Active) (s : State), s.held = false → (s.seq u).slot = some a →
    (∀ n, a.move.goal = .rotate n → a.stage = .liftBrake → (s.seq u).braked = false →
      ∃ t, exec (.liftComplete u) s = .next t ∧ TouchesOnlySeq s t u ∧
        t.seq u = told { s.seq u with slot := some { a with stage := .travel, entered := true } } ∧
        Instr.travelOrder u (256 * (s.stationAngle u n).getD 0) a.move.cls ∈ t.mail) ∧
    (∀ h, a.move.goal = .tilt h → a.stage = .liftBrake → (s.seq u).braked = false →
      ∃ t, exec (.pairLiftComplete u) s = .next t ∧ TouchesOnlySeq s t u ∧
        t.seq u = told { s.seq u with slot := some { a with stage := .travel, entered := true } } ∧
        Instr.pairTravelOrder u (256 * h) a.move.cls ∈ t.mail) ∧
    (a.stage = .settle → a.move.goal.kind = .rotate →
      ∃ t, exec (.settleEnd ⟨u, .R⟩) s = .next t ∧ TouchesOnlySeq s t u ∧
        t.seq u = told { s.seq u with slot := some { a with stage := .setBrake }, braked := true } ∧
        ((s.seq u).braked = false → Instr.brakeApplyOrder ⟨u, .R⟩ ∈ t.mail)) ∧
    (a.stage = .settle → a.move.goal.kind = .rotate →
      ∃ t, exec (.settleTimeout ⟨u, .R⟩) s = .next t ∧ TouchesOnlySeq s t u ∧
        t.seq u = told { s.seq u with
          slot := some { a with stage := .setBrake, settleTimedOut := true }, braked := true
          inhibit :=
            if (s.tier u).present then some ((s.seq u).inhibit.getD .settleTimeout) else (s.seq u).inhibit } ∧
        ((s.tier u).present = true → Instr.tierCauseReport u .settleTimeout (some a.move.number) ∈ t.mail)) ∧
    (∀ j : Jack, a.stage = .settle → a.move.goal.kind = .tilt → (s.pair u).phase = .settle →
      (∃ t, exec (.settleEnd (jackAxis u j)) s = .next t ∧
        (∀ v, v ≠ u → t.pair v = s.pair v) ∧ TouchesOnlySeq { s with pairs := t.pairs } t u ∧
        if (s.pair u).gather.jack (Jack.other j) = .ended then
          t.pair u = { s.pair u with gather := (s.pair u).gather.setJack j .ended, phase := .still } ∧
          t.seq u = told { s.seq u with slot := some { a with stage := .setBrake }, braked := true } ∧
          ((s.seq u).braked = false → Instr.pairApplyOrder u ∈ t.mail)
        else
          t.pair u = { s.pair u with gather := (s.pair u).gather.setJack j .ended } ∧ t.seq u = s.seq u) ∧
      ∃ t, exec (.settleTimeout (jackAxis u j)) s = .next t ∧
        (∀ v, v ≠ u → t.pair v = s.pair v) ∧ TouchesOnlySeq { s with pairs := t.pairs } t u ∧
        t.pair u = { s.pair u with gather := (s.pair u).gather.setJack j .timedOut, phase := .still } ∧
        (t.seq u).slot = some { a with stage := .setBrake, settleTimedOut := true }) ∧
    (∀ c : Instr, c = .setComplete u ∧ a.move.goal.kind = .rotate ∨ c = .pairSetComplete u ∧ a.move.goal.kind = .tilt →
      a.stage = .setBrake →
      ∃ t, exec c s = .next t ∧ TouchesOnlySeq s t u ∧
        match a.context, a.fixedEnd with
        | some _, _ => t.seq u = told { s.seq u with slot := some { a with stage := .suspended } }
        | none, some e => MoveEnded s t u a e.1 e.2
        | none, none =>
          if a.settleTimedOut then MoveEnded s t u a .failed .settleTimeout
          else
            match a.move.goal with
            | .tilt _ => MoveEnded s t u a .done .none
            | .rotate n =>
              (t.seq u).lockCmd = .engage ∧
              ((s.seq u).lockIn = true → (s.seq u).lockOut = false →
                MoveEnded s t u { a with stage := .engageLock } .done .none ∧ (t.seq u).station = some n) ∧
              ((s.seq u).lockIn = false → (s.seq u).lockOut = true →
                (t.seq u).slot = some { a with stage := .engageLock } ∧ (t.seq u).lockState = .engaging ∧
                (t.seq u).lockTimer = some ⟨s.clock, (s.tier u).lockTime⟩))

/-- The stop manager's orders at a sequencer. With no move and no jog, hold, quick-stop and resume orders change nothing.
A hold suspends a move in WITHDRAW_LOCK or LIFT_BRAKE at once, brings one in TRAVEL or SETTLE to SUSPENDING with a stop at
a, and leaves every other (R79). A quick stop brings a move in TRAVEL, SETTLE or SUSPENDING to HALTING with a stop at a_qs
and ABORTED, STOP fixed unless R76 has fixed its end already, leaves one in HALTING, and ends every other at once (R80). A
jog is met by a hold at a and by a quick stop at a_qs, stage by stage (R86). A trip
orders every brake of the tier applied and ends move and jog at once (R81). A resume releases a suspended move into the
lock withdrawal or into LIFT_BRAKE, by its context (R83). That a move keeps a mark of having been suspended in SETTLE, and
which ends give way to a quick stop, and what meets a jog whose brakes are applied, is the model's reading
(notes/assumptions/41.md, 22.md and 21.md). -/
def Obligations.OrdersMeetTheOccupantOfATier : Prop :=
  ∀ (u : Tier) (s : State), s.held = false →
    (∀ c : Instr, c = .holdOrder u ∨ c = .quickStopOrder u ∨ c = .resumeOrder u → (s.seq u).slot = none →
      (s.seq u).jog = none → ∃ t, exec c s = .next t ∧ TouchesOnlySeq s t u ∧ t.seq u = told (s.seq u)) ∧
    (∀ a, (s.seq u).slot = some a → (s.seq u).jog = none →
      (∃ t, exec (.holdOrder u) s = .next t ∧ TouchesOnlySeq s t u ∧
        t.seq u = told (match a.stage with
          | .withdrawLock =>
            { s.seq u with slot := some { a with stage := .suspended, context := some .withdrawLock } }
          | .liftBrake =>
            { s.seq u with slot := some { a with stage := .suspended, context := some .liftBrake }, braked := true }
          | .travel => { s.seq u with slot := some { a with stage := .suspending, context := some .travel } }
          | .settle => { s.seq u with slot := some { a with stage := .suspending, context := some .settle } }
          | .setBrake | .engageLock | .suspending | .halting | .suspended => s.seq u) ∧
        (a.stage = .travel ∨ a.stage = .settle →
          (if a.move.goal.kind = .rotate then Instr.stopOrder u .a else Instr.pairStopOrder u .a) ∈ t.mail)) ∧
      (∃ t, exec (.quickStopOrder u) s = .next t ∧ TouchesOnlySeq s t u ∧
        match a.stage with
        | .travel | .settle | .suspending =>
          t.seq u = told { s.seq u with
            slot := some { a with stage := .halting, context := none, fixedEnd := some (endUnderQuickStop a) } } ∧
          (if a.move.goal.kind = .rotate then Instr.stopOrder u .aqs else Instr.pairStopOrder u .aqs) ∈ t.mail
        | .halting => t.seq u = told (s.seq u)
        | .withdrawLock | .liftBrake | .setBrake | .engageLock | .suspended =>
          MoveEnded s t u a (endUnderQuickStop a).1 (endUnderQuickStop a).2 ∧ (t.seq u).braked = true)) ∧
    (∀ j, (s.seq u).jog = some j → (s.seq u).slot = none →
      (∃ t, exec (.holdOrder u) s = .next t ∧ TouchesOnlySeq s t u ∧ JogMeets (s.seq u) t u j .hold .a) ∧
      (∃ t, exec (.quickStopOrder u) s = .next t ∧ TouchesOnlySeq s t u ∧
        JogMeets (s.seq u) t u j .quickStop .aqs)) ∧
    (∃ t, exec (.tripOrder u) s = .next t ∧ TouchesOnlySeq s t u ∧ (t.seq u).slot = none ∧ (t.seq u).jog = none ∧
      (t.seq u).braked = true ∧ Instr.axisTripOrder ⟨u, .R⟩ ∈ t.mail ∧ Instr.pairTripOrder u ∈ t.mail ∧
      ∀ a, (s.seq u).slot = some a → MoveEnded s t u a .aborted .trip) ∧
    (∀ a, (s.seq u).slot = some a →
      (a.stage ≠ .suspended → ∃ t, exec (.resumeOrder u) s = .next t ∧ TouchesOnlySeq s t u ∧
        t.seq u = told (s.seq u)) ∧
      (a.stage = .suspended → a.context = some .withdrawLock → (s.seq u).lockState = .withdrawing →
        ∃ t, exec (.resumeOrder u) s = .next t ∧ TouchesOnlySeq s t u ∧
          t.seq u = told { s.seq u with slot := some { a with stage := .withdrawLock, context := none, fromSettle := false } }) ∧
      (∀ n, a.move.goal = .rotate n → a.stage = .suspended → a.context ≠ some .withdrawLock ∨
          (s.seq u).lockState = .withdrawn → (s.pair u).toldStowed = true →
        ∃ t, exec (.resumeOrder u) s = .next t ∧ TouchesOnlySeq s t u ∧
          t.seq u = told { s.seq u with
            slot := some { a with
              stage := .liftBrake, context := none, fromSettle := decide (a.context = some .settle) }
            braked := false } ∧
          Instr.brakeReleaseOrder ⟨u, .R⟩ (.move a.move.number) ∈ t.mail) ∧
      (∀ h, a.move.goal = .tilt h → a.stage = .suspended → a.context ≠ some .withdrawLock →
          (s.seq u).lockState = .engaged →
        ∃ t, exec (.resumeOrder u) s = .next t ∧ TouchesOnlySeq s t u ∧
          t.seq u = told { s.seq u with
            slot := some { a with
              stage := .liftBrake, context := none, fromSettle := decide (a.context = some .settle) }
            braked := false } ∧
          Instr.pairReleaseOrder u (.move a.move.number) ∈ t.mail))

/-- JOG and its end, and the reset of a tier's inhibit. A JOG from the holder in SETUP and CLEAR with no jog running, of
axes that are valid, ready, short of the travel end in the direction asked and, on an active limit input, moving toward
the middle of their travel, starts: a pair jog releases its brakes at once, a rotation jog of a stowed tier with its lock
engaged withdraws the lock first, and the axes on their limit inputs are exempt from LIMIT_HIT; an invalid or not ready
axis makes it INTERLOCK (R84, R85). JOG_STOP, from either port, meets the running jog at a, stage by
stage, and with none running changes nothing (R86, R87). RESET_FAULT of a
tier is BUSY under a move, INTERLOCK under a conflicted lock, and otherwise clears the inhibit (R78). That a jog in LIFT_BRAKE
whose brakes are applied already ends at once is the model's reading (notes/assumptions/21.md). -/
def Obligations.JogsStartAndStopAndInhibitsClear : Prop :=
  ∀ (q : Src) (u : Tier) (s : State), s.held = false →
    (∀ (g : JogTarget) (d : Dir), s.auth.mode = .setup → s.auth.holder = some q.port → (s.tier u).present = true →
      s.man.state = .clear → (∀ v, (s.seq v).jog = none) → (s.seq u).slot = none →
      (g = .pair → (s.tier u).tilt.isSome = true) →
      ((∃ x ∈ jogAxes u g, (s.axis x).valid = false ∨ (s.axis x).ready = false) →
        ∃ t, exec (.jog q (Idx8.num u) (if g = .rotation then 0 else 1) (if d = .up then 0 else 1)) s = .next t ∧
          OnlyPorts s t ∧ Answered s t
            (.jog q (Idx8.num u) (if g = .rotation then 0 else 1) (if d = .up then 0 else 1)) q 0x22 .interlock [] []) ∧
      ((∀ x ∈ jogAxes u g, (s.axis x).valid = true ∧ (s.axis x).ready = true ∧
          (match d with
           | .up => (s.axis x).position < 256 * (s.axisRange x).2 ∧
              ((s.axis x).limit = true → (s.axis x).position < 256 * (((s.axisRange x).1 + (s.axisRange x).2) / 2))
           | .down => 256 * (s.axisRange x).1 < (s.axis x).position ∧
              ((s.axis x).limit = true → 256 * (((s.axisRange x).1 + (s.axisRange x).2) / 2) < (s.axis x).position))) →
        (g = .rotation → (s.pair u).toldStowed = true ∧ (s.seq u).lockState = .engaged ∧ (s.seq u).lockIn = true ∧
          (s.seq u).lockOut = false) →
        ∃ t, exec (.jog q (Idx8.num u) (if g = .rotation then 0 else 1) (if d = .up then 0 else 1)) s = .next t ∧
          (∀ v, v ≠ u → t.seq v = s.seq v) ∧ Replied s t q 0x22 .ok [] ∧
          t = { s with
            seqs := t.seqs, man := { s.man with exempt := t.man.exempt }
            arb := { s.arb with passRequested := t.arb.passRequested }, ports := t.ports, mail := t.mail } ∧
          match g with
          | .pair =>
            t.seq u = told { s.seq u with
              jog := some ⟨.pair, d, .liftBrake, ⟨false, (s.axis ⟨u, .A⟩).limit, (s.axis ⟨u, .B⟩).limit⟩, none⟩
              braked := false } ∧
            t.man.exempt.get u = ⟨false, (s.axis ⟨u, .A⟩).limit, (s.axis ⟨u, .B⟩).limit⟩ ∧
            Instr.pairReleaseOrder u .jog ∈ t.mail
          | .rotation =>
            t.seq u = told { s.seq u with
              jog := some ⟨.rotation, d, .withdrawLock, ⟨(s.axis ⟨u, .R⟩).limit, false, false⟩, none⟩
              lockCmd := .withdraw, lockTimer := some ⟨s.clock, (s.tier u).lockTime⟩, lockState := .withdrawing
              station := none, pendingStation := none } ∧
            t.man.exempt.get u = ⟨(s.axis ⟨u, .R⟩).limit, false, false⟩)) ∧
    ((∀ v, (s.seq v).jog = none) → ∃ t, exec (.jogStop q) s = .next t ∧ OnlyPorts s t ∧
      Answered s t (.jogStop q) q 0x23 .ok [] []) ∧
    (∀ j : Jog, (s.seq u).jog = some j → (∀ v, v ≠ u → (s.seq v).jog = none) → (s.seq u).slot = none →
      ∃ t, exec (.jogStop q) s = .next t ∧
        (∀ v, v ≠ u → t.seq v = s.seq v ∧ t.man.exempt.get v = s.man.exempt.get v) ∧ Replied s t q 0x23 .ok [] ∧
        t = { s with seqs := t.seqs, man := { s.man with exempt := t.man.exempt }, ports := t.ports, mail := t.mail } ∧
        JogMeets (s.seq u) t u j .jogStop .a) ∧
    (s.holderOrNone q = true →
      ∃ t, exec (.resetFaultTier q (Idx8.num u)) s = .next t ∧
        if (s.seq u).slot.isSome then
          OnlyPorts s t ∧ Answered s t (.resetFaultTier q (Idx8.num u)) q 0x1B .busy [] []
        else if (s.seq u).lockState = .conflicted then
          OnlyPorts s t ∧ Answered s t (.resetFaultTier q (Idx8.num u)) q 0x1B .interlock [] []
        else if (s.seq u).inhibit = none then
          OnlyPorts s t ∧ Answered s t (.resetFaultTier q (Idx8.num u)) q 0x1B .ok [] []
        else
          (∀ v, v ≠ u → t.seq v = s.seq v) ∧ t.seq u = { s.seq u with inhibit := none } ∧
          t = { s with
            seqs := t.seqs, arb := { s.arb with passRequested := true }, ports := t.ports, mail := t.mail } ∧
          Replied s t q 0x1B .ok [] ∧ Instr.latchEvent (.tier u .inhibitCleared) ∈ t.mail)

/-! ### Axis controllers -/

/-- One update of an axis (R89, R90, R101, R115). A good read gives count, position and validity; a first miss keeps the
position valid, a further one makes it invalid, which is an ENCODER cause of a present axis with the contactor closed.
IDLE follows the position; LIFTING and SETTING count; a rotation axis takes a profile step in TRAVEL and a stop step in
STOPPING, none while the position is invalid; a jack in these two takes the demand, velocity, direction, remaining distance,
target and stop deceleration that its pair unit last handed it, with the pair's cap (R88, R89, R119), when its position is valid;
in the other phases all of these stand, but for the demand in IDLE, and no other update changes a direction. SETTLE counts the
updates within the window (R106, R107). The speed reference is 0 unless brake, contactor, validity and presence allow one, and is then feedforward and feedback with the
skew correction of a jack, clamped. A jack reports its position, and a release point passed is reported and forgotten
(R100, R114). Every other axis stays as it is. An update of tR that ends TRAVEL at the target brings the tier's move to SETTLE
and its jog to SET_BRAKE, and one that comes to rest in STOPPING brings a move in SUSPENDING or HALTING and a jog in HALTING to
SET_BRAKE, with their brakes applied (R72, R74, R85, R99); no other sequencer changes, nor that one otherwise. What a miss
before the first good read leaves is the model's choice (notes/assumptions/47.md); so are what a jack takes at its own update
and what in the event of its pair (notes/assumptions/27.md), the cleared served field when the set
count completes (notes/assumptions/24.md), STILL with a second report of rest from STOPPING with velocity 0
(notes/assumptions/48.md), and the braked jog that an arrival ends (notes/assumptions/21.md). -/
def Obligations.AxisUpdatesReadAdvanceAndDrive : Prop :=
  ∀ (a : Axis) (e : EncoderRead) (s : State), s.held = false →
    ∃ t, exec (.axisUpdate a e) s = .next t ∧
      (∀ x, x ≠ a → t.axis x = s.axis x) ∧
      TouchesOnlySeq { s with axes := t.axes } t a.tier ∧
      (if a.role = .R ∧ (s.axis a).phase = .travel ∧ (t.axis a).valid = true ∧ (t.axis a).r = 0 then ArrivalTaken s t a.tier
       else if a.role = .R ∧ (s.axis a).phase = .stopping ∧ (t.axis a).valid = true ∧ (t.axis a).v = 0 then
         RestTaken s t a.tier
       else t.seqs = s.seqs ∧ t.man = s.man) ∧
      (match e with
       | .good c =>
         (t.axis a).count = some c ∧ (t.axis a).position = (c.toNat : Int) - (s.axisRec a).zero ∧
         (t.axis a).valid = true ∧ (t.axis a).missRun = 0 ∧ (t.axis a).encoderMiss = false ∧
         (t.axis a).previous = some (t.axis a).position
       | .miss =>
         (t.axis a).count = (s.axis a).count ∧ (t.axis a).position = (s.axis a).position ∧
         (t.axis a).valid = ((s.axis a).valid && (s.axis a).missRun == 0) ∧
         (t.axis a).missRun = (if (s.axis a).missRun = 0 then 1 else 2) ∧ (t.axis a).encoderMiss = true ∧
         (t.axis a).previous = (s.axis a).previous) ∧
      (t.axis a).released = (s.axis a).released ∧ (t.axis a).contactor = (s.axis a).contactor ∧
      (t.axis a).limit = (s.axis a).limit ∧ (t.axis a).ready = (s.axis a).ready ∧
      ((t.axis a).released = false ∨ (t.axis a).contactor = false ∨ (t.axis a).valid = false ∨ s.axisPresent a = false →
        (t.axis a).speed = 0 ∧ (t.axis a).saturated = false) ∧
      ((t.axis a).released = true → (t.axis a).contactor = true → (t.axis a).valid = true → s.axisPresent a = true →
        ∀ k : Int,
          (k = match a.role, (s.tier a.tier).tilt with
            | .A, some g =>
              if (s.pair a.tier).latest.b.valid then
                -(((t.axis a).position - (s.pair a.tier).latest.b.position) * g.ks).tdiv 16
              else 0
            | .B, some g =>
              if (s.pair a.tier).latest.a.valid then
                (((s.pair a.tier).latest.a.position - (t.axis a).position) * g.ks).tdiv 16
              else 0
            | _, _ => 0) →
          (t.axis a).speed = max (-8191) (min 8191
            ((signedV (t.axis a).dir (t.axis a).v * (s.axisRec a).kff).tdiv 256 +
              (((t.axis a).demand - (t.axis a).position) * (s.axisRec a).kp).tdiv 16 + k))) ∧
      (s.axisPresent a = true → (t.axis a).valid ≠ (s.axis a).valid → t.arb.passRequested = true) ∧
      (s.axisPresent a = true → (s.axis a).valid = true → (t.axis a).valid = false → (s.axis a).contactor = true →
        Instr.causeReport ⟨.encoder, some a.tier, some a, (t.axis a).served, some (t.axis a).demand,
          some (t.axis a).position, none⟩ ∈ t.mail) ∧
      (∀ j : Jack, a = jackAxis a.tier j →
        Instr.jackPositionReport a.tier j (t.axis a).position (t.axis a).valid ∈ t.mail) ∧
      (∀ p, (s.axis a).release = some p →
        if (t.axis a).valid = true ∧ p.passed (t.axis a).position = true then
          (t.axis a).release = none ∧
            Instr.bandReleaseReport a.tier (t.axis a).served (t.axis a).position ∈ t.mail
        else (t.axis a).release = some p) ∧
      (if a.role ≠ .R ∧ ((s.axis a).phase = .travel ∨ (s.axis a).phase = .stopping) ∧ (t.axis a).valid = true then
         (t.axis a).phase = (s.axis a).phase ∧ (t.axis a).v = (s.pair a.tier).v ∧ (t.axis a).dir = (s.pair a.tier).dir ∧
         (t.axis a).r = (s.pair a.tier).r ∧ (t.axis a).target = (s.pair a.tier).target ∧
         (t.axis a).stopDecel = (s.pair a.tier).stopDecel ∧ (t.axis a).cap = some (s.capOf a.tier) ∧
         (∀ d, (s.pair a.tier).demand = some d → (t.axis a).demand = d)
       else
         (t.axis a).dir = (s.axis a).dir ∧ (t.axis a).target = (s.axis a).target ∧ (t.axis a).cap = (s.axis a).cap ∧
         (t.axis a).stopDecel = (s.axis a).stopDecel) ∧
      ((s.axis a).phase ≠ .travel → (s.axis a).phase ≠ .stopping →
        (t.axis a).v = (s.axis a).v ∧ (t.axis a).r = (s.axis a).r ∧
        ((s.axis a).phase ≠ .idle ∨ (t.axis a).valid = false → (t.axis a).demand = (s.axis a).demand)) ∧
      ((s.axis a).phase ≠ .setting → (t.axis a).served = (s.axis a).served) ∧
      (match (s.axis a).phase with
       | .idle => (t.axis a).phase = .idle ∧ ((t.axis a).valid = true → (t.axis a).demand = (t.axis a).position)
       | .lifting =>
         (t.axis a).phase = .lifting ∧ (t.axis a).phaseCount = (s.axis a).phaseCount + 1 ∧
         (a.role = .R → (t.axis a).phaseCount = updatesOf (s.axisRec a).liftTime →
           Instr.liftComplete a.tier ∈ t.mail)
       | .setting =>
         (t.axis a).phaseCount = (s.axis a).phaseCount + 1 ∧
         (if updatesOf (s.axisRec a).setTime ≤ (t.axis a).phaseCount then
            (t.axis a).phase = .idle ∧ (t.axis a).served = .none ∧ (a.role = .R → Instr.setComplete a.tier ∈ t.mail)
          else (t.axis a).phase = .setting)
       | .travel =>
         (a.role = .R → (t.axis a).valid = true →
           (⟨(t.axis a).demand, (t.axis a).v, (t.axis a).r⟩ : Motion) =
             profileStep (s.axisRec a).a ((s.axis a).cap.getD 1) (s.axis a).dir
               ⟨(s.axis a).demand, (s.axis a).v, (s.axis a).r⟩ ∧
           (t.axis a).phase =
             if (t.axis a).r ≠ 0 then .travel else if (s.axis a).served = .jog then .still else .settle) ∧
         ((t.axis a).valid = false →
           (t.axis a).phase = .travel ∧ (t.axis a).demand = (s.axis a).demand ∧ (t.axis a).v = (s.axis a).v ∧
           (t.axis a).r = (s.axis a).r)
       | .stopping =>
         (a.role = .R → (t.axis a).valid = true →
           (⟨(t.axis a).demand, (t.axis a).v, (t.axis a).r⟩ : Motion) =
             stopStep ((s.axis a).stopDecel.getD 1) (s.axis a).dir ⟨(s.axis a).demand, (s.axis a).v, (s.axis a).r⟩ ∧
           (t.axis a).phase = if (t.axis a).v = 0 then .still else .stopping) ∧
         ((t.axis a).valid = false →
           (t.axis a).phase = .stopping ∧ (t.axis a).demand = (s.axis a).demand ∧ (t.axis a).v = (s.axis a).v ∧
           (t.axis a).r = (s.axis a).r)
       | .settle =>
         if (t.axis a).valid then
           (t.axis a).settleAge = (s.axis a).settleAge + 1 ∧
           (t.axis a).settleRun =
             (if ((t.axis a).position - (s.axis a).target.getD (s.axis a).demand).natAbs ≤ (s.axisRec a).window then
                (s.axis a).settleRun + 1
              else 0) ∧
           (if (s.axisRec a).settleCount ≤ (t.axis a).settleRun then
              (t.axis a).phase = .still ∧ Instr.settleEnd a ∈ t.mail
            else if (s.axisRec a).settleTimeout ≤ (t.axis a).settleAge then
              (t.axis a).phase = .still ∧ Instr.settleTimeout a ∈ t.mail
            else (t.axis a).phase = .settle)
         else (t.axis a).phase = .settle ∧ (t.axis a).settleAge = (s.axis a).settleAge
       | .still => (t.axis a).phase = .still)

/-- The checks in motion (R102 to R105), made on a present axis with its brake released: each mark stands after the update
as the check found it, an unmade check leaves its mark, and a fault found with the mark clear is reported to the stop
manager with what the axis serves, its demand and its position. -/
def Obligations.MotionChecksMarkAndReport : Prop :=
  ∀ (a : Axis) (e : EncoderRead) (s : State), s.held = false →
    ∃ t, exec (.axisUpdate a e) s = .next t ∧
      if (s.axis a).released = true ∧ s.axisPresent a = true then
        (t.axis a).markFollowing =
          (if (s.axis a).contactor = true ∧ (t.axis a).valid = true then
             decide ((s.axisRec a).feLimit * 256 < ((t.axis a).demand - (t.axis a).position).natAbs)
           else (s.axis a).markFollowing) ∧
        (t.axis a).markOverspeed =
          (match e, (s.axis a).previous with
           | .good _, some p =>
             if (s.axis a).contactor = true ∧ (s.axis a).missRun = 0 then
               decide ((s.axisRec a).vLim + (s.axisRec a).vLim / 4 < ((t.axis a).position - p).natAbs)
             else (s.axis a).markOverspeed
           | _, _ => (s.axis a).markOverspeed) ∧
        (t.axis a).markSoftLimit =
          (if s.auth.mode = .run ∧ (t.axis a).valid = true then
             decide ((t.axis a).position < 256 * (s.axisRange a).1 - 256 ∨
               256 * (s.axisRange a).2 + 256 < (t.axis a).position)
           else (s.axis a).markSoftLimit) ∧
        ∀ k : Kind,
          (k = .following ∧ (t.axis a).markFollowing = true ∧ (s.axis a).markFollowing = false ∨
            k = .overspeed ∧ (t.axis a).markOverspeed = true ∧ (s.axis a).markOverspeed = false ∨
            k = .softLimit ∧ (t.axis a).markSoftLimit = true ∧ (s.axis a).markSoftLimit = false) →
          Instr.causeReport ⟨k, some a.tier, some a, (t.axis a).served, some (t.axis a).demand,
            some (t.axis a).position, none⟩ ∈ t.mail
      else
        (t.axis a).markFollowing = (s.axis a).markFollowing ∧ (t.axis a).markOverspeed = (s.axis a).markOverspeed ∧
        (t.axis a).markSoftLimit = (s.axis a).markSoftLimit

/-- The orders at an axis controller. A release in IDLE or SETTING energises the brake output, holds the clamped position
and begins LIFTING, for the ROTATE whose path the arbiter holds with the release point of the path's next band (R59), and
under an active limit input that is not exempt, or an inactive drive-ready input, trips the hall
(R93, R160). An apply or a trip, outside IDLE, applies the brake, zeroes the speed reference and forgets the profile
(R94). A travel order sets distance, direction and cap from the clamped position, and arrives at once when there is
nothing to travel (R96), or for a move resumed from SETTLE that lies within its window (R83); a stop order acts in TRAVEL, SETTLE and STOPPING alone (R99). A contactor report of an opening
zeroes the speed reference and leaves SATURATED (R101, R111); one of a closing with an invalid position of a present axis is
an ENCODER cause (R91). An arrival in the order's event brings the tier's move to SETTLE and its jog to SET_BRAKE (R72, R85), and
a stop order in SETTLE, which finds the axis at rest, brings a move in SUSPENDING or HALTING to SET_BRAKE (R74, R79, R80, R99).
The release point after a hold, the order in other phases, how the window is judged, what an axis serves after its brake is set
or tripped, the second rest of a stop order in SETTLE, and the braked jog that an arrival ends, are the model's reading
(notes/assumptions/51.md, 42.md, 41.md, 24.md, 48.md and 21.md); so are that an axis serves what a release order names from
that order on, and that an axis of a tier not present takes the order as any other does (notes/assumptions/65.md and 66.md). -/
def Obligations.OrdersMeetAnAxis : Prop :=
  ∀ (a : Axis) (s : State), s.held = false →
    (∀ served : Served, ∃ t, exec (.brakeReleaseOrder a served) s = .next t ∧ (∀ x, x ≠ a → t.axis x = s.axis x) ∧
      if (s.axis a).phase = .idle ∨ (s.axis a).phase = .setting then
        t.axis a = { s.axis a with
          released := true
          demand := min (256 * (s.axisRange a).2) (max (256 * (s.axisRange a).1) (s.axis a).position)
          v := 0, phaseCount := 0, phase := .lifting, served := served
          markFollowing := false, markOverspeed := false, markSoftLimit := false, release := (t.axis a).release } ∧
        ((∀ p, (s.holding a.tier).path = some p → ¬(a.role = .R ∧ p.rotate = true ∧ served = .move p.number)) →
          (t.axis a).release = (s.axis a).release) ∧
        (∀ p, (s.holding a.tier).path = some p → a.role = .R → p.rotate = true → served = .move p.number →
          (t.axis a).release =
            if p.next = p.g then none
            else if p.s < p.g then some ⟨256 * (bandStart (p.next + 1) + s.tables.hall.releaseMargin), .up⟩
            else some ⟨256 * (bandStart p.next - s.tables.hall.releaseMargin), .down⟩) ∧
        t = { s with axes := t.axes, man := t.man, mail := t.mail } ∧
        (a.role = .R → (s.axisRec a).liftTime = 0 → Instr.liftComplete a.tier ∈ t.mail) ∧
        if s.axisPresent a = true ∧
            ((s.axis a).limit = true ∧ s.isExempt a = false ∨ (s.axis a).ready = false) then
          t.man.state = .tripped
        else t.man = s.man
      else t = s.taken (.brakeReleaseOrder a served)) ∧
    (∃ t, exec (.brakeApplyOrder a) s = .next t ∧ (∀ x, x ≠ a → t.axis x = s.axis x) ∧
      t = { s with axes := t.axes, mail := t.mail } ∧
      if (s.axis a).phase = .idle then t.axis a = s.axis a
      else
        t.axis a = { (s.axis a).brake with
          phase := if (s.axisRec a).setTime = 0 then .idle else .setting
          served := if (s.axisRec a).setTime = 0 then .none else (s.axis a).served } ∧
        (t.axis a).released = false ∧ (t.axis a).speed = 0 ∧
        (a.role = .R → (s.axisRec a).setTime = 0 → Instr.setComplete a.tier ∈ t.mail)) ∧
    (∃ t, exec (.axisTripOrder a) s = .next t ∧ (∀ x, x ≠ a → t.axis x = s.axis x) ∧
      t = { s with axes := t.axes, mail := s.mail.erase (.axisTripOrder a) } ∧
      if (s.axis a).phase = .idle then t.axis a = s.axis a
      else t.axis a = { (s.axis a).brake with phase := .idle, served := .none } ∧ (t.axis a).released = false ∧
        (t.axis a).speed = 0) ∧
    (∀ (target : Int) (cls : SpeedClass), a.role = .R →
      ∃ t, exec (.travelOrder a.tier target cls) s = .next t ∧ (∀ x, x ≠ a → t.axis x = s.axis x) ∧
        TouchesOnlySeq { s with axes := t.axes } t a.tier ∧
        ∀ d : Int, d = min (256 * (s.axisRange a).2) (max (256 * (s.axisRange a).1) (s.axis a).position) →
          if d = target ∨ (∃ b, (s.seq a.tier).slot = some b ∧ b.fromSettle = true) ∧ (s.axis a).valid = true ∧
              ((s.axis a).position - target).natAbs ≤ (s.axisRec a).window then
            (t.axis a).demand = target ∧ (t.axis a).v = 0 ∧ (t.axis a).r = 0 ∧ (t.axis a).target = some target ∧
            (t.axis a).phase = (if (s.axis a).served = .jog then .still else .settle) ∧ ArrivalTaken s t a.tier
          else
            t.seqs = s.seqs ∧ t.man = s.man ∧
            t.axis a = { s.axis a with
              phase := .travel, demand := d, v := 0, r := (target - d).natAbs
              dir := if d ≤ target then .up else .down, target := some target
              cap := some (classCap (s.axisRec a).vLim cls), stopDecel := none }) ∧
    (∀ rate : StopRate, a.role = .R →
      ∃ t, exec (.stopOrder a.tier rate) s = .next t ∧ (∀ x, x ≠ a → t.axis x = s.axis x) ∧
        TouchesOnlySeq { s with axes := t.axes } t a.tier ∧
        (if (s.axis a).phase = .settle then RestTaken s t a.tier else t.seqs = s.seqs ∧ t.man = s.man) ∧
        ∀ d : Nat, d = (if rate = .a then (s.axisRec a).a else (s.axisRec a).aQs) →
          t.axis a =
            match (s.axis a).phase with
            | .travel => { s.axis a with phase := .stopping, stopDecel := some d }
            | .settle => { s.axis a with phase := .stopping, stopDecel := some d, v := 0 }
            | .stopping =>
              { s.axis a with
                stopDecel := if (s.axis a).stopDecel.getD 0 < d then some d else (s.axis a).stopDecel }
            | .idle | .lifting | .still | .setting => s.axis a) ∧
    (∃ t, exec (.contactorReport a false) s = .next t ∧ (∀ x, x ≠ a → t.axis x = s.axis x) ∧
      t.axis a = { s.axis a with contactor := false, speed := 0 } ∧
      t = { s with axes := t.axes, mail := s.mail.erase (.contactorReport a false) }) ∧
    ∃ t, exec (.contactorReport a true) s = .next t ∧ (∀ x, x ≠ a → t.axis x = s.axis x) ∧
      t.axis a = { s.axis a with contactor := true } ∧ t = { s with axes := t.axes, mail := t.mail } ∧
      (s.axisPresent a = true → (s.axis a).valid = false →
        Instr.causeReport ⟨.encoder, some a.tier, some a, (s.axis a).served, some (s.axis a).demand,
          some (s.axis a).position, none⟩ ∈ t.mail)

/-! ### Tilt pairs -/

/-- The orders at a tilt pair unit; that of a tier with no tilt group takes no release or travel order and stays in IDLE
(R112). A release in IDLE or SETTING begins LIFTING, with both idle or setting jacks released (R118). An apply or a trip outside IDLE applies the brakes of both jacks that are not idle, each by its own set time in SETTING or
IDLE, by a trip in IDLE, and forgets the profile
(R94, R118). A travel order starts the shared profile from the clamped mean of the jacks' positions, in the direction of the
target, with both jacks in TRAVEL at the same demand (R119), or arrives at once, as a move resumed from SETTLE does with both jacks within their windows
(R83); a stop order acts in TRAVEL, SETTLE and STOPPING alone (R121). An arrival in the order's event brings the tier's move to
SETTLE and its jog to SET_BRAKE (R72, R85), and a stop order in SETTLE brings a move in SUSPENDING or HALTING to SET_BRAKE (R74,
R121) and both jacks to STILL at velocity 0 with the demand of their pair (R121); that they have its remaining distance and target
in that event is the model's choice (notes/assumptions/27.md). A release order in other phases, how the windows are judged, what the pair's profile holds and serves once its brakes are
ordered to apply, and the braked jog that an arrival ends, are the model's reading (notes/assumptions/42.md, 41.md, 24.md and
21.md); so are that a pair serves what a release order names from that order on, and that the pair of a tier not present takes
the order as any other does (notes/assumptions/65.md and 66.md). -/
def Obligations.OrdersMeetAPair : Prop :=
  ∀ (u : Tier) (s : State), s.held = false →
    (∀ served : Served, ∃ t, exec (.pairReleaseOrder u served) s = .next t ∧
      (∀ v, v ≠ u → t.pair v = s.pair v) ∧ (∀ x, x ≠ ⟨u, .A⟩ → x ≠ ⟨u, .B⟩ → t.axis x = s.axis x) ∧
      if (s.tier u).tilt.isSome = true ∧ ((s.pair u).phase = .idle ∨ (s.pair u).phase = .setting) then
        t.pair u = { s.pair u with phase := .lifting, phaseCount := 0, served := served } ∧
        (∀ j, (s.axis (jackAxis u j)).phase = .idle ∨ (s.axis (jackAxis u j)).phase = .setting →
          (t.axis (jackAxis u j)).released = true ∧ (t.axis (jackAxis u j)).phase = .lifting ∧
          (t.axis (jackAxis u j)).served = served) ∧
        ((s.axisRec ⟨u, .A⟩).liftTime = 0 → (s.axisRec ⟨u, .B⟩).liftTime = 0 → Instr.pairLiftComplete u ∈ t.mail) ∧
        t = { s with axes := t.axes, pairs := t.pairs, man := t.man, mail := t.mail }
      else t = s.taken (.pairReleaseOrder u served)) ∧
    (∀ c : Instr, c = .pairApplyOrder u ∨ c = .pairTripOrder u →
      ∃ t, exec c s = .next t ∧ (∀ v, v ≠ u → t.pair v = s.pair v) ∧
        (∀ x, x ≠ ⟨u, .A⟩ → x ≠ ⟨u, .B⟩ → t.axis x = s.axis x) ∧
        t = { s with axes := t.axes, pairs := t.pairs, mail := t.mail } ∧
        if (s.pair u).phase = .idle then t = s.taken c
        else
          (t.pair u).target = none ∧ (t.pair u).v = 0 ∧ (t.pair u).r = 0 ∧ (t.pair u).cls = none ∧
          (t.pair u).stopDecel = none ∧ (t.pair u).phaseCount = 0 ∧
          (t.pair u).latest = (s.pair u).latest ∧ (t.pair u).skew = (s.pair u).skew ∧
          (t.pair u).degrade = (s.pair u).degrade ∧ (t.pair u).stowed = (s.pair u).stowed ∧
          (t.pair u).phase =
            (if c = .pairTripOrder u ∨ (s.axisRec ⟨u, .A⟩).setTime = 0 ∧ (s.axisRec ⟨u, .B⟩).setTime = 0 then .idle
             else .setting) ∧
          (∀ j, ((s.axis (jackAxis u j)).phase = .idle → t.axis (jackAxis u j) = s.axis (jackAxis u j)) ∧
            ((s.axis (jackAxis u j)).phase ≠ .idle →
              (t.axis (jackAxis u j)).released = false ∧ (t.axis (jackAxis u j)).speed = 0 ∧
              (t.axis (jackAxis u j)).phase =
                (if c = .pairTripOrder u ∨ (s.axisRec (jackAxis u j)).setTime = 0 then .idle else .setting)))) ∧
    (∀ (target : Int) (cls : SpeedClass),
      ∃ t, exec (.pairTravelOrder u target cls) s = .next t ∧ (∀ v, v ≠ u → t.pair v = s.pair v) ∧
        (∀ x, x ≠ ⟨u, .A⟩ → x ≠ ⟨u, .B⟩ → t.axis x = s.axis x) ∧
        TouchesOnlySeq { s with axes := t.axes, pairs := t.pairs } t u ∧
        ((s.tier u).tilt = none → t = s.taken (.pairTravelOrder u target cls)) ∧
        ((s.tier u).tilt.isSome = true → ∀ d : Int,
          d = min (256 * (s.axisRange ⟨u, .A⟩).2) (max (256 * (s.axisRange ⟨u, .A⟩).1)
            (((s.pair u).latest.a.position + (s.pair u).latest.b.position) / 2)) →
          ∀ near : Prop, near = ((∃ b, (s.seq u).slot = some b ∧ b.fromSettle = true) ∧
            ∀ j, ((s.pair u).latest.jack j).valid = true ∧
              (((s.pair u).latest.jack j).position - target).natAbs ≤ (s.axisRec (jackAxis u j)).window) →
          (t.pair u).v = 0 ∧ (t.pair u).target = some target ∧ (t.pair u).cls = some cls ∧
          (t.pair u).stopDecel = none ∧ (d < target → (t.pair u).dir = .up) ∧ (target < d → (t.pair u).dir = .down) ∧
          (d = target ∨ near →
            (t.pair u).demand = some target ∧ (t.pair u).r = 0 ∧
            (t.pair u).phase = (if (s.pair u).served = .jog then .still else .settle) ∧ ArrivalTaken s t u) ∧
          (d ≠ target → ¬near →
            (t.pair u).demand = some d ∧ (t.pair u).r = (target - d).natAbs ∧ (t.pair u).phase = .travel ∧
            t.seqs = s.seqs ∧ t.man = s.man) ∧
          (∀ j, some (t.axis (jackAxis u j)).demand = (t.pair u).demand ∧ (t.axis (jackAxis u j)).v = 0 ∧
            (t.axis (jackAxis u j)).target = some target ∧ (t.axis (jackAxis u j)).phase = (t.pair u).phase))) ∧
    (∀ rate : StopRate,
      ∃ t, exec (.pairStopOrder u rate) s = .next t ∧ (∀ v, v ≠ u → t.pair v = s.pair v) ∧
        (∀ x, x ≠ ⟨u, .A⟩ → x ≠ ⟨u, .B⟩ → t.axis x = s.axis x) ∧
        TouchesOnlySeq { s with axes := t.axes, pairs := t.pairs } t u ∧
        (if (s.pair u).phase = .settle then RestTaken s t u ∧ ∀ j, JackAtRest t u j
         else t.seqs = s.seqs ∧ t.man = s.man) ∧
        ∀ d : Nat, d = (if rate = .a then s.groupA u else s.groupAQs u) →
          t.pair u =
            match (s.pair u).phase with
            | .travel => { s.pair u with phase := .stopping, stopDecel := some d }
            | .settle => { s.pair u with phase := .still, v := 0, gather := ⟨.counting, .counting⟩ }
            | .stopping =>
              { s.pair u with
                stopDecel := if (s.pair u).stopDecel.getD 0 < d then some d else (s.pair u).stopDecel }
            | .idle | .lifting | .still | .setting => s.pair u)

/-- A pair update takes a profile step of the shared motion in TRAVEL under the group figures and the cap in force, and a
stop step in STOPPING, none while a jack's position is invalid, and counts in LIFTING and SETTING (R112, R113, R118 to
R121). A jack's report is kept; a tier with a tilt group has its skew found again, unknown unless both positions are valid,
degrade set or cleared by it, SKEW and SKEW_SEVERE reported when their marks rise, and the stowed condition decided, its
change reported (R114 to R117, R122). A present tier that is no longer stowed then meets its rotation jog as a stop at a_qs
(R86), and in RUN its ROTATE in LIFT_BRAKE, TRAVEL or SETTLE as STOW_LOST, which fixes ABORTED, STOP (R76). A pair that arrives
brings the tier's move to SETTLE and its jog to SET_BRAKE, and one that comes to rest brings a move in SUSPENDING or HALTING and
a jog in HALTING to SET_BRAKE, with their brakes applied (R72, R74, R85, R120, R121), and both its jacks to STILL at velocity 0
with the demand of their pair (R121). The cleared served field when the set
count completes, the jog whose brakes are applied already, and that the jacks of a pair that comes to rest have its remaining
distance and target in that event, are the model's reading (notes/assumptions/24.md, 21.md and 27.md). -/
def Obligations.PairUpdatesAndJackReports : Prop :=
  ∀ (u : Tier) (s : State), s.held = false →
    (∃ t, exec (.pairUpdate u) s = .next t ∧ (∀ v, v ≠ u → t.pair v = s.pair v) ∧
      (∀ x, x ≠ ⟨u, .A⟩ → x ≠ ⟨u, .B⟩ → t.axis x = s.axis x) ∧
      TouchesOnlySeq { s with axes := t.axes, pairs := t.pairs } t u ∧
      match (s.pair u).phase with
      | .travel =>
        if (s.pair u).bothValid then
          ∀ m : Motion, m = profileStep (s.groupA u) (s.capOf u) (s.pair u).dir (s.pair u).motion →
            (t.pair u).r = m.r ∧ (t.pair u).v = m.v ∧
            (m.r ≠ 0 → (t.pair u).demand = some m.demand ∧ (t.pair u).phase = .travel ∧
              t = { s with pairs := t.pairs, mail := s.mail.erase (.pairUpdate u) }) ∧
            (m.r = 0 → (t.pair u).phase = (if (s.pair u).served = .jog then .still else .settle) ∧ ArrivalTaken s t u)
        else t = s.taken (.pairUpdate u)
      | .stopping =>
        if (s.pair u).bothValid then
          ∀ m : Motion, m = stopStep ((s.pair u).stopDecel.getD 1) (s.pair u).dir (s.pair u).motion →
            (t.pair u).demand = some m.demand ∧ (t.pair u).v = m.v ∧ (t.pair u).r = m.r ∧
            (t.pair u).phase = (if m.v = 0 then .still else .stopping) ∧
            (if m.v = 0 then RestTaken s t u ∧ ∀ j, JackAtRest t u j else t.seqs = s.seqs ∧ t.man = s.man)
        else t = s.taken (.pairUpdate u)
      | .lifting =>
        t.pair u = { s.pair u with phaseCount := (s.pair u).phaseCount + 1 } ∧ t.seqs = s.seqs ∧ t.man = s.man ∧
        ((s.pair u).phaseCount + 1 = s.pairLift u → Instr.pairLiftComplete u ∈ t.mail)
      | .setting =>
        (t.pair u).phaseCount = (s.pair u).phaseCount + 1 ∧ t.seqs = s.seqs ∧ t.man = s.man ∧
        (s.pairSet u ≤ (s.pair u).phaseCount + 1 →
          (t.pair u).phase = .idle ∧ (t.pair u).served = .none ∧ Instr.pairSetComplete u ∈ t.mail)
      | .idle | .settle | .still => t = s.taken (.pairUpdate u)) ∧
    (∀ (j : Jack) (x : Int) (b : Bool),
      ∃ t, exec (.jackPositionReport u j x b) s = .next t ∧ (∀ v, v ≠ u → t.pair v = s.pair v) ∧
        TouchesOnlySeq { s with pairs := t.pairs } t u ∧ (t.pair u).latest = (s.pair u).latest.setJack j ⟨x, b⟩ ∧
        match (s.tier u).tilt with
        | none => t.pair u = { s.pair u with latest := (s.pair u).latest.setJack j ⟨x, b⟩ }
        | some g =>
          (t.pair u).skew =
            (if (t.pair u).latest.a.valid && (t.pair u).latest.b.valid then
               some ((t.pair u).latest.a.position - (t.pair u).latest.b.position)
             else none) ∧
          (t.pair u).stowed =
            decide (((t.pair u).latest.a.valid = true ∧
                (t.pair u).latest.a.position ≤ 256 * (g.stow : Int) + (s.axisRec ⟨u, .A⟩).window) ∧
              ((t.pair u).latest.b.valid = true ∧
                (t.pair u).latest.b.position ≤ 256 * (g.stow : Int) + (s.axisRec ⟨u, .B⟩).window)) ∧
          ((s.tier u).present = true → (t.pair u).stowed ≠ (s.pair u).toldStowed →
            (t.pair u).toldStowed = (t.pair u).stowed ∧ Instr.stowedChangeReport u (t.pair u).stowed ∈ t.mail) ∧
          ((s.tier u).present = true → (t.pair u).stowed = false → (s.pair u).toldStowed = true →
            (∀ k, (s.seq u).jog = some k → (s.seq u).slot = none →
              if k.target = .rotation then JogMeets (s.seq u) t u k .stowLost .aqs else t.seq u = told (s.seq u)) ∧
            (∀ a, (s.seq u).slot = some a →
              if a.move.goal.kind = .rotate ∧ s.auth.mode = .run ∧
                  (a.stage = .liftBrake ∨ a.stage = .travel ∨ a.stage = .settle) then
                t.seq u = told { s.seq u with
                  slot := some { a with fixedEnd := some (a.fixedEnd.getD (.aborted, .stop)) } } ∧
                Instr.causeReport ⟨.stowLost, some u, none, .move a.move.number, none, none, none⟩ ∈ t.mail
              else t.seq u = told (s.seq u))) ∧
          match (t.pair u).skew with
          | none =>
            (t.pair u).degrade = (s.pair u).degrade ∧ (t.pair u).markSkew = (s.pair u).markSkew ∧
            (t.pair u).markSevere = (s.pair u).markSevere
          | some k =>
            (t.pair u).degrade =
              (if (s.pair u).degrade then decide (g.skewWarn * 128 < k.natAbs)
               else decide (g.skewWarn * 256 ≤ k.natAbs)) ∧
            ((s.tier u).present = true → (t.pair u).degrade = true → (s.pair u).degrade = false →
              Instr.latchEvent (.tier u .degrade) ∈ t.mail) ∧
            ((s.tier u).present = true →
              (t.pair u).markSevere = decide (2 * g.skewTrip * 256 ≤ k.natAbs) ∧
              (t.pair u).markSkew =
                (if ((s.axis ⟨u, .A⟩).released || (s.axis ⟨u, .B⟩).released) && s.man.contactor then
                   decide (g.skewTrip * 256 ≤ k.natAbs)
                 else (s.pair u).markSkew) ∧
              ∀ c : Kind,
                (c = .skew ∧ (t.pair u).markSkew = true ∧ (s.pair u).markSkew = false ∨
                  c = .skewSevere ∧ (t.pair u).markSevere = true ∧ (s.pair u).markSevere = false) →
                Instr.causeReport ⟨c, some u, some (jackAxis u (if 0 < k then .A else .B)), (s.pair u).served,
                  if (s.pair u).phase = .travel ∨ (s.pair u).phase = .stopping then (s.pair u).demand else none,
                  some ((t.pair u).latest.jack (if 0 < k then .A else .B)).position, none⟩ ∈ t.mail))

/-! ### Load monitor -/

/-- The load bus and a tier's figures. A slot polls the next configured cell, or is spent on the recovery that is owed,
which costs that cell a miss (R125, R127). A poll's three bytes carry an 18-bit reading: a good one makes the cell FRESH
with no misses; a poll that is not acknowledged, one with the fault flag set, and a held bus each count a miss, which makes
a cell with a reading STALE and, from the fourth on, FAILED (R126 to R128). A poll whose cell is no longer configured is
discarded at its end, with no miss against any cell, though a held bus still makes a recovery owed (R127, R129). Each change of a
cell, the miss of a recovery among them, finds the tier's status, net load and occupied flag again (R130 to R133), a TARE takes
the present sum (R134), and a travelling move's net load above the overload threshold is an OVERLOAD cause (R135). What a slot
does while a transaction runs, a recovery with no cell configured, and the end of a transaction that does not run, is the
model's choice (notes/assumptions/29.md). -/
def Obligations.LoadIsPolledTaredAndWatched : Prop :=
  ∀ s : State, s.held = false →
    (s.mon.recoveryOwed = false →
      ∃ t, exec .pollSlot s = .next t ∧
        t = { s with
          mon :=
            match s.nextCell with
            | some c => { s.mon with pollAt := some c, transaction := .poll c.1 c.2 }
            | none => s.mon
          mail := s.mail.erase .pollSlot }) ∧
    (s.mon.recoveryOwed = true →
      ∃ t, exec .pollSlot s = .next t ∧ t.mon.transaction = .recovery ∧ t.mon.recoveryOwed = false ∧
        t = { s with mon := t.mon, arb := { s.arb with passRequested := t.arb.passRequested }, mail := t.mail } ∧
        (∀ c, s.nextCell = some c → t.mon.pollAt = some c ∧
          (t.loadOf c.1).cells = (s.loadOf c.1).cells.modify c.2 LoadCell.miss ∧
          (t.loadOf c.1).tare = (s.loadOf c.1).tare ∧ FoundAgain s t c.1 ∧
          ∀ v, v ≠ c.1 → t.loadOf v = s.loadOf v)) ∧
    (∀ stillLow : Bool, s.mon.transaction = .recovery →
      ∃ t, exec (.busRecoveryEnd stillLow) s = .next t ∧
        t = { s with
          mon := { s.mon with transaction := .idle, recoveryOwed := stillLow }
          mail := s.mail.erase (.busRecoveryEnd stillLow) }) ∧
    (∀ (u : Tier) (i : Nat) (old : LoadCell) (c : Instr) (new : LoadCell), s.mon.transaction = .poll u i →
      (s.loadOf u).cells[i]? = some old →
      (c = .busHeldLow ∧ new = old.miss ∨ c = .pollEnd .noAck ∧ new = old.miss ∨
        (∃ b1 b2 b3 : Byte, c = .pollEnd (.data b1 b2 b3) ∧ b3.getLsbD 0 = true ∧ new = old.miss) ∨
        (∃ b1 b2 b3 : Byte, c = .pollEnd (.data b1 b2 b3) ∧ b3.getLsbD 0 = false ∧
          new = ⟨some ((((b1.toNat * 1024 + b2.toNat * 4 + b3.toNat / 64 : Nat) : Int) -
            if 128 ≤ b1.toNat then 262144 else 0)), b3.getLsbD 1, 0, .fresh⟩)) →
      ∃ t, exec c s = .next t ∧ (t.loadOf u).cells = (s.loadOf u).cells.set i new ∧
        t.mon.transaction = .idle ∧ t.mon.recoveryOwed = (s.mon.recoveryOwed || decide (c = .busHeldLow)) ∧
        (∀ v, v ≠ u → t.loadOf v = s.loadOf v) ∧ (t.loadOf u).tare = (s.loadOf u).tare ∧
        FoundAgain s t u ∧
        t = { s with mon := t.mon, arb := { s.arb with passRequested := t.arb.passRequested }, mail := t.mail }) ∧
    (s.mon.transaction = .lost →
      (∀ r : PollResult, exec (.pollEnd r) s =
        .next { s with mon := { s.mon with transaction := .idle }, mail := s.mail.erase (.pollEnd r) }) ∧
      exec .busHeldLow s =
        .next { s with mon := { s.mon with transaction := .idle, recoveryOwed := true }, mail := s.mail.erase .busHeldLow }) ∧
    (s.mon.transaction = .idle ∨ s.mon.transaction = .recovery →
      ∀ c : Instr, (c = .busHeldLow ∨ ∃ r, c = .pollEnd r) → exec c s = .next (s.taken c)) ∧
    (s.mon.transaction ≠ .recovery →
      ∀ stillLow : Bool, exec (.busRecoveryEnd stillLow) s = .next (s.taken (.busRecoveryEnd stillLow))) ∧
    (∀ old : LoadCell,
      old.miss = { old with
        misses := min 255 (old.misses + 1), saturated := old.reading.isSome && old.saturated
        state := if old.reading.isSome = true ∧ old.misses < 3 then .stale else .failed }) ∧
    (∀ (u : Tier) (mark : Option Nat),
      ∃ t, exec (.travelMarkReport u mark) s = .next t ∧ (t.loadOf u).inTravel = mark ∧
        (∀ v, v ≠ u → t.loadOf v = s.loadOf v) ∧ t = { s with mon := t.mon, mail := t.mail } ∧
        (∀ n, mark = some n → (t.loadOf u).overMark = decide (((s.tier u).overload : Int) < (s.loadOf u).net) ∧
          (((s.tier u).overload : Int) < (s.loadOf u).net →
            Instr.causeReport ⟨.overload, some u, none, .move n, none, none, some (s.loadOf u).net⟩ ∈ t.mail))) ∧
    (∀ (q : Src) (u : Tier), s.auth.mode = .setup → s.auth.holder = some q.port → s.tierBusy u = false →
      (s.loadOf u).valid = true →
      ∃ t, exec (.tare q (Idx8.num u)) s = .next t ∧
        (t.loadOf u).tare = ((s.loadOf u).cells.map fun x => x.reading.getD 0).sum ∧
        (t.loadOf u).cells = (s.loadOf u).cells ∧
        (t.loadOf u).net = ((s.loadOf u).cells.map fun x => x.reading.getD 0).sum - (t.loadOf u).tare ∧
        FoundAgain s t u ∧ (∀ v, v ≠ u → t.loadOf v = s.loadOf v) ∧
        Replied s t q 0x2E .ok (beSigned 4 (t.loadOf u).tare ++
          beBytes 1 ((s.loadOf u).cells.filter fun x => x.state == .stale).length) ∧
        t = { s with
          mon := t.mon, arb := { s.arb with passRequested := t.arb.passRequested }, ports := t.ports, mail := t.mail })

/-! ### Plans -/

/-- The plan requests of the holder. PLAN_WRITE of 1 to 24 sound steps, and PLAN_CLEAR, replace the named plan, unless it
is the one that runs, which is BUSY; a plan number outside 1 to 8, no steps, more than 24, or a step with a code or number outside
its list is BAD_VALUE (R138). PLAN_START is refused MODE in SETUP, BAD_VALUE for a plan number outside 1 to 8, STOPPED outside
CLEAR, BUSY while a plan runs, NOT_FOUND for an empty plan, and BAD_VALUE with the number of the first step that names no present
tier, no taught station or no tilt group, in this order (R140). PLAN_START, in RUN and CLEAR with no plan running, of a plan whose steps all
name present tiers, taught stations and tiers with a tilt group, sets the context RUNNING, submits step 1 and each PARALLEL
step behind it without a gap, in step order and as far as the pending list has room, and raises PLAN (R140 to R142); a first
step whose tier is inhibited makes the plan FAILED at once (R142, R144). PLAN_ABORT of a running or held plan ends it ABORTED,
with a step in WAITING_ROOM NOT_SUBMITTED again and every other step as it was, and
admission ends each of its pending moves CANCELLED with reason PLAN_ENDED, oldest first, and leaves every other; its reply has
the plan number and the state ABORTED. With none running it answers the state as it stands alone (R145). -/
def Obligations.PlansAreStoredStartedAndAborted : Prop :=
  ∀ (q : Src) (p : PlanNo) (s : State), s.held = false → s.auth.holder = some q.port →
    (s.plans.running = true ↔ s.plans.state = .running ∨ s.plans.state = .held) ∧
    (∀ (n : Nat) (raw : List RawStep),
      n = 0 ∨ 8 < n ∨ raw = [] ∨ 24 < raw.length ∨ (∃ x ∈ raw, ∀ y, x ≠ rawStep y) →
      ∃ t, exec (.planWrite q n raw) s = .next t ∧ OnlyPorts s t ∧
        Answered s t (.planWrite q n raw) q 0x30 .badValue [] []) ∧
    (∀ n : Nat, n = 0 ∨ 8 < n →
      (∃ t, exec (.planClear q n) s = .next t ∧ OnlyPorts s t ∧ Answered s t (.planClear q n) q 0x31 .badValue [] []) ∧
      (s.auth.mode = .run →
        ∃ t, exec (.planStart q n) s = .next t ∧ OnlyPorts s t ∧ Answered s t (.planStart q n) q 0x32 .badValue [] [])) ∧
    (∀ (st : Status) (body : List Byte),
      (s.auth.mode = .setup ∧ st = .mode ∧ body = [] ∨
        s.auth.mode = .run ∧ s.man.state ≠ .clear ∧ st = .stopped ∧ body = [] ∨
        s.auth.mode = .run ∧ s.man.state = .clear ∧ s.plans.running = true ∧ st = .busy ∧ body = [] ∨
        s.auth.mode = .run ∧ s.man.state = .clear ∧ s.plans.running = false ∧ s.plans.store.get p = [] ∧ st = .notFound ∧
          body = [] ∨
        s.auth.mode = .run ∧ s.man.state = .clear ∧ s.plans.running = false ∧ st = .badValue ∧
          ∃ i x, (s.plans.store.get p)[i]? = some x ∧ ¬StepNamed s x ∧
            (∀ j < i, ∀ y, (s.plans.store.get p)[j]? = some y → StepNamed s y) ∧ body = beBytes 1 (i + 1)) →
      ∃ t, exec (.planStart q (Idx8.num p)) s = .next t ∧ OnlyPorts s t ∧
        Answered s t (.planStart q (Idx8.num p)) q 0x32 st body []) ∧
    (∀ (raw : List RawStep) (l : List PlanStep), raw = l.map rawStep → l ≠ [] → l.length ≤ 24 →
      ∃ t, exec (.planWrite q (Idx8.num p) raw) s = .next t ∧
        if s.plans.running = true ∧ s.plans.plan = some p then
          OnlyPorts s t ∧ Answered s t (.planWrite q (Idx8.num p) raw) q 0x30 .busy [] []
        else
          t = { s with plans := { s.plans with store := s.plans.store.set p l }, ports := t.ports, mail := t.mail } ∧
          Answered s t (.planWrite q (Idx8.num p) raw) q 0x30 .ok
            (beBytes 1 (Idx8.num p) ++ beBytes 1 l.length) []) ∧
    (∃ t, exec (.planClear q (Idx8.num p)) s = .next t ∧
      if s.plans.running = true ∧ s.plans.plan = some p then
        OnlyPorts s t ∧ Answered s t (.planClear q (Idx8.num p)) q 0x31 .busy [] []
      else
        t = { s with plans := { s.plans with store := s.plans.store.set p [] }, ports := t.ports, mail := t.mail } ∧
        Answered s t (.planClear q (Idx8.num p)) q 0x31 .ok [] []) ∧
    (∀ l : List PlanStep, s.auth.mode = .run → s.man.state = .clear → s.plans.running = false →
      s.plans.store.get p = l → l ≠ [] → l.length ≤ 24 →
      (∀ x ∈ l, StepNamed s x) →
      (RunSound s l 1 →
        ∃ t, exec (.planStart q (Idx8.num p)) s = .next t ∧
          t.plans = { s.plans with
            plan := some p, state := .running, next := t.plans.next, steps := t.plans.steps
            failing := none, reason := none } ∧
          StepsSubmitted s t p l (l.map fun _ => ⟨.notSubmitted, false⟩) 1 ∧
          Replied s t q 0x32 .ok (beBytes 1 (Idx8.num p) ++ beBytes 1 l.length) ∧
          Instr.latchEvent (.plan p .running .plain) ∈ t.mail ∧
          t = { s with
            plans := t.plans, adm := t.adm
            arb := { s.arb with armed := t.arb.armed, passRequested := t.arb.passRequested }, ports := t.ports
            mail := t.mail }) ∧
      (∀ x rest, l = x :: rest → (s.seq x.tier).inhibit.isSome = true →
        ∃ t, exec (.planStart q (Idx8.num p)) s = .next t ∧
          t.plans = { s.plans with
            plan := some p, state := .failed, next := none, failing := some 1, reason := some (.refused .interlock)
            steps := ⟨.endedBad none, false⟩ :: rest.map fun _ => ⟨.notSubmitted, false⟩ } ∧
          Replied s t q 0x32 .ok (beBytes 1 (Idx8.num p) ++ beBytes 1 l.length) ∧
          Instr.latchEvent (.plan p .failed (.failed 1 (.refused .interlock))) ∈ t.mail ∧
          t = { s with plans := t.plans, ports := t.ports, mail := t.mail })) ∧
    (∃ t, exec (.planAbort q) s = .next t ∧
      if s.plans.running then
        PlanEnded s.plans t.plans s.plans.steps .aborted none (.aborted .operator) ∧
        PlanMovesCancelled s t ∧
        Replied s t q 0x33 .ok [BitVec.ofNat 8 (numOr0 s.plans.plan), planCode .aborted] ∧
        (∀ p', s.plans.plan = some p' →
          Instr.latchEvent (.plan p' .aborted (.aborted (.aborted .operator))) ∈ t.mail) ∧
        t = { s with
          plans := t.plans, adm := t.adm
          arb := { s.arb with armed := t.arb.armed, passRequested := t.arb.passRequested }, ports := t.ports
          mail := t.mail }
      else OnlyPorts s t ∧
        Answered s t (.planAbort q) q 0x33 .ok [planCode s.plans.state] [])

/-- What the plan executor takes from its neighbours. The end of a move that no step matches changes nothing; one that
is DONE makes its step done, and the last makes the plan DONE; in a RUNNING plan it submits the next step when that step's
start condition is met by then, also one in WAITING_ROOM, and each PARALLEL step behind it, in step order (R141, R142), and no
step otherwise. In an end state the end of either kind is recorded alone (R143). One that
is not DONE makes the step ended, fails a running plan with that end, its pending moves ended CANCELLED with reason PLAN_ENDED,
oldest first, or aborts it when a stop made the end; so does a step whose submission is refused INTERLOCK, its tier
inhibited since the start (R142); a step in WAITING_ROOM is NOT_SUBMITTED again then, and every other step
as it was (R143, R144, R147). A freed entry tries a waiting step again, with the steps behind it, and otherwise changes nothing (R142). Holds and
resumes move the plan between RUNNING and HELD, and a resume submits the step that waits, or whose condition is met, in the
same way (R142, R146); a stop aborts it with the stop's reason (R147); each change raises PLAN (R148). -/
def Obligations.PlansFollowEndsAndOrders : Prop :=
  ∀ s : State, s.held = false →
    (s.plans.running = true ↔ s.plans.state = .running ∨ s.plans.state = .held) ∧
    (∀ (n : Nat) (o : MoveOutcome) (r : Reason),
      ((∀ x ∈ s.plans.steps, x.status ≠ .submitted n) → exec (.stepEnd n o r) s = .next (s.taken (.stepEnd n o r))) ∧
      (∀ (i : Nat) (adj : Bool), s.plans.steps[i]? = some ⟨.submitted n, adj⟩ →
        (∀ j < i, (s.plans.steps[j]?).map (·.status) ≠ some (.submitted n)) →
        ∃ t, exec (.stepEnd n o r) s = .next t ∧
          (o = .done → s.plans.running = true →
            (∀ j x, s.plans.steps[j]? = some x → j ≠ i → x.status = .done) →
            t.plans = { s.plans with state := .done, steps := s.plans.steps.set i ⟨.done, adj⟩ } ∧
            t = { s with plans := t.plans, mail := t.mail } ∧
            ∀ p, s.plans.plan = some p → Instr.latchEvent (.plan p .done .plain) ∈ t.mail) ∧
          (∀ (p : PlanNo) (l : List PlanStep) (k : Nat) (x : PlanStep), o = .done → s.plans.state = .running →
            PlanRuns s p l → s.plans.next = some k → 1 ≤ k → l[k - 1]? = some x →
            (s.plans.steps[k - 1]?).map (·.status) = some .notSubmitted ∨
              (s.plans.steps[k - 1]?).map (·.status) = some .waitingRoom →
            CondMet x (s.plans.steps.set i ⟨.done, adj⟩) k → StepNamed s x → (s.seq x.tier).inhibit ≠ none →
            StepRefused s t p (s.plans.steps.set i ⟨.done, adj⟩) k) ∧
          (∀ (p : PlanNo) (l : List PlanStep) (k : Nat) (x : PlanStep), o = .done → s.plans.state = .running →
            PlanRuns s p l → s.plans.next = some k → 1 ≤ k → l[k - 1]? = some x →
            (s.plans.steps[k - 1]?).map (·.status) = some .notSubmitted ∨
              (s.plans.steps[k - 1]?).map (·.status) = some .waitingRoom →
            CondMet x (s.plans.steps.set i ⟨.done, adj⟩) k → RunSound s l k →
            StepsSubmitted s t p l (s.plans.steps.set i ⟨.done, adj⟩) k ∧
            t.plans = { s.plans with next := t.plans.next, steps := t.plans.steps } ∧
            t = { s with
              plans := t.plans, adm := t.adm
              arb := { s.arb with armed := t.arb.armed, passRequested := t.arb.passRequested }, mail := t.mail }) ∧
          (o = .done → s.plans.running = true →
            (∃ (j : Nat) (y : StepRun), s.plans.steps[j]? = some y ∧ j ≠ i ∧ y.status ≠ .done) →
            (s.plans.state = .held ∨ s.plans.next = none ∨
              ∃ p l k x, PlanRuns s p l ∧ s.plans.next = some k ∧ 1 ≤ k ∧ l[k - 1]? = some x ∧
                ¬ CondMet x (s.plans.steps.set i ⟨.done, adj⟩) k) →
            t = { s with
              plans := { s.plans with steps := s.plans.steps.set i ⟨.done, adj⟩ }
              mail := s.mail.erase (.stepEnd n o r) }) ∧
          (o = .done → s.plans.running = false →
            t = { s with
              plans := { s.plans with steps := s.plans.steps.set i ⟨.done, adj⟩ }
              mail := s.mail.erase (.stepEnd n o r) }) ∧
          (o ≠ .done → s.plans.running = false →
            t = { s with
              plans := { s.plans with steps := s.plans.steps.set i ⟨.endedBad (some n), adj⟩ }
              mail := s.mail.erase (.stepEnd n o r) }) ∧
          (o ≠ .done → s.plans.running = true →
            if (o = .cancelled ∨ o = .aborted) ∧ (r = .stop ∨ r = .trip) then
              PlanEnded s.plans t.plans (s.plans.steps.set i ⟨.endedBad (some n), adj⟩) .aborted none (.aborted r) ∧
              (∀ p, s.plans.plan = some p → Instr.latchEvent (.plan p .aborted (.aborted (.aborted r))) ∈ t.mail) ∧
              t = { s with plans := t.plans, mail := t.mail }
            else
              PlanEnded s.plans t.plans (s.plans.steps.set i ⟨.endedBad (some n), adj⟩) .failed (some (i + 1))
                (.moveEnd o r) ∧
              PlanMovesCancelled s t ∧
              (∀ p, s.plans.plan = some p →
                Instr.latchEvent (.plan p .failed (.failed (i + 1) (.moveEnd o r))) ∈ t.mail) ∧
              t = { s with
                plans := t.plans, adm := t.adm
                arb := { s.arb with armed := t.arb.armed, passRequested := t.arb.passRequested }, mail := t.mail }))) ∧
    ((∀ k, s.plans.next = some k → s.plans.status k ≠ some .waitingRoom) →
      exec .freedEntry s = .next (s.taken .freedEntry)) ∧
    (∀ k, s.plans.next = some k → s.plans.status k = some .waitingRoom → s.plans.state ≠ .running →
      exec .freedEntry s = .next (s.taken .freedEntry)) ∧
    (∀ (p : PlanNo) (l : List PlanStep) (k : Nat) (x : PlanStep), s.plans.state = .running → PlanRuns s p l →
      s.plans.next = some k → 1 ≤ k → l[k - 1]? = some x → (s.plans.steps[k - 1]?).map (·.status) = some .waitingRoom →
      StepNamed s x → (s.seq x.tier).inhibit ≠ none →
      ∃ t, exec .freedEntry s = .next t ∧ StepRefused s t p s.plans.steps k) ∧
    (∀ (p : PlanNo) (l : List PlanStep) (k : Nat), s.plans.state = .running → PlanRuns s p l → s.plans.next = some k →
      1 ≤ k → (s.plans.steps[k - 1]?).map (·.status) = some .waitingRoom → RunSound s l k →
      ∃ t, exec .freedEntry s = .next t ∧ StepsSubmitted s t p l s.plans.steps k ∧
        t.plans = { s.plans with next := t.plans.next, steps := t.plans.steps } ∧
        t = { s with
          plans := t.plans, adm := t.adm
          arb := { s.arb with armed := t.arb.armed, passRequested := t.arb.passRequested }, mail := t.mail }) ∧
    (∃ t, exec .planHoldOrder s = .next t ∧
      if s.plans.state = .running then
        t = { s with plans := { s.plans with state := .held }, mail := t.mail } ∧
        ∀ p, s.plans.plan = some p → Instr.latchEvent (.plan p .held .plain) ∈ t.mail
      else t = s.taken .planHoldOrder) ∧
    (s.plans.state ≠ .held → exec .planResumeOrder s = .next (s.taken .planResumeOrder)) ∧
    (s.plans.state = .held → s.plans.next = none →
      ∃ t, exec .planResumeOrder s = .next t ∧
        t = { s with plans := { s.plans with state := .running }, mail := t.mail } ∧
        ∀ p, s.plans.plan = some p → Instr.latchEvent (.plan p .running .plain) ∈ t.mail) ∧
    (∀ (p : PlanNo) (l : List PlanStep) (k : Nat) (x : PlanStep), s.plans.state = .held → PlanRuns s p l →
      s.plans.next = some k → 1 ≤ k → l[k - 1]? = some x →
      (∀ st, (s.plans.steps[k - 1]?).map (·.status) = some st → (st = .waitingRoom ∨ st = .notSubmitted) →
        (st = .waitingRoom ∨ CondMet x s.plans.steps k → StepNamed s x → (s.seq x.tier).inhibit ≠ none →
          ∃ t, exec .planResumeOrder s = .next t ∧ StepRefused s t p s.plans.steps k ∧
            Instr.latchEvent (.plan p .running .plain) ∈ t.mail) ∧
        (st = .waitingRoom ∨ CondMet x s.plans.steps k → RunSound s l k →
          ∃ t, exec .planResumeOrder s = .next t ∧ StepsSubmitted s t p l s.plans.steps k ∧
            t.plans = { s.plans with state := .running, next := t.plans.next, steps := t.plans.steps } ∧
            Instr.latchEvent (.plan p .running .plain) ∈ t.mail ∧
            t = { s with
              plans := t.plans, adm := t.adm
              arb := { s.arb with armed := t.arb.armed, passRequested := t.arb.passRequested }, mail := t.mail }) ∧
        (st = .notSubmitted → ¬ CondMet x s.plans.steps k →
          ∃ t, exec .planResumeOrder s = .next t ∧
            t = { s with plans := { s.plans with state := .running }, mail := t.mail } ∧
            Instr.latchEvent (.plan p .running .plain) ∈ t.mail))) ∧
    ∀ r : Reason, ∃ t, exec (.planStopOrder r) s = .next t ∧
      if s.plans.running then
        PlanEnded s.plans t.plans s.plans.steps .aborted none (.aborted r) ∧
        t = { s with plans := t.plans, mail := t.mail } ∧
        ∀ p, s.plans.plan = some p → Instr.latchEvent (.plan p .aborted (.aborted (.aborted r))) ∈ t.mail
      else t = s.taken (.planStopOrder r)

/-! ### Profile arithmetic -/

/-- The braking distance D(x) = n·x − a·n·(n + 1)/2, with n = x ÷ a rounded down, is exactly the distance covered by the
steps x − a, x − 2a and so on down to the last above 0: it is 0 for x below a and (x − a) + D(x − a) from a on, and at most
8 382 465 for a velocity of up to 4 095, which x = 4 095 and a = 1 reach; so it fits within the remaining distance's range,
0 to 9 216 000 (R97). -/
def Obligations.BrakingDistanceIsTheSumOfItsSteps : Prop :=
  ∀ a x : Nat, 1 ≤ a →
    brakeDist a x = (x / a) * x - a * (x / a) * (x / a + 1) / 2 ∧
    brakeDist a x = ((List.range (x / a)).map fun i => x - (i + 1) * a).sum ∧
    (x < a → brakeDist a x = 0) ∧ (a ≤ x → brakeDist a x = (x - a) + brakeDist a (x - a)) ∧
    (x ≤ 4095 → brakeDist a x ≤ 8382465 ∧ brakeDist a x ≤ 9216000) ∧ brakeDist 1 4095 = 8382465

/-- A profile that can come to rest within its remaining distance can do so after every profile step, whatever the caps of
its steps; each step shortens a remaining distance, never passes the target, and keeps the velocity at or below the larger
of the old velocity and the cap, so that the target is reached exactly, at velocity 0, in no more steps than the distance
(R98). A stop step lowers the velocity by its deceleration and comes to rest, never past the target (R99). -/
def Obligations.ProfilesReachTheirTargetsAndStops : Prop :=
  (∀ (a cap : Nat) (d : Dir) (m : Motion), 1 ≤ a → 1 ≤ cap → CanStop a m.v m.r →
    CanStop a (profileStep a cap d m).v (profileStep a cap d m).r ∧
    (0 < m.r → (profileStep a cap d m).r < m.r) ∧ (profileStep a cap d m).v ≤ max m.v cap ∧
    (profileStep a cap d m).demand = moved d m.demand (m.r - (profileStep a cap d m).r) ∧
    ((profileStep a cap d m).r = 0 → (profileStep a cap d m).v = 0)) ∧
  (∀ (a cap : Nat) (d : Dir) (m : Motion), 1 ≤ a → 1 ≤ cap → CanStop a m.v m.r → 0 < m.r →
    (profileStep a cap d)^[m.r] m = ⟨moved d m.demand m.r, 0, 0⟩) ∧
  (∀ (decel : Nat) (d : Dir) (m : Motion), 1 ≤ decel →
    (stopStep decel d m).v ≤ m.v - decel ∧ (stopStep decel d m).r ≤ m.r ∧
    (stopStep decel d m).demand = moved d m.demand (m.r - (stopStep decel d m).r) ∧
    ((stopStep decel d)^[m.v] m).v = 0)

/-! ### Invariants -/

/-- The state after reset keeps every invariant: floor, power, drives, stops, jogs, lists and ATTN. -/
def Obligations.ResetIsSafe : Prop :=
  FloorSafe State.reset ∧ PowerSafe State.reset ∧ DriveSafe State.reset ∧ StopSafe State.reset ∧
    MotionSafe State.reset ∧ ListsSafe State.reset ∧ AttnSafe State.reset

/-- Every step of the part keeps the floor safe, no cell owned by two tiers and every cell FREE in SETUP; keeps the
committed power within the capacity and the demand of every tier without an active move at 0; and keeps SETUP free of
moves, RUN free of jogs and the hall to one jog (R40, R43, R47, R48, R62, R84, R167, R170). -/
def Obligations.EveryStepKeepsFloorPowerAndMotion : Prop :=
  ∀ s t : State, step s = .next t →
    (FloorSafe s → FloorSafe t) ∧ (PowerSafe s → PowerSafe t) ∧ (MotionSafe s → MotionSafe t)

/-- Every step of the part keeps every speed reference in its range and at 0 under an applied brake or an open contactor
(R101), the contactor open exactly in TRIPPED (R151), the first-fault record absent exactly in CLEAR, HOLDING and HELD
(R162), the lists, queues and the further-fault count within their capacities (R22, R36, R150, R183, R192), and each ATTN
line true to the latched set and its port's enable set, with the latch empty while RESET_N is low (R194). -/
def Obligations.EveryStepKeepsDrivesStopsListsAndAttn : Prop :=
  ∀ s t : State, step s = .next t →
    (DriveSafe s → DriveSafe t) ∧ (StopSafe s → StopSafe t) ∧ (ListsSafe s → ListsSafe t) ∧ (AttnSafe s → AttnSafe t)
end

