-- ==== Sys2Proof/Laws/State.lean ====
section
/-! SUPPORT. What each named change of one block leaves of every field and every reader of the state: one lemma for each,
so that no later proof unfolds a record update. -/

namespace Sys2Proof.Machine

open Sys2Proof

/-! ### One of eight, of three, of two -/

theorem Eight.get_set {α : Type} (v : Eight α) (i j : Idx8) (x : α) : (v.set i x).get j = if j = i then x else v.get j := by
  cases i <;> cases j <;> rfl

@[simp] theorem Eight.get_set_self {α : Type} (v : Eight α) (i : Idx8) (x : α) : (v.set i x).get i = x := by
  cases i <;> rfl

@[simp] theorem Eight.get_fill {α : Type} (x : α) (i : Idx8) : (Eight.fill x).get i = x := by cases i <;> rfl

@[simp] theorem Eight.get_mapIdx {α β : Type} (f : Idx8 → α → β) (v : Eight α) (i : Idx8) :
    (v.mapIdx f).get i = f i (v.get i) := by cases i <;> rfl

theorem Eight.ext_get {α : Type} {v w : Eight α} (h : ∀ i, v.get i = w.get i) : v = w := by
  obtain ⟨⟩ := v; obtain ⟨⟩ := w
  simp only [Eight.mk.injEq]
  exact ⟨h .n1, h .n2, h .n3, h .n4, h .n5, h .n6, h .n7, h .n8⟩

@[simp] theorem Eight.set_get {α : Type} (v : Eight α) (i : Idx8) : v.set i (v.get i) = v := by cases i <;> rfl

@[simp] theorem Eight.set_set {α : Type} (v : Eight α) (i : Idx8) (x y : α) : (v.set i x).set i y = v.set i y := by
  cases i <;> rfl

theorem Idx8.mem_all (i : Idx8) : i ∈ Idx8.all := by cases i <;> simp [Idx8.all]

theorem Eight.all_iff {α : Type} (f : α → Bool) (v : Eight α) : v.all f = true ↔ ∀ i, f (v.get i) = true := by
  simp [Eight.all, Idx8.mem_all]

theorem Axes.get_set {α : Type} (v : Axes α) (i j : Role) (x : α) : (v.set i x).get j = if j = i then x else v.get j := by
  cases i <;> cases j <;> rfl

@[simp] theorem Axes.get_set_self {α : Type} (v : Axes α) (i : Role) (x : α) : (v.set i x).get i = x := by
  cases i <;> rfl

@[simp] theorem Axes.get_map {α β : Type} (f : α → β) (v : Axes α) (i : Role) : (v.map f).get i = f (v.get i) := by
  cases i <;> rfl

@[simp] theorem Axes.set_get {α : Type} (v : Axes α) (i : Role) : v.set i (v.get i) = v := by cases i <;> rfl

theorem Both.port_setPort {α : Type} (v : Both α) (p q : Port) (x : α) :
    (v.setPort p x).port q = if q = p then x else v.port q := by cases p <;> cases q <;> rfl

@[simp] theorem Both.port_setPort_self {α : Type} (v : Both α) (p : Port) (x : α) : (v.setPort p x).port p = x := by
  cases p <;> rfl

@[simp] theorem Both.setPort_setPort {α : Type} (v : Both α) (p : Port) (x y : α) :
    (v.setPort p x).setPort p y = v.setPort p y := by cases p <;> rfl

@[simp] theorem Both.setPort_port {α : Type} (v : Both α) (p : Port) : v.setPort p (v.port p) = v := by cases p <;> rfl

theorem Both.jack_setJack {α : Type} (v : Both α) (j k : Jack) (x : α) :
    (v.setJack j x).jack k = if k = j then x else v.jack k := by cases j <;> cases k <;> rfl

/-! ### `modSeq` -/

@[simp] theorem State.modSeq_tables (s : State) (t : Tier) (f : Seq → Seq) : (s.modSeq t f).tables = s.tables := rfl
@[simp] theorem State.modSeq_adm (s : State) (t : Tier) (f : Seq → Seq) : (s.modSeq t f).adm = s.adm := rfl
@[simp] theorem State.modSeq_arb (s : State) (t : Tier) (f : Seq → Seq) : (s.modSeq t f).arb = s.arb := rfl
@[simp] theorem State.modSeq_seqs (s : State) (t : Tier) (f : Seq → Seq) : (s.modSeq t f).seqs = s.seqs.set t (f (s.seq t)) := rfl
@[simp] theorem State.modSeq_axes (s : State) (t : Tier) (f : Seq → Seq) : (s.modSeq t f).axes = s.axes := rfl
@[simp] theorem State.modSeq_pairs (s : State) (t : Tier) (f : Seq → Seq) : (s.modSeq t f).pairs = s.pairs := rfl
@[simp] theorem State.modSeq_mon (s : State) (t : Tier) (f : Seq → Seq) : (s.modSeq t f).mon = s.mon := rfl
@[simp] theorem State.modSeq_plans (s : State) (t : Tier) (f : Seq → Seq) : (s.modSeq t f).plans = s.plans := rfl
@[simp] theorem State.modSeq_man (s : State) (t : Tier) (f : Seq → Seq) : (s.modSeq t f).man = s.man := rfl
@[simp] theorem State.modSeq_auth (s : State) (t : Tier) (f : Seq → Seq) : (s.modSeq t f).auth = s.auth := rfl
@[simp] theorem State.modSeq_latched (s : State) (t : Tier) (f : Seq → Seq) : (s.modSeq t f).latched = s.latched := rfl
@[simp] theorem State.modSeq_ports (s : State) (t : Tier) (f : Seq → Seq) : (s.modSeq t f).ports = s.ports := rfl
@[simp] theorem State.modSeq_clock (s : State) (t : Tier) (f : Seq → Seq) : (s.modSeq t f).clock = s.clock := rfl
@[simp] theorem State.modSeq_held (s : State) (t : Tier) (f : Seq → Seq) : (s.modSeq t f).held = s.held := rfl
@[simp] theorem State.modSeq_mail (s : State) (t : Tier) (f : Seq → Seq) : (s.modSeq t f).mail = s.mail := rfl
@[simp] theorem State.modSeq_pending (s : State) (t : Tier) (f : Seq → Seq) : (s.modSeq t f).pending = s.pending := rfl
@[simp] theorem State.modSeq_tier (s : State) (t : Tier) (f : Seq → Seq) (u : Tier) : (s.modSeq t f).tier u = s.tier u := rfl
@[simp] theorem State.modSeq_axisRec (s : State) (t : Tier) (f : Seq → Seq) (b : Axis) : (s.modSeq t f).axisRec b = s.axisRec b := rfl
@[simp] theorem State.modSeq_bandCells (s : State) (t : Tier) (f : Seq → Seq) (u : Tier) (b : Nat) : (s.modSeq t f).bandCells u b = s.bandCells u b := rfl
@[simp] theorem State.modSeq_stationAngle (s : State) (t : Tier) (f : Seq → Seq) (u : Tier) (n : Station) : (s.modSeq t f).stationAngle u n = s.stationAngle u n := rfl
@[simp] theorem State.modSeq_holding (s : State) (t : Tier) (f : Seq → Seq) (u : Tier) : (s.modSeq t f).holding u = s.holding u := rfl
@[simp] theorem State.modSeq_seq (s : State) (t : Tier) (f : Seq → Seq) (u : Tier) :
    (s.modSeq t f).seq u = if u = t then f (s.seq t) else s.seq u := Eight.get_set ..
@[simp] theorem State.modSeq_axis (s : State) (t : Tier) (f : Seq → Seq) (b : Axis) : (s.modSeq t f).axis b = s.axis b := rfl
@[simp] theorem State.modSeq_pair (s : State) (t : Tier) (f : Seq → Seq) (u : Tier) : (s.modSeq t f).pair u = s.pair u := rfl
@[simp] theorem State.modSeq_loadOf (s : State) (t : Tier) (f : Seq → Seq) (u : Tier) : (s.modSeq t f).loadOf u = s.loadOf u := rfl
@[simp] theorem State.modSeq_port (s : State) (t : Tier) (f : Seq → Seq) (q : Port) : (s.modSeq t f).port q = s.port q := rfl

/-! ### `modAxis` -/

@[simp] theorem State.modAxis_tables (s : State) (a : Axis) (f : AxisCtl → AxisCtl) : (s.modAxis a f).tables = s.tables := rfl
@[simp] theorem State.modAxis_adm (s : State) (a : Axis) (f : AxisCtl → AxisCtl) : (s.modAxis a f).adm = s.adm := rfl
@[simp] theorem State.modAxis_arb (s : State) (a : Axis) (f : AxisCtl → AxisCtl) : (s.modAxis a f).arb = s.arb := rfl
@[simp] theorem State.modAxis_seqs (s : State) (a : Axis) (f : AxisCtl → AxisCtl) : (s.modAxis a f).seqs = s.seqs := rfl
@[simp] theorem State.modAxis_axes (s : State) (a : Axis) (f : AxisCtl → AxisCtl) : (s.modAxis a f).axes = s.axes.set a.tier ((s.axes.get a.tier).set a.role (f (s.axis a))) := rfl
@[simp] theorem State.modAxis_pairs (s : State) (a : Axis) (f : AxisCtl → AxisCtl) : (s.modAxis a f).pairs = s.pairs := rfl
@[simp] theorem State.modAxis_mon (s : State) (a : Axis) (f : AxisCtl → AxisCtl) : (s.modAxis a f).mon = s.mon := rfl
@[simp] theorem State.modAxis_plans (s : State) (a : Axis) (f : AxisCtl → AxisCtl) : (s.modAxis a f).plans = s.plans := rfl
@[simp] theorem State.modAxis_man (s : State) (a : Axis) (f : AxisCtl → AxisCtl) : (s.modAxis a f).man = s.man := rfl
@[simp] theorem State.modAxis_auth (s : State) (a : Axis) (f : AxisCtl → AxisCtl) : (s.modAxis a f).auth = s.auth := rfl
@[simp] theorem State.modAxis_latched (s : State) (a : Axis) (f : AxisCtl → AxisCtl) : (s.modAxis a f).latched = s.latched := rfl
@[simp] theorem State.modAxis_ports (s : State) (a : Axis) (f : AxisCtl → AxisCtl) : (s.modAxis a f).ports = s.ports := rfl
@[simp] theorem State.modAxis_clock (s : State) (a : Axis) (f : AxisCtl → AxisCtl) : (s.modAxis a f).clock = s.clock := rfl
@[simp] theorem State.modAxis_held (s : State) (a : Axis) (f : AxisCtl → AxisCtl) : (s.modAxis a f).held = s.held := rfl
@[simp] theorem State.modAxis_mail (s : State) (a : Axis) (f : AxisCtl → AxisCtl) : (s.modAxis a f).mail = s.mail := rfl
@[simp] theorem State.modAxis_pending (s : State) (a : Axis) (f : AxisCtl → AxisCtl) : (s.modAxis a f).pending = s.pending := rfl
@[simp] theorem State.modAxis_tier (s : State) (a : Axis) (f : AxisCtl → AxisCtl) (u : Tier) : (s.modAxis a f).tier u = s.tier u := rfl
@[simp] theorem State.modAxis_axisRec (s : State) (a : Axis) (f : AxisCtl → AxisCtl) (b : Axis) : (s.modAxis a f).axisRec b = s.axisRec b := rfl
@[simp] theorem State.modAxis_bandCells (s : State) (a : Axis) (f : AxisCtl → AxisCtl) (u : Tier) (b : Nat) : (s.modAxis a f).bandCells u b = s.bandCells u b := rfl
@[simp] theorem State.modAxis_stationAngle (s : State) (a : Axis) (f : AxisCtl → AxisCtl) (u : Tier) (n : Station) : (s.modAxis a f).stationAngle u n = s.stationAngle u n := rfl
@[simp] theorem State.modAxis_holding (s : State) (a : Axis) (f : AxisCtl → AxisCtl) (u : Tier) : (s.modAxis a f).holding u = s.holding u := rfl
@[simp] theorem State.modAxis_seq (s : State) (a : Axis) (f : AxisCtl → AxisCtl) (u : Tier) : (s.modAxis a f).seq u = s.seq u := rfl
@[simp] theorem State.modAxis_axis (s : State) (a : Axis) (f : AxisCtl → AxisCtl) (b : Axis) :
    (s.modAxis a f).axis b = if b = a then f (s.axis a) else s.axis b := by
  obtain ⟨t, i⟩ := a; obtain ⟨u, j⟩ := b
  cases t <;> cases u <;> first | rfl | (cases i <;> cases j <;> rfl)
@[simp] theorem State.modAxis_pair (s : State) (a : Axis) (f : AxisCtl → AxisCtl) (u : Tier) : (s.modAxis a f).pair u = s.pair u := rfl
@[simp] theorem State.modAxis_loadOf (s : State) (a : Axis) (f : AxisCtl → AxisCtl) (u : Tier) : (s.modAxis a f).loadOf u = s.loadOf u := rfl
@[simp] theorem State.modAxis_port (s : State) (a : Axis) (f : AxisCtl → AxisCtl) (q : Port) : (s.modAxis a f).port q = s.port q := rfl

/-! ### `modPair` -/

@[simp] theorem State.modPair_tables (s : State) (t : Tier) (f : PairUnit → PairUnit) : (s.modPair t f).tables = s.tables := rfl
@[simp] theorem State.modPair_adm (s : State) (t : Tier) (f : PairUnit → PairUnit) : (s.modPair t f).adm = s.adm := rfl
@[simp] theorem State.modPair_arb (s : State) (t : Tier) (f : PairUnit → PairUnit) : (s.modPair t f).arb = s.arb := rfl
@[simp] theorem State.modPair_seqs (s : State) (t : Tier) (f : PairUnit → PairUnit) : (s.modPair t f).seqs = s.seqs := rfl
@[simp] theorem State.modPair_axes (s : State) (t : Tier) (f : PairUnit → PairUnit) : (s.modPair t f).axes = s.axes := rfl
@[simp] theorem State.modPair_pairs (s : State) (t : Tier) (f : PairUnit → PairUnit) : (s.modPair t f).pairs = s.pairs.set t (f (s.pair t)) := rfl
@[simp] theorem State.modPair_mon (s : State) (t : Tier) (f : PairUnit → PairUnit) : (s.modPair t f).mon = s.mon := rfl
@[simp] theorem State.modPair_plans (s : State) (t : Tier) (f : PairUnit → PairUnit) : (s.modPair t f).plans = s.plans := rfl
@[simp] theorem State.modPair_man (s : State) (t : Tier) (f : PairUnit → PairUnit) : (s.modPair t f).man = s.man := rfl
@[simp] theorem State.modPair_auth (s : State) (t : Tier) (f : PairUnit → PairUnit) : (s.modPair t f).auth = s.auth := rfl
@[simp] theorem State.modPair_latched (s : State) (t : Tier) (f : PairUnit → PairUnit) : (s.modPair t f).latched = s.latched := rfl
@[simp] theorem State.modPair_ports (s : State) (t : Tier) (f : PairUnit → PairUnit) : (s.modPair t f).ports = s.ports := rfl
@[simp] theorem State.modPair_clock (s : State) (t : Tier) (f : PairUnit → PairUnit) : (s.modPair t f).clock = s.clock := rfl
@[simp] theorem State.modPair_held (s : State) (t : Tier) (f : PairUnit → PairUnit) : (s.modPair t f).held = s.held := rfl
@[simp] theorem State.modPair_mail (s : State) (t : Tier) (f : PairUnit → PairUnit) : (s.modPair t f).mail = s.mail := rfl
@[simp] theorem State.modPair_pending (s : State) (t : Tier) (f : PairUnit → PairUnit) : (s.modPair t f).pending = s.pending := rfl
@[simp] theorem State.modPair_tier (s : State) (t : Tier) (f : PairUnit → PairUnit) (u : Tier) : (s.modPair t f).tier u = s.tier u := rfl
@[simp] theorem State.modPair_axisRec (s : State) (t : Tier) (f : PairUnit → PairUnit) (b : Axis) : (s.modPair t f).axisRec b = s.axisRec b := rfl
@[simp] theorem State.modPair_bandCells (s : State) (t : Tier) (f : PairUnit → PairUnit) (u : Tier) (b : Nat) : (s.modPair t f).bandCells u b = s.bandCells u b := rfl
@[simp] theorem State.modPair_stationAngle (s : State) (t : Tier) (f : PairUnit → PairUnit) (u : Tier) (n : Station) : (s.modPair t f).stationAngle u n = s.stationAngle u n := rfl
@[simp] theorem State.modPair_holding (s : State) (t : Tier) (f : PairUnit → PairUnit) (u : Tier) : (s.modPair t f).holding u = s.holding u := rfl
@[simp] theorem State.modPair_seq (s : State) (t : Tier) (f : PairUnit → PairUnit) (u : Tier) : (s.modPair t f).seq u = s.seq u := rfl
@[simp] theorem State.modPair_axis (s : State) (t : Tier) (f : PairUnit → PairUnit) (b : Axis) : (s.modPair t f).axis b = s.axis b := rfl
@[simp] theorem State.modPair_pair (s : State) (t : Tier) (f : PairUnit → PairUnit) (u : Tier) :
    (s.modPair t f).pair u = if u = t then f (s.pair t) else s.pair u := Eight.get_set ..
@[simp] theorem State.modPair_loadOf (s : State) (t : Tier) (f : PairUnit → PairUnit) (u : Tier) : (s.modPair t f).loadOf u = s.loadOf u := rfl
@[simp] theorem State.modPair_port (s : State) (t : Tier) (f : PairUnit → PairUnit) (q : Port) : (s.modPair t f).port q = s.port q := rfl

/-! ### `modHolding` -/

@[simp] theorem State.modHolding_tables (s : State) (t : Tier) (f : Holding → Holding) : (s.modHolding t f).tables = s.tables := rfl
@[simp] theorem State.modHolding_adm (s : State) (t : Tier) (f : Holding → Holding) : (s.modHolding t f).adm = s.adm := rfl
@[simp] theorem State.modHolding_arb (s : State) (t : Tier) (f : Holding → Holding) : (s.modHolding t f).arb = { s.arb with tiers := s.arb.tiers.set t (f (s.holding t)) } := rfl
@[simp] theorem State.modHolding_seqs (s : State) (t : Tier) (f : Holding → Holding) : (s.modHolding t f).seqs = s.seqs := rfl
@[simp] theorem State.modHolding_axes (s : State) (t : Tier) (f : Holding → Holding) : (s.modHolding t f).axes = s.axes := rfl
@[simp] theorem State.modHolding_pairs (s : State) (t : Tier) (f : Holding → Holding) : (s.modHolding t f).pairs = s.pairs := rfl
@[simp] theorem State.modHolding_mon (s : State) (t : Tier) (f : Holding → Holding) : (s.modHolding t f).mon = s.mon := rfl
@[simp] theorem State.modHolding_plans (s : State) (t : Tier) (f : Holding → Holding) : (s.modHolding t f).plans = s.plans := rfl
@[simp] theorem State.modHolding_man (s : State) (t : Tier) (f : Holding → Holding) : (s.modHolding t f).man = s.man := rfl
@[simp] theorem State.modHolding_auth (s : State) (t : Tier) (f : Holding → Holding) : (s.modHolding t f).auth = s.auth := rfl
@[simp] theorem State.modHolding_latched (s : State) (t : Tier) (f : Holding → Holding) : (s.modHolding t f).latched = s.latched := rfl
@[simp] theorem State.modHolding_ports (s : State) (t : Tier) (f : Holding → Holding) : (s.modHolding t f).ports = s.ports := rfl
@[simp] theorem State.modHolding_clock (s : State) (t : Tier) (f : Holding → Holding) : (s.modHolding t f).clock = s.clock := rfl
@[simp] theorem State.modHolding_held (s : State) (t : Tier) (f : Holding → Holding) : (s.modHolding t f).held = s.held := rfl
@[simp] theorem State.modHolding_mail (s : State) (t : Tier) (f : Holding → Holding) : (s.modHolding t f).mail = s.mail := rfl
@[simp] theorem State.modHolding_pending (s : State) (t : Tier) (f : Holding → Holding) : (s.modHolding t f).pending = s.pending := rfl
@[simp] theorem State.modHolding_tier (s : State) (t : Tier) (f : Holding → Holding) (u : Tier) : (s.modHolding t f).tier u = s.tier u := rfl
@[simp] theorem State.modHolding_axisRec (s : State) (t : Tier) (f : Holding → Holding) (b : Axis) : (s.modHolding t f).axisRec b = s.axisRec b := rfl
@[simp] theorem State.modHolding_bandCells (s : State) (t : Tier) (f : Holding → Holding) (u : Tier) (b : Nat) : (s.modHolding t f).bandCells u b = s.bandCells u b := rfl
@[simp] theorem State.modHolding_stationAngle (s : State) (t : Tier) (f : Holding → Holding) (u : Tier) (n : Station) : (s.modHolding t f).stationAngle u n = s.stationAngle u n := rfl
@[simp] theorem State.modHolding_holding (s : State) (t : Tier) (f : Holding → Holding) (u : Tier) :
    (s.modHolding t f).holding u = if u = t then f (s.holding t) else s.holding u := Eight.get_set ..
@[simp] theorem State.modHolding_seq (s : State) (t : Tier) (f : Holding → Holding) (u : Tier) : (s.modHolding t f).seq u = s.seq u := rfl
@[simp] theorem State.modHolding_axis (s : State) (t : Tier) (f : Holding → Holding) (b : Axis) : (s.modHolding t f).axis b = s.axis b := rfl
@[simp] theorem State.modHolding_pair (s : State) (t : Tier) (f : Holding → Holding) (u : Tier) : (s.modHolding t f).pair u = s.pair u := rfl
@[simp] theorem State.modHolding_loadOf (s : State) (t : Tier) (f : Holding → Holding) (u : Tier) : (s.modHolding t f).loadOf u = s.loadOf u := rfl
@[simp] theorem State.modHolding_port (s : State) (t : Tier) (f : Holding → Holding) (q : Port) : (s.modHolding t f).port q = s.port q := rfl

/-! ### `modLoad` -/

@[simp] theorem State.modLoad_tables (s : State) (t : Tier) (f : TierLoad → TierLoad) : (s.modLoad t f).tables = s.tables := rfl
@[simp] theorem State.modLoad_adm (s : State) (t : Tier) (f : TierLoad → TierLoad) : (s.modLoad t f).adm = s.adm := rfl
@[simp] theorem State.modLoad_arb (s : State) (t : Tier) (f : TierLoad → TierLoad) : (s.modLoad t f).arb = s.arb := rfl
@[simp] theorem State.modLoad_seqs (s : State) (t : Tier) (f : TierLoad → TierLoad) : (s.modLoad t f).seqs = s.seqs := rfl
@[simp] theorem State.modLoad_axes (s : State) (t : Tier) (f : TierLoad → TierLoad) : (s.modLoad t f).axes = s.axes := rfl
@[simp] theorem State.modLoad_pairs (s : State) (t : Tier) (f : TierLoad → TierLoad) : (s.modLoad t f).pairs = s.pairs := rfl
@[simp] theorem State.modLoad_mon (s : State) (t : Tier) (f : TierLoad → TierLoad) : (s.modLoad t f).mon = { s.mon with tiers := s.mon.tiers.set t (f (s.loadOf t)) } := rfl
@[simp] theorem State.modLoad_plans (s : State) (t : Tier) (f : TierLoad → TierLoad) : (s.modLoad t f).plans = s.plans := rfl
@[simp] theorem State.modLoad_man (s : State) (t : Tier) (f : TierLoad → TierLoad) : (s.modLoad t f).man = s.man := rfl
@[simp] theorem State.modLoad_auth (s : State) (t : Tier) (f : TierLoad → TierLoad) : (s.modLoad t f).auth = s.auth := rfl
@[simp] theorem State.modLoad_latched (s : State) (t : Tier) (f : TierLoad → TierLoad) : (s.modLoad t f).latched = s.latched := rfl
@[simp] theorem State.modLoad_ports (s : State) (t : Tier) (f : TierLoad → TierLoad) : (s.modLoad t f).ports = s.ports := rfl
@[simp] theorem State.modLoad_clock (s : State) (t : Tier) (f : TierLoad → TierLoad) : (s.modLoad t f).clock = s.clock := rfl
@[simp] theorem State.modLoad_held (s : State) (t : Tier) (f : TierLoad → TierLoad) : (s.modLoad t f).held = s.held := rfl
@[simp] theorem State.modLoad_mail (s : State) (t : Tier) (f : TierLoad → TierLoad) : (s.modLoad t f).mail = s.mail := rfl
@[simp] theorem State.modLoad_pending (s : State) (t : Tier) (f : TierLoad → TierLoad) : (s.modLoad t f).pending = s.pending := rfl
@[simp] theorem State.modLoad_tier (s : State) (t : Tier) (f : TierLoad → TierLoad) (u : Tier) : (s.modLoad t f).tier u = s.tier u := rfl
@[simp] theorem State.modLoad_axisRec (s : State) (t : Tier) (f : TierLoad → TierLoad) (b : Axis) : (s.modLoad t f).axisRec b = s.axisRec b := rfl
@[simp] theorem State.modLoad_bandCells (s : State) (t : Tier) (f : TierLoad → TierLoad) (u : Tier) (b : Nat) : (s.modLoad t f).bandCells u b = s.bandCells u b := rfl
@[simp] theorem State.modLoad_stationAngle (s : State) (t : Tier) (f : TierLoad → TierLoad) (u : Tier) (n : Station) : (s.modLoad t f).stationAngle u n = s.stationAngle u n := rfl
@[simp] theorem State.modLoad_holding (s : State) (t : Tier) (f : TierLoad → TierLoad) (u : Tier) : (s.modLoad t f).holding u = s.holding u := rfl
@[simp] theorem State.modLoad_seq (s : State) (t : Tier) (f : TierLoad → TierLoad) (u : Tier) : (s.modLoad t f).seq u = s.seq u := rfl
@[simp] theorem State.modLoad_axis (s : State) (t : Tier) (f : TierLoad → TierLoad) (b : Axis) : (s.modLoad t f).axis b = s.axis b := rfl
@[simp] theorem State.modLoad_pair (s : State) (t : Tier) (f : TierLoad → TierLoad) (u : Tier) : (s.modLoad t f).pair u = s.pair u := rfl
@[simp] theorem State.modLoad_loadOf (s : State) (t : Tier) (f : TierLoad → TierLoad) (u : Tier) :
    (s.modLoad t f).loadOf u = if u = t then f (s.loadOf t) else s.loadOf u := Eight.get_set ..
@[simp] theorem State.modLoad_port (s : State) (t : Tier) (f : TierLoad → TierLoad) (q : Port) : (s.modLoad t f).port q = s.port q := rfl

/-! ### `modPort` -/

@[simp] theorem State.modPort_tables (s : State) (p : Port) (f : LinkPort → LinkPort) : (s.modPort p f).tables = s.tables := rfl
@[simp] theorem State.modPort_adm (s : State) (p : Port) (f : LinkPort → LinkPort) : (s.modPort p f).adm = s.adm := rfl
@[simp] theorem State.modPort_arb (s : State) (p : Port) (f : LinkPort → LinkPort) : (s.modPort p f).arb = s.arb := rfl
@[simp] theorem State.modPort_seqs (s : State) (p : Port) (f : LinkPort → LinkPort) : (s.modPort p f).seqs = s.seqs := rfl
@[simp] theorem State.modPort_axes (s : State) (p : Port) (f : LinkPort → LinkPort) : (s.modPort p f).axes = s.axes := rfl
@[simp] theorem State.modPort_pairs (s : State) (p : Port) (f : LinkPort → LinkPort) : (s.modPort p f).pairs = s.pairs := rfl
@[simp] theorem State.modPort_mon (s : State) (p : Port) (f : LinkPort → LinkPort) : (s.modPort p f).mon = s.mon := rfl
@[simp] theorem State.modPort_plans (s : State) (p : Port) (f : LinkPort → LinkPort) : (s.modPort p f).plans = s.plans := rfl
@[simp] theorem State.modPort_man (s : State) (p : Port) (f : LinkPort → LinkPort) : (s.modPort p f).man = s.man := rfl
@[simp] theorem State.modPort_auth (s : State) (p : Port) (f : LinkPort → LinkPort) : (s.modPort p f).auth = s.auth := rfl
@[simp] theorem State.modPort_latched (s : State) (p : Port) (f : LinkPort → LinkPort) : (s.modPort p f).latched = s.latched := rfl
@[simp] theorem State.modPort_ports (s : State) (p : Port) (f : LinkPort → LinkPort) : (s.modPort p f).ports = s.ports.setPort p (f (s.port p)) := rfl
@[simp] theorem State.modPort_clock (s : State) (p : Port) (f : LinkPort → LinkPort) : (s.modPort p f).clock = s.clock := rfl
@[simp] theorem State.modPort_held (s : State) (p : Port) (f : LinkPort → LinkPort) : (s.modPort p f).held = s.held := rfl
@[simp] theorem State.modPort_mail (s : State) (p : Port) (f : LinkPort → LinkPort) : (s.modPort p f).mail = s.mail := rfl
@[simp] theorem State.modPort_pending (s : State) (p : Port) (f : LinkPort → LinkPort) : (s.modPort p f).pending = s.pending := rfl
@[simp] theorem State.modPort_tier (s : State) (p : Port) (f : LinkPort → LinkPort) (u : Tier) : (s.modPort p f).tier u = s.tier u := rfl
@[simp] theorem State.modPort_axisRec (s : State) (p : Port) (f : LinkPort → LinkPort) (b : Axis) : (s.modPort p f).axisRec b = s.axisRec b := rfl
@[simp] theorem State.modPort_bandCells (s : State) (p : Port) (f : LinkPort → LinkPort) (u : Tier) (b : Nat) : (s.modPort p f).bandCells u b = s.bandCells u b := rfl
@[simp] theorem State.modPort_stationAngle (s : State) (p : Port) (f : LinkPort → LinkPort) (u : Tier) (n : Station) : (s.modPort p f).stationAngle u n = s.stationAngle u n := rfl
@[simp] theorem State.modPort_holding (s : State) (p : Port) (f : LinkPort → LinkPort) (u : Tier) : (s.modPort p f).holding u = s.holding u := rfl
@[simp] theorem State.modPort_seq (s : State) (p : Port) (f : LinkPort → LinkPort) (u : Tier) : (s.modPort p f).seq u = s.seq u := rfl
@[simp] theorem State.modPort_axis (s : State) (p : Port) (f : LinkPort → LinkPort) (b : Axis) : (s.modPort p f).axis b = s.axis b := rfl
@[simp] theorem State.modPort_pair (s : State) (p : Port) (f : LinkPort → LinkPort) (u : Tier) : (s.modPort p f).pair u = s.pair u := rfl
@[simp] theorem State.modPort_loadOf (s : State) (p : Port) (f : LinkPort → LinkPort) (u : Tier) : (s.modPort p f).loadOf u = s.loadOf u := rfl
@[simp] theorem State.modPort_port (s : State) (p : Port) (f : LinkPort → LinkPort) (q : Port) :
    (s.modPort p f).port q = if q = p then f (s.port p) else s.port q := Both.port_setPort ..

/-! ### `modArb` -/

@[simp] theorem State.modArb_tables (s : State) (f : Arbiter → Arbiter) : (s.modArb f).tables = s.tables := rfl
@[simp] theorem State.modArb_adm (s : State) (f : Arbiter → Arbiter) : (s.modArb f).adm = s.adm := rfl
@[simp] theorem State.modArb_arb (s : State) (f : Arbiter → Arbiter) : (s.modArb f).arb = f s.arb := rfl
@[simp] theorem State.modArb_seqs (s : State) (f : Arbiter → Arbiter) : (s.modArb f).seqs = s.seqs := rfl
@[simp] theorem State.modArb_axes (s : State) (f : Arbiter → Arbiter) : (s.modArb f).axes = s.axes := rfl
@[simp] theorem State.modArb_pairs (s : State) (f : Arbiter → Arbiter) : (s.modArb f).pairs = s.pairs := rfl
@[simp] theorem State.modArb_mon (s : State) (f : Arbiter → Arbiter) : (s.modArb f).mon = s.mon := rfl
@[simp] theorem State.modArb_plans (s : State) (f : Arbiter → Arbiter) : (s.modArb f).plans = s.plans := rfl
@[simp] theorem State.modArb_man (s : State) (f : Arbiter → Arbiter) : (s.modArb f).man = s.man := rfl
@[simp] theorem State.modArb_auth (s : State) (f : Arbiter → Arbiter) : (s.modArb f).auth = s.auth := rfl
@[simp] theorem State.modArb_latched (s : State) (f : Arbiter → Arbiter) : (s.modArb f).latched = s.latched := rfl
@[simp] theorem State.modArb_ports (s : State) (f : Arbiter → Arbiter) : (s.modArb f).ports = s.ports := rfl
@[simp] theorem State.modArb_clock (s : State) (f : Arbiter → Arbiter) : (s.modArb f).clock = s.clock := rfl
@[simp] theorem State.modArb_held (s : State) (f : Arbiter → Arbiter) : (s.modArb f).held = s.held := rfl
@[simp] theorem State.modArb_mail (s : State) (f : Arbiter → Arbiter) : (s.modArb f).mail = s.mail := rfl
@[simp] theorem State.modArb_pending (s : State) (f : Arbiter → Arbiter) : (s.modArb f).pending = s.pending := rfl
@[simp] theorem State.modArb_tier (s : State) (f : Arbiter → Arbiter) (u : Tier) : (s.modArb f).tier u = s.tier u := rfl
@[simp] theorem State.modArb_axisRec (s : State) (f : Arbiter → Arbiter) (b : Axis) : (s.modArb f).axisRec b = s.axisRec b := rfl
@[simp] theorem State.modArb_bandCells (s : State) (f : Arbiter → Arbiter) (u : Tier) (b : Nat) : (s.modArb f).bandCells u b = s.bandCells u b := rfl
@[simp] theorem State.modArb_stationAngle (s : State) (f : Arbiter → Arbiter) (u : Tier) (n : Station) : (s.modArb f).stationAngle u n = s.stationAngle u n := rfl
@[simp] theorem State.modArb_seq (s : State) (f : Arbiter → Arbiter) (u : Tier) : (s.modArb f).seq u = s.seq u := rfl
@[simp] theorem State.modArb_axis (s : State) (f : Arbiter → Arbiter) (b : Axis) : (s.modArb f).axis b = s.axis b := rfl
@[simp] theorem State.modArb_pair (s : State) (f : Arbiter → Arbiter) (u : Tier) : (s.modArb f).pair u = s.pair u := rfl
@[simp] theorem State.modArb_loadOf (s : State) (f : Arbiter → Arbiter) (u : Tier) : (s.modArb f).loadOf u = s.loadOf u := rfl
@[simp] theorem State.modArb_port (s : State) (f : Arbiter → Arbiter) (q : Port) : (s.modArb f).port q = s.port q := rfl

/-! ### `modAdm` -/

@[simp] theorem State.modAdm_tables (s : State) (f : Admission → Admission) : (s.modAdm f).tables = s.tables := rfl
@[simp] theorem State.modAdm_adm (s : State) (f : Admission → Admission) : (s.modAdm f).adm = f s.adm := rfl
@[simp] theorem State.modAdm_arb (s : State) (f : Admission → Admission) : (s.modAdm f).arb = s.arb := rfl
@[simp] theorem State.modAdm_seqs (s : State) (f : Admission → Admission) : (s.modAdm f).seqs = s.seqs := rfl
@[simp] theorem State.modAdm_axes (s : State) (f : Admission → Admission) : (s.modAdm f).axes = s.axes := rfl
@[simp] theorem State.modAdm_pairs (s : State) (f : Admission → Admission) : (s.modAdm f).pairs = s.pairs := rfl
@[simp] theorem State.modAdm_mon (s : State) (f : Admission → Admission) : (s.modAdm f).mon = s.mon := rfl
@[simp] theorem State.modAdm_plans (s : State) (f : Admission → Admission) : (s.modAdm f).plans = s.plans := rfl
@[simp] theorem State.modAdm_man (s : State) (f : Admission → Admission) : (s.modAdm f).man = s.man := rfl
@[simp] theorem State.modAdm_auth (s : State) (f : Admission → Admission) : (s.modAdm f).auth = s.auth := rfl
@[simp] theorem State.modAdm_latched (s : State) (f : Admission → Admission) : (s.modAdm f).latched = s.latched := rfl
@[simp] theorem State.modAdm_ports (s : State) (f : Admission → Admission) : (s.modAdm f).ports = s.ports := rfl
@[simp] theorem State.modAdm_clock (s : State) (f : Admission → Admission) : (s.modAdm f).clock = s.clock := rfl
@[simp] theorem State.modAdm_held (s : State) (f : Admission → Admission) : (s.modAdm f).held = s.held := rfl
@[simp] theorem State.modAdm_mail (s : State) (f : Admission → Admission) : (s.modAdm f).mail = s.mail := rfl
@[simp] theorem State.modAdm_pending (s : State) (f : Admission → Admission) : (s.modAdm f).pending = s.pending := rfl
@[simp] theorem State.modAdm_tier (s : State) (f : Admission → Admission) (u : Tier) : (s.modAdm f).tier u = s.tier u := rfl
@[simp] theorem State.modAdm_axisRec (s : State) (f : Admission → Admission) (b : Axis) : (s.modAdm f).axisRec b = s.axisRec b := rfl
@[simp] theorem State.modAdm_bandCells (s : State) (f : Admission → Admission) (u : Tier) (b : Nat) : (s.modAdm f).bandCells u b = s.bandCells u b := rfl
@[simp] theorem State.modAdm_stationAngle (s : State) (f : Admission → Admission) (u : Tier) (n : Station) : (s.modAdm f).stationAngle u n = s.stationAngle u n := rfl
@[simp] theorem State.modAdm_holding (s : State) (f : Admission → Admission) (u : Tier) : (s.modAdm f).holding u = s.holding u := rfl
@[simp] theorem State.modAdm_seq (s : State) (f : Admission → Admission) (u : Tier) : (s.modAdm f).seq u = s.seq u := rfl
@[simp] theorem State.modAdm_axis (s : State) (f : Admission → Admission) (b : Axis) : (s.modAdm f).axis b = s.axis b := rfl
@[simp] theorem State.modAdm_pair (s : State) (f : Admission → Admission) (u : Tier) : (s.modAdm f).pair u = s.pair u := rfl
@[simp] theorem State.modAdm_loadOf (s : State) (f : Admission → Admission) (u : Tier) : (s.modAdm f).loadOf u = s.loadOf u := rfl
@[simp] theorem State.modAdm_port (s : State) (f : Admission → Admission) (q : Port) : (s.modAdm f).port q = s.port q := rfl

/-! ### `modPlans` -/

@[simp] theorem State.modPlans_tables (s : State) (f : Plans → Plans) : (s.modPlans f).tables = s.tables := rfl
@[simp] theorem State.modPlans_adm (s : State) (f : Plans → Plans) : (s.modPlans f).adm = s.adm := rfl
@[simp] theorem State.modPlans_arb (s : State) (f : Plans → Plans) : (s.modPlans f).arb = s.arb := rfl
@[simp] theorem State.modPlans_seqs (s : State) (f : Plans → Plans) : (s.modPlans f).seqs = s.seqs := rfl
@[simp] theorem State.modPlans_axes (s : State) (f : Plans → Plans) : (s.modPlans f).axes = s.axes := rfl
@[simp] theorem State.modPlans_pairs (s : State) (f : Plans → Plans) : (s.modPlans f).pairs = s.pairs := rfl
@[simp] theorem State.modPlans_mon (s : State) (f : Plans → Plans) : (s.modPlans f).mon = s.mon := rfl
@[simp] theorem State.modPlans_plans (s : State) (f : Plans → Plans) : (s.modPlans f).plans = f s.plans := rfl
@[simp] theorem State.modPlans_man (s : State) (f : Plans → Plans) : (s.modPlans f).man = s.man := rfl
@[simp] theorem State.modPlans_auth (s : State) (f : Plans → Plans) : (s.modPlans f).auth = s.auth := rfl
@[simp] theorem State.modPlans_latched (s : State) (f : Plans → Plans) : (s.modPlans f).latched = s.latched := rfl
@[simp] theorem State.modPlans_ports (s : State) (f : Plans → Plans) : (s.modPlans f).ports = s.ports := rfl
@[simp] theorem State.modPlans_clock (s : State) (f : Plans → Plans) : (s.modPlans f).clock = s.clock := rfl
@[simp] theorem State.modPlans_held (s : State) (f : Plans → Plans) : (s.modPlans f).held = s.held := rfl
@[simp] theorem State.modPlans_mail (s : State) (f : Plans → Plans) : (s.modPlans f).mail = s.mail := rfl
@[simp] theorem State.modPlans_pending (s : State) (f : Plans → Plans) : (s.modPlans f).pending = s.pending := rfl
@[simp] theorem State.modPlans_tier (s : State) (f : Plans → Plans) (u : Tier) : (s.modPlans f).tier u = s.tier u := rfl
@[simp] theorem State.modPlans_axisRec (s : State) (f : Plans → Plans) (b : Axis) : (s.modPlans f).axisRec b = s.axisRec b := rfl
@[simp] theorem State.modPlans_bandCells (s : State) (f : Plans → Plans) (u : Tier) (b : Nat) : (s.modPlans f).bandCells u b = s.bandCells u b := rfl
@[simp] theorem State.modPlans_stationAngle (s : State) (f : Plans → Plans) (u : Tier) (n : Station) : (s.modPlans f).stationAngle u n = s.stationAngle u n := rfl
@[simp] theorem State.modPlans_holding (s : State) (f : Plans → Plans) (u : Tier) : (s.modPlans f).holding u = s.holding u := rfl
@[simp] theorem State.modPlans_seq (s : State) (f : Plans → Plans) (u : Tier) : (s.modPlans f).seq u = s.seq u := rfl
@[simp] theorem State.modPlans_axis (s : State) (f : Plans → Plans) (b : Axis) : (s.modPlans f).axis b = s.axis b := rfl
@[simp] theorem State.modPlans_pair (s : State) (f : Plans → Plans) (u : Tier) : (s.modPlans f).pair u = s.pair u := rfl
@[simp] theorem State.modPlans_loadOf (s : State) (f : Plans → Plans) (u : Tier) : (s.modPlans f).loadOf u = s.loadOf u := rfl
@[simp] theorem State.modPlans_port (s : State) (f : Plans → Plans) (q : Port) : (s.modPlans f).port q = s.port q := rfl

/-! ### `modMan` -/

@[simp] theorem State.modMan_tables (s : State) (f : StopManager → StopManager) : (s.modMan f).tables = s.tables := rfl
@[simp] theorem State.modMan_adm (s : State) (f : StopManager → StopManager) : (s.modMan f).adm = s.adm := rfl
@[simp] theorem State.modMan_arb (s : State) (f : StopManager → StopManager) : (s.modMan f).arb = s.arb := rfl
@[simp] theorem State.modMan_seqs (s : State) (f : StopManager → StopManager) : (s.modMan f).seqs = s.seqs := rfl
@[simp] theorem State.modMan_axes (s : State) (f : StopManager → StopManager) : (s.modMan f).axes = s.axes := rfl
@[simp] theorem State.modMan_pairs (s : State) (f : StopManager → StopManager) : (s.modMan f).pairs = s.pairs := rfl
@[simp] theorem State.modMan_mon (s : State) (f : StopManager → StopManager) : (s.modMan f).mon = s.mon := rfl
@[simp] theorem State.modMan_plans (s : State) (f : StopManager → StopManager) : (s.modMan f).plans = s.plans := rfl
@[simp] theorem State.modMan_man (s : State) (f : StopManager → StopManager) : (s.modMan f).man = f s.man := rfl
@[simp] theorem State.modMan_auth (s : State) (f : StopManager → StopManager) : (s.modMan f).auth = s.auth := rfl
@[simp] theorem State.modMan_latched (s : State) (f : StopManager → StopManager) : (s.modMan f).latched = s.latched := rfl
@[simp] theorem State.modMan_ports (s : State) (f : StopManager → StopManager) : (s.modMan f).ports = s.ports := rfl
@[simp] theorem State.modMan_clock (s : State) (f : StopManager → StopManager) : (s.modMan f).clock = s.clock := rfl
@[simp] theorem State.modMan_held (s : State) (f : StopManager → StopManager) : (s.modMan f).held = s.held := rfl
@[simp] theorem State.modMan_mail (s : State) (f : StopManager → StopManager) : (s.modMan f).mail = s.mail := rfl
@[simp] theorem State.modMan_pending (s : State) (f : StopManager → StopManager) : (s.modMan f).pending = s.pending := rfl
@[simp] theorem State.modMan_tier (s : State) (f : StopManager → StopManager) (u : Tier) : (s.modMan f).tier u = s.tier u := rfl
@[simp] theorem State.modMan_axisRec (s : State) (f : StopManager → StopManager) (b : Axis) : (s.modMan f).axisRec b = s.axisRec b := rfl
@[simp] theorem State.modMan_bandCells (s : State) (f : StopManager → StopManager) (u : Tier) (b : Nat) : (s.modMan f).bandCells u b = s.bandCells u b := rfl
@[simp] theorem State.modMan_stationAngle (s : State) (f : StopManager → StopManager) (u : Tier) (n : Station) : (s.modMan f).stationAngle u n = s.stationAngle u n := rfl
@[simp] theorem State.modMan_holding (s : State) (f : StopManager → StopManager) (u : Tier) : (s.modMan f).holding u = s.holding u := rfl
@[simp] theorem State.modMan_seq (s : State) (f : StopManager → StopManager) (u : Tier) : (s.modMan f).seq u = s.seq u := rfl
@[simp] theorem State.modMan_axis (s : State) (f : StopManager → StopManager) (b : Axis) : (s.modMan f).axis b = s.axis b := rfl
@[simp] theorem State.modMan_pair (s : State) (f : StopManager → StopManager) (u : Tier) : (s.modMan f).pair u = s.pair u := rfl
@[simp] theorem State.modMan_loadOf (s : State) (f : StopManager → StopManager) (u : Tier) : (s.modMan f).loadOf u = s.loadOf u := rfl
@[simp] theorem State.modMan_port (s : State) (f : StopManager → StopManager) (q : Port) : (s.modMan f).port q = s.port q := rfl

/-! ### `modAuth` -/

@[simp] theorem State.modAuth_tables (s : State) (f : Authority → Authority) : (s.modAuth f).tables = s.tables := rfl
@[simp] theorem State.modAuth_adm (s : State) (f : Authority → Authority) : (s.modAuth f).adm = s.adm := rfl
@[simp] theorem State.modAuth_arb (s : State) (f : Authority → Authority) : (s.modAuth f).arb = s.arb := rfl
@[simp] theorem State.modAuth_seqs (s : State) (f : Authority → Authority) : (s.modAuth f).seqs = s.seqs := rfl
@[simp] theorem State.modAuth_axes (s : State) (f : Authority → Authority) : (s.modAuth f).axes = s.axes := rfl
@[simp] theorem State.modAuth_pairs (s : State) (f : Authority → Authority) : (s.modAuth f).pairs = s.pairs := rfl
@[simp] theorem State.modAuth_mon (s : State) (f : Authority → Authority) : (s.modAuth f).mon = s.mon := rfl
@[simp] theorem State.modAuth_plans (s : State) (f : Authority → Authority) : (s.modAuth f).plans = s.plans := rfl
@[simp] theorem State.modAuth_man (s : State) (f : Authority → Authority) : (s.modAuth f).man = s.man := rfl
@[simp] theorem State.modAuth_auth (s : State) (f : Authority → Authority) : (s.modAuth f).auth = f s.auth := rfl
@[simp] theorem State.modAuth_latched (s : State) (f : Authority → Authority) : (s.modAuth f).latched = s.latched := rfl
@[simp] theorem State.modAuth_ports (s : State) (f : Authority → Authority) : (s.modAuth f).ports = s.ports := rfl
@[simp] theorem State.modAuth_clock (s : State) (f : Authority → Authority) : (s.modAuth f).clock = s.clock := rfl
@[simp] theorem State.modAuth_held (s : State) (f : Authority → Authority) : (s.modAuth f).held = s.held := rfl
@[simp] theorem State.modAuth_mail (s : State) (f : Authority → Authority) : (s.modAuth f).mail = s.mail := rfl
@[simp] theorem State.modAuth_pending (s : State) (f : Authority → Authority) : (s.modAuth f).pending = s.pending := rfl
@[simp] theorem State.modAuth_tier (s : State) (f : Authority → Authority) (u : Tier) : (s.modAuth f).tier u = s.tier u := rfl
@[simp] theorem State.modAuth_axisRec (s : State) (f : Authority → Authority) (b : Axis) : (s.modAuth f).axisRec b = s.axisRec b := rfl
@[simp] theorem State.modAuth_bandCells (s : State) (f : Authority → Authority) (u : Tier) (b : Nat) : (s.modAuth f).bandCells u b = s.bandCells u b := rfl
@[simp] theorem State.modAuth_stationAngle (s : State) (f : Authority → Authority) (u : Tier) (n : Station) : (s.modAuth f).stationAngle u n = s.stationAngle u n := rfl
@[simp] theorem State.modAuth_holding (s : State) (f : Authority → Authority) (u : Tier) : (s.modAuth f).holding u = s.holding u := rfl
@[simp] theorem State.modAuth_seq (s : State) (f : Authority → Authority) (u : Tier) : (s.modAuth f).seq u = s.seq u := rfl
@[simp] theorem State.modAuth_axis (s : State) (f : Authority → Authority) (b : Axis) : (s.modAuth f).axis b = s.axis b := rfl
@[simp] theorem State.modAuth_pair (s : State) (f : Authority → Authority) (u : Tier) : (s.modAuth f).pair u = s.pair u := rfl
@[simp] theorem State.modAuth_loadOf (s : State) (f : Authority → Authority) (u : Tier) : (s.modAuth f).loadOf u = s.loadOf u := rfl
@[simp] theorem State.modAuth_port (s : State) (f : Authority → Authority) (q : Port) : (s.modAuth f).port q = s.port q := rfl

/-! ### `modMon` -/

@[simp] theorem State.modMon_tables (s : State) (f : LoadMonitor → LoadMonitor) : (s.modMon f).tables = s.tables := rfl
@[simp] theorem State.modMon_adm (s : State) (f : LoadMonitor → LoadMonitor) : (s.modMon f).adm = s.adm := rfl
@[simp] theorem State.modMon_arb (s : State) (f : LoadMonitor → LoadMonitor) : (s.modMon f).arb = s.arb := rfl
@[simp] theorem State.modMon_seqs (s : State) (f : LoadMonitor → LoadMonitor) : (s.modMon f).seqs = s.seqs := rfl
@[simp] theorem State.modMon_axes (s : State) (f : LoadMonitor → LoadMonitor) : (s.modMon f).axes = s.axes := rfl
@[simp] theorem State.modMon_pairs (s : State) (f : LoadMonitor → LoadMonitor) : (s.modMon f).pairs = s.pairs := rfl
@[simp] theorem State.modMon_mon (s : State) (f : LoadMonitor → LoadMonitor) : (s.modMon f).mon = f s.mon := rfl
@[simp] theorem State.modMon_plans (s : State) (f : LoadMonitor → LoadMonitor) : (s.modMon f).plans = s.plans := rfl
@[simp] theorem State.modMon_man (s : State) (f : LoadMonitor → LoadMonitor) : (s.modMon f).man = s.man := rfl
@[simp] theorem State.modMon_auth (s : State) (f : LoadMonitor → LoadMonitor) : (s.modMon f).auth = s.auth := rfl
@[simp] theorem State.modMon_latched (s : State) (f : LoadMonitor → LoadMonitor) : (s.modMon f).latched = s.latched := rfl
@[simp] theorem State.modMon_ports (s : State) (f : LoadMonitor → LoadMonitor) : (s.modMon f).ports = s.ports := rfl
@[simp] theorem State.modMon_clock (s : State) (f : LoadMonitor → LoadMonitor) : (s.modMon f).clock = s.clock := rfl
@[simp] theorem State.modMon_held (s : State) (f : LoadMonitor → LoadMonitor) : (s.modMon f).held = s.held := rfl
@[simp] theorem State.modMon_mail (s : State) (f : LoadMonitor → LoadMonitor) : (s.modMon f).mail = s.mail := rfl
@[simp] theorem State.modMon_pending (s : State) (f : LoadMonitor → LoadMonitor) : (s.modMon f).pending = s.pending := rfl
@[simp] theorem State.modMon_tier (s : State) (f : LoadMonitor → LoadMonitor) (u : Tier) : (s.modMon f).tier u = s.tier u := rfl
@[simp] theorem State.modMon_axisRec (s : State) (f : LoadMonitor → LoadMonitor) (b : Axis) : (s.modMon f).axisRec b = s.axisRec b := rfl
@[simp] theorem State.modMon_bandCells (s : State) (f : LoadMonitor → LoadMonitor) (u : Tier) (b : Nat) : (s.modMon f).bandCells u b = s.bandCells u b := rfl
@[simp] theorem State.modMon_stationAngle (s : State) (f : LoadMonitor → LoadMonitor) (u : Tier) (n : Station) : (s.modMon f).stationAngle u n = s.stationAngle u n := rfl
@[simp] theorem State.modMon_holding (s : State) (f : LoadMonitor → LoadMonitor) (u : Tier) : (s.modMon f).holding u = s.holding u := rfl
@[simp] theorem State.modMon_seq (s : State) (f : LoadMonitor → LoadMonitor) (u : Tier) : (s.modMon f).seq u = s.seq u := rfl
@[simp] theorem State.modMon_axis (s : State) (f : LoadMonitor → LoadMonitor) (b : Axis) : (s.modMon f).axis b = s.axis b := rfl
@[simp] theorem State.modMon_pair (s : State) (f : LoadMonitor → LoadMonitor) (u : Tier) : (s.modMon f).pair u = s.pair u := rfl
@[simp] theorem State.modMon_port (s : State) (f : LoadMonitor → LoadMonitor) (q : Port) : (s.modMon f).port q = s.port q := rfl

/-! ### `modTables` -/

@[simp] theorem State.modTables_tables (s : State) (f : Tables → Tables) : (s.modTables f).tables = f s.tables := rfl
@[simp] theorem State.modTables_adm (s : State) (f : Tables → Tables) : (s.modTables f).adm = s.adm := rfl
@[simp] theorem State.modTables_arb (s : State) (f : Tables → Tables) : (s.modTables f).arb = s.arb := rfl
@[simp] theorem State.modTables_seqs (s : State) (f : Tables → Tables) : (s.modTables f).seqs = s.seqs := rfl
@[simp] theorem State.modTables_axes (s : State) (f : Tables → Tables) : (s.modTables f).axes = s.axes := rfl
@[simp] theorem State.modTables_pairs (s : State) (f : Tables → Tables) : (s.modTables f).pairs = s.pairs := rfl
@[simp] theorem State.modTables_mon (s : State) (f : Tables → Tables) : (s.modTables f).mon = s.mon := rfl
@[simp] theorem State.modTables_plans (s : State) (f : Tables → Tables) : (s.modTables f).plans = s.plans := rfl
@[simp] theorem State.modTables_man (s : State) (f : Tables → Tables) : (s.modTables f).man = s.man := rfl
@[simp] theorem State.modTables_auth (s : State) (f : Tables → Tables) : (s.modTables f).auth = s.auth := rfl
@[simp] theorem State.modTables_latched (s : State) (f : Tables → Tables) : (s.modTables f).latched = s.latched := rfl
@[simp] theorem State.modTables_ports (s : State) (f : Tables → Tables) : (s.modTables f).ports = s.ports := rfl
@[simp] theorem State.modTables_clock (s : State) (f : Tables → Tables) : (s.modTables f).clock = s.clock := rfl
@[simp] theorem State.modTables_held (s : State) (f : Tables → Tables) : (s.modTables f).held = s.held := rfl
@[simp] theorem State.modTables_mail (s : State) (f : Tables → Tables) : (s.modTables f).mail = s.mail := rfl
@[simp] theorem State.modTables_pending (s : State) (f : Tables → Tables) : (s.modTables f).pending = s.pending := rfl
@[simp] theorem State.modTables_holding (s : State) (f : Tables → Tables) (u : Tier) : (s.modTables f).holding u = s.holding u := rfl
@[simp] theorem State.modTables_seq (s : State) (f : Tables → Tables) (u : Tier) : (s.modTables f).seq u = s.seq u := rfl
@[simp] theorem State.modTables_axis (s : State) (f : Tables → Tables) (b : Axis) : (s.modTables f).axis b = s.axis b := rfl
@[simp] theorem State.modTables_pair (s : State) (f : Tables → Tables) (u : Tier) : (s.modTables f).pair u = s.pair u := rfl
@[simp] theorem State.modTables_loadOf (s : State) (f : Tables → Tables) (u : Tier) : (s.modTables f).loadOf u = s.loadOf u := rfl
@[simp] theorem State.modTables_port (s : State) (f : Tables → Tables) (q : Port) : (s.modTables f).port q = s.port q := rfl

/-! ### `emit` -/

@[simp] theorem State.emit_tables (s : State) (c : Instr) : (s.emit c).tables = s.tables := rfl
@[simp] theorem State.emit_adm (s : State) (c : Instr) : (s.emit c).adm = s.adm := rfl
@[simp] theorem State.emit_arb (s : State) (c : Instr) : (s.emit c).arb = s.arb := rfl
@[simp] theorem State.emit_seqs (s : State) (c : Instr) : (s.emit c).seqs = s.seqs := rfl
@[simp] theorem State.emit_axes (s : State) (c : Instr) : (s.emit c).axes = s.axes := rfl
@[simp] theorem State.emit_pairs (s : State) (c : Instr) : (s.emit c).pairs = s.pairs := rfl
@[simp] theorem State.emit_mon (s : State) (c : Instr) : (s.emit c).mon = s.mon := rfl
@[simp] theorem State.emit_plans (s : State) (c : Instr) : (s.emit c).plans = s.plans := rfl
@[simp] theorem State.emit_man (s : State) (c : Instr) : (s.emit c).man = s.man := rfl
@[simp] theorem State.emit_auth (s : State) (c : Instr) : (s.emit c).auth = s.auth := rfl
@[simp] theorem State.emit_latched (s : State) (c : Instr) : (s.emit c).latched = s.latched := rfl
@[simp] theorem State.emit_ports (s : State) (c : Instr) : (s.emit c).ports = s.ports := rfl
@[simp] theorem State.emit_clock (s : State) (c : Instr) : (s.emit c).clock = s.clock := rfl
@[simp] theorem State.emit_held (s : State) (c : Instr) : (s.emit c).held = s.held := rfl
@[simp] theorem State.emit_mail (s : State) (c : Instr) : (s.emit c).mail = s.mail ++ [c] := rfl
@[simp] theorem State.emit_pending (s : State) (c : Instr) : (s.emit c).pending = s.pending := rfl
@[simp] theorem State.emit_tier (s : State) (c : Instr) (u : Tier) : (s.emit c).tier u = s.tier u := rfl
@[simp] theorem State.emit_axisRec (s : State) (c : Instr) (b : Axis) : (s.emit c).axisRec b = s.axisRec b := rfl
@[simp] theorem State.emit_bandCells (s : State) (c : Instr) (u : Tier) (b : Nat) : (s.emit c).bandCells u b = s.bandCells u b := rfl
@[simp] theorem State.emit_stationAngle (s : State) (c : Instr) (u : Tier) (n : Station) : (s.emit c).stationAngle u n = s.stationAngle u n := rfl
@[simp] theorem State.emit_holding (s : State) (c : Instr) (u : Tier) : (s.emit c).holding u = s.holding u := rfl
@[simp] theorem State.emit_seq (s : State) (c : Instr) (u : Tier) : (s.emit c).seq u = s.seq u := rfl
@[simp] theorem State.emit_axis (s : State) (c : Instr) (b : Axis) : (s.emit c).axis b = s.axis b := rfl
@[simp] theorem State.emit_pair (s : State) (c : Instr) (u : Tier) : (s.emit c).pair u = s.pair u := rfl
@[simp] theorem State.emit_loadOf (s : State) (c : Instr) (u : Tier) : (s.emit c).loadOf u = s.loadOf u := rfl
@[simp] theorem State.emit_port (s : State) (c : Instr) (q : Port) : (s.emit c).port q = s.port q := rfl

/-! ### `emitAll` -/

@[simp] theorem State.emitAll_tables (s : State) (l : List Instr) : (s.emitAll l).tables = s.tables := rfl
@[simp] theorem State.emitAll_adm (s : State) (l : List Instr) : (s.emitAll l).adm = s.adm := rfl
@[simp] theorem State.emitAll_arb (s : State) (l : List Instr) : (s.emitAll l).arb = s.arb := rfl
@[simp] theorem State.emitAll_seqs (s : State) (l : List Instr) : (s.emitAll l).seqs = s.seqs := rfl
@[simp] theorem State.emitAll_axes (s : State) (l : List Instr) : (s.emitAll l).axes = s.axes := rfl
@[simp] theorem State.emitAll_pairs (s : State) (l : List Instr) : (s.emitAll l).pairs = s.pairs := rfl
@[simp] theorem State.emitAll_mon (s : State) (l : List Instr) : (s.emitAll l).mon = s.mon := rfl
@[simp] theorem State.emitAll_plans (s : State) (l : List Instr) : (s.emitAll l).plans = s.plans := rfl
@[simp] theorem State.emitAll_man (s : State) (l : List Instr) : (s.emitAll l).man = s.man := rfl
@[simp] theorem State.emitAll_auth (s : State) (l : List Instr) : (s.emitAll l).auth = s.auth := rfl
@[simp] theorem State.emitAll_latched (s : State) (l : List Instr) : (s.emitAll l).latched = s.latched := rfl
@[simp] theorem State.emitAll_ports (s : State) (l : List Instr) : (s.emitAll l).ports = s.ports := rfl
@[simp] theorem State.emitAll_clock (s : State) (l : List Instr) : (s.emitAll l).clock = s.clock := rfl
@[simp] theorem State.emitAll_held (s : State) (l : List Instr) : (s.emitAll l).held = s.held := rfl
@[simp] theorem State.emitAll_mail (s : State) (l : List Instr) : (s.emitAll l).mail = s.mail ++ l := rfl
@[simp] theorem State.emitAll_pending (s : State) (l : List Instr) : (s.emitAll l).pending = s.pending := rfl
@[simp] theorem State.emitAll_tier (s : State) (l : List Instr) (u : Tier) : (s.emitAll l).tier u = s.tier u := rfl
@[simp] theorem State.emitAll_axisRec (s : State) (l : List Instr) (b : Axis) : (s.emitAll l).axisRec b = s.axisRec b := rfl
@[simp] theorem State.emitAll_bandCells (s : State) (l : List Instr) (u : Tier) (b : Nat) : (s.emitAll l).bandCells u b = s.bandCells u b := rfl
@[simp] theorem State.emitAll_stationAngle (s : State) (l : List Instr) (u : Tier) (n : Station) : (s.emitAll l).stationAngle u n = s.stationAngle u n := rfl
@[simp] theorem State.emitAll_holding (s : State) (l : List Instr) (u : Tier) : (s.emitAll l).holding u = s.holding u := rfl
@[simp] theorem State.emitAll_seq (s : State) (l : List Instr) (u : Tier) : (s.emitAll l).seq u = s.seq u := rfl
@[simp] theorem State.emitAll_axis (s : State) (l : List Instr) (b : Axis) : (s.emitAll l).axis b = s.axis b := rfl
@[simp] theorem State.emitAll_pair (s : State) (l : List Instr) (u : Tier) : (s.emitAll l).pair u = s.pair u := rfl
@[simp] theorem State.emitAll_loadOf (s : State) (l : List Instr) (u : Tier) : (s.emitAll l).loadOf u = s.loadOf u := rfl
@[simp] theorem State.emitAll_port (s : State) (l : List Instr) (q : Port) : (s.emitAll l).port q = s.port q := rfl

/-! ### `raise` -/

@[simp] theorem State.raise_tables (s : State) (e : Event) : (s.raise e).tables = s.tables := rfl
@[simp] theorem State.raise_adm (s : State) (e : Event) : (s.raise e).adm = s.adm := rfl
@[simp] theorem State.raise_arb (s : State) (e : Event) : (s.raise e).arb = s.arb := rfl
@[simp] theorem State.raise_seqs (s : State) (e : Event) : (s.raise e).seqs = s.seqs := rfl
@[simp] theorem State.raise_axes (s : State) (e : Event) : (s.raise e).axes = s.axes := rfl
@[simp] theorem State.raise_pairs (s : State) (e : Event) : (s.raise e).pairs = s.pairs := rfl
@[simp] theorem State.raise_mon (s : State) (e : Event) : (s.raise e).mon = s.mon := rfl
@[simp] theorem State.raise_plans (s : State) (e : Event) : (s.raise e).plans = s.plans := rfl
@[simp] theorem State.raise_man (s : State) (e : Event) : (s.raise e).man = s.man := rfl
@[simp] theorem State.raise_auth (s : State) (e : Event) : (s.raise e).auth = s.auth := rfl
@[simp] theorem State.raise_latched (s : State) (e : Event) : (s.raise e).latched = s.latched := rfl
@[simp] theorem State.raise_ports (s : State) (e : Event) : (s.raise e).ports = s.ports := rfl
@[simp] theorem State.raise_clock (s : State) (e : Event) : (s.raise e).clock = s.clock := rfl
@[simp] theorem State.raise_held (s : State) (e : Event) : (s.raise e).held = s.held := rfl
@[simp] theorem State.raise_mail (s : State) (e : Event) : (s.raise e).mail = s.mail ++ [.latchEvent e] := rfl
@[simp] theorem State.raise_pending (s : State) (e : Event) : (s.raise e).pending = s.pending := rfl
@[simp] theorem State.raise_tier (s : State) (e : Event) (u : Tier) : (s.raise e).tier u = s.tier u := rfl
@[simp] theorem State.raise_axisRec (s : State) (e : Event) (b : Axis) : (s.raise e).axisRec b = s.axisRec b := rfl
@[simp] theorem State.raise_bandCells (s : State) (e : Event) (u : Tier) (b : Nat) : (s.raise e).bandCells u b = s.bandCells u b := rfl
@[simp] theorem State.raise_stationAngle (s : State) (e : Event) (u : Tier) (n : Station) : (s.raise e).stationAngle u n = s.stationAngle u n := rfl
@[simp] theorem State.raise_holding (s : State) (e : Event) (u : Tier) : (s.raise e).holding u = s.holding u := rfl
@[simp] theorem State.raise_seq (s : State) (e : Event) (u : Tier) : (s.raise e).seq u = s.seq u := rfl
@[simp] theorem State.raise_axis (s : State) (e : Event) (b : Axis) : (s.raise e).axis b = s.axis b := rfl
@[simp] theorem State.raise_pair (s : State) (e : Event) (u : Tier) : (s.raise e).pair u = s.pair u := rfl
@[simp] theorem State.raise_loadOf (s : State) (e : Event) (u : Tier) : (s.raise e).loadOf u = s.loadOf u := rfl
@[simp] theorem State.raise_port (s : State) (e : Event) (q : Port) : (s.raise e).port q = s.port q := rfl

end Sys2Proof.Machine
end

