-- ==== Sys2Proof/Laws/Ops.lean ====
section
/-! SUPPORT. One lemma for each shared operation: all that it can do. A proof about a command cites these and unfolds
the command's own meaning alone. -/

namespace Sys2Proof.Machine

open Sys2Proof

/-! ### The frame of a meaning -/

/-- With RESET_N high a meaning acts on the state with its command taken from the reports in flight. -/
theorem live_of_not_held (c : Instr) (f : State → State) {s : State} (h : s.held = false) :
    live c f s = .next (f (s.taken c)) := by
  simp [live, State.taken, h]

/-- While RESET_N is held low a meaning takes its command and does nothing. -/
theorem live_of_held (c : Instr) (f : State → State) {s : State} (h : s.held = true) :
    live c f s = .next (s.taken c) := by
  simp [live, State.taken, h]

/-- An input's change with RESET_N high. -/
theorem inputChange_of_not_held (c : Instr) (g f : State → State) {s : State} (h : s.held = false) :
    inputChange c g f s = .next (f (s.taken c)) := by
  simp [inputChange, State.taken, h]

/-- An input's change while RESET_N is held low. -/
theorem inputChange_of_held (c : Instr) (g f : State → State) {s : State} (h : s.held = true) :
    inputChange c g f s = .next (g (s.taken c)) := by
  simp [inputChange, State.taken, h]

/-- A request with RESET_N high: its block acts and the answer is handed to the port. -/
theorem request_of_not_held (c : Instr) (q : Src) (k : Byte) (f : State → Answer) {s : State} (h : s.held = false) :
    request c q k f s =
      .next ((f (s.taken c)).1.putReply q (k + 0x80) (f (s.taken c)).2.1 (f (s.taken c)).2.2) := by
  simp [request, live_of_not_held _ _ h]

/-! ### Taking a command -/

@[simp] theorem taken_tables (s : State) (c : Instr) : (s.taken c).tables = s.tables := rfl
@[simp] theorem taken_adm (s : State) (c : Instr) : (s.taken c).adm = s.adm := rfl
@[simp] theorem taken_arb (s : State) (c : Instr) : (s.taken c).arb = s.arb := rfl
@[simp] theorem taken_seqs (s : State) (c : Instr) : (s.taken c).seqs = s.seqs := rfl
@[simp] theorem taken_axes (s : State) (c : Instr) : (s.taken c).axes = s.axes := rfl
@[simp] theorem taken_pairs (s : State) (c : Instr) : (s.taken c).pairs = s.pairs := rfl
@[simp] theorem taken_mon (s : State) (c : Instr) : (s.taken c).mon = s.mon := rfl
@[simp] theorem taken_plans (s : State) (c : Instr) : (s.taken c).plans = s.plans := rfl
@[simp] theorem taken_man (s : State) (c : Instr) : (s.taken c).man = s.man := rfl
@[simp] theorem taken_auth (s : State) (c : Instr) : (s.taken c).auth = s.auth := rfl
@[simp] theorem taken_latched (s : State) (c : Instr) : (s.taken c).latched = s.latched := rfl
@[simp] theorem taken_ports (s : State) (c : Instr) : (s.taken c).ports = s.ports := rfl
@[simp] theorem taken_clock (s : State) (c : Instr) : (s.taken c).clock = s.clock := rfl
@[simp] theorem taken_held (s : State) (c : Instr) : (s.taken c).held = s.held := rfl
@[simp] theorem taken_mail (s : State) (c : Instr) : (s.taken c).mail = s.mail.erase c := rfl
@[simp] theorem taken_pending (s : State) (c : Instr) : (s.taken c).pending = s.pending := rfl
@[simp] theorem taken_tier (s : State) (c : Instr) (u : Tier) : (s.taken c).tier u = s.tier u := rfl
@[simp] theorem taken_axisRec (s : State) (c : Instr) (a : Axis) : (s.taken c).axisRec a = s.axisRec a := rfl
@[simp] theorem taken_bandCells (s : State) (c : Instr) (u : Tier) (b : Nat) :
    (s.taken c).bandCells u b = s.bandCells u b := rfl
@[simp] theorem taken_stationAngle (s : State) (c : Instr) (u : Tier) (n : Station) :
    (s.taken c).stationAngle u n = s.stationAngle u n := rfl
@[simp] theorem taken_holding (s : State) (c : Instr) (u : Tier) : (s.taken c).holding u = s.holding u := rfl
@[simp] theorem taken_seq (s : State) (c : Instr) (u : Tier) : (s.taken c).seq u = s.seq u := rfl
@[simp] theorem taken_axis (s : State) (c : Instr) (a : Axis) : (s.taken c).axis a = s.axis a := rfl
@[simp] theorem taken_pair (s : State) (c : Instr) (u : Tier) : (s.taken c).pair u = s.pair u := rfl
@[simp] theorem taken_loadOf (s : State) (c : Instr) (u : Tier) : (s.taken c).loadOf u = s.loadOf u := rfl
@[simp] theorem taken_port (s : State) (c : Instr) (p : Port) : (s.taken c).port p = s.port p := rfl
@[simp] theorem taken_axisPresent (s : State) (c : Instr) (a : Axis) : (s.taken c).axisPresent a = s.axisPresent a := rfl
@[simp] theorem taken_axisRange (s : State) (c : Instr) (a : Axis) : (s.taken c).axisRange a = s.axisRange a := rfl

/-! ### Ports -/

/-- Letting a port dispatch changes the reports in flight alone. -/
theorem kick_eq (s : State) (p : Port) :
    s.kick p = s ∨ s.kick p = { s with mail := s.mail ++ [.frameDispatch p] } := by
  unfold State.kick State.emit
  split
  · exact .inr rfl
  · exact .inl rfl

/-- Serving a port pumps its transmitter and may let it dispatch. -/
theorem serve_eq (s : State) (p : Port) :
    s.serve p = { s with ports := s.ports.setPort p (s.port p).pump } ∨
      s.serve p =
        { s with ports := s.ports.setPort p (s.port p).pump, mail := s.mail ++ [.frameDispatch p] } :=
  kick_eq (s.modPort p LinkPort.pump) p

/-- A port handed a reply and pumped: an idle transmitter sends the reply, a busy one leaves it in the slot. -/
theorem pump_reply (x : LinkPort) (f : Frame) :
    ({ x with reply := some f } : LinkPort).pump =
      { x with
        sending := some (x.sending.getD (frameBytes f))
        reply := if x.sending.isSome then some f else none } := by
  cases h : x.sending <;> simp [LinkPort.pump]

/-- A reply handed to a port: its frame is sent or waits, and nothing else differs but the reports in flight. -/
theorem putReply_eq (s : State) (q : Src) (kind : Byte) (st : Status) (body : List Byte) :
    Replied s (s.putReply q (kind + 0x80) st body) q kind st body ∧
      OnlyPorts s (s.putReply q (kind + 0x80) st body) ∧
      ((s.putReply q (kind + 0x80) st body).mail = s.mail ∨
        (s.putReply q (kind + 0x80) st body).mail = s.mail ++ [.frameDispatch q.port]) := by
  have h : ∀ x : LinkPort, _ := fun x => pump_reply x (replyFrame q kind st body)
  rcases serve_eq (s.modPort q.port fun p => { p with reply := some ⟨kind + 0x80, q.tag, statusCode st :: body⟩ }) q.port
    with e | e <;>
  · simp only [State.putReply, e, Replied, OnlyPorts, State.modPort_ports, State.modPort_mail, State.modPort_port,
      if_true, Both.setPort_setPort]
    refine ⟨?_, rfl, ?_⟩
    · exact congrArg _ (h (s.port q.port))
    · simp

/-- A request whose block changes no port and sends `sent`: it is answered in the same event, and the rest of the state
after it is what the block leaves. -/
theorem request_answered (c : Instr) (q : Src) (k : Byte) (f : State → Answer) {s : State} (sent : List Instr)
    (h : s.held = false) (hp : (f (s.taken c)).1.ports = s.ports)
    (hm : (f (s.taken c)).1.mail = s.mail.erase c ++ sent) :
    ∃ t, request c q k f s = .next t ∧ OnlyPorts (f (s.taken c)).1 t ∧
      Answered s t c q k (f (s.taken c)).2.1 (f (s.taken c)).2.2 sent := by
  refine ⟨_, request_of_not_held c q k f h, (putReply_eq ..).2.1, ?_, ?_⟩
  · have := (putReply_eq (f (s.taken c)).1 q k (f (s.taken c)).2.1 (f (s.taken c)).2.2).1
    unfold Replied State.port at *
    rw [hp] at this
    exact this
  · have := (putReply_eq (f (s.taken c)).1 q k (f (s.taken c)).2.1 (f (s.taken c)).2.2).2.2
    simpa only [Mailed, hm] using this

/-- A request whose block changes no port: it is answered in the same event, and every report that the block sends is in
flight after it. -/
theorem request_replied (c : Instr) (q : Src) (k : Byte) (f : State → Answer) {s : State}
    (h : s.held = false) (hp : (f (s.taken c)).1.ports = s.ports) :
    ∃ t, request c q k f s = .next t ∧ OnlyPorts (f (s.taken c)).1 t ∧
      Replied s t q k (f (s.taken c)).2.1 (f (s.taken c)).2.2 ∧ ∀ m ∈ (f (s.taken c)).1.mail, m ∈ t.mail := by
  refine ⟨_, request_of_not_held c q k f h, (putReply_eq ..).2.1, ?_, ?_⟩
  · have := (putReply_eq (f (s.taken c)).1 q k (f (s.taken c)).2.1 (f (s.taken c)).2.2).1
    unfold Replied State.port at *
    rw [hp] at this
    exact this
  · intro m hm
    rcases (putReply_eq (f (s.taken c)).1 q k (f (s.taken c)).2.1 (f (s.taken c)).2.2).2.2 with e | e <;> rw [e]
    · exact hm
    · exact List.mem_append_left _ hm

/-- A port judges its ATTN line: nothing else differs. -/
theorem judge_eq (s : State) (p : Port) :
    s.judge p = { s with ports := s.ports.setPort p { s.port p with attn := (s.latched &&& (s.port p).enabled) != 0 } } :=
  rfl

/-! ### A pass asked for -/

/-- Asking for a pass sets the flag and sends the pass when none was asked for; nothing else differs. -/
theorem requestPass_eq (s : State) :
    s.requestPass =
      { s with
        arb := { s.arb with passRequested := true }
        mail := if s.arb.passRequested then s.mail else s.mail ++ [.grantPass] } := by
  unfold State.requestPass
  split
  · rename_i h
    have e : s.arb = { s.arb with passRequested := true } := by rw [← h]
    exact congrArg (fun x => { s with arb := x }) e
  · rename_i h
    simp [State.modArb, State.emit]

/-- The list of pending moves has changed: the detector is armed and a pass asked for; nothing else differs. -/
theorem listChanged_eq (s : State) :
    s.listChanged =
      { s with
        arb := { s.arb with armed := true, passRequested := true }
        mail := if s.arb.passRequested then s.mail else s.mail ++ [.grantPass] } := by
  simp [State.listChanged, requestPass_eq, State.modArb]

/-! ### Sequencers -/

/-- What a sequencer has told is set to what it has to tell; beyond that only reports are sent. -/
theorem seqReport_eq (s : State) (t : Tier) :
    (s.seqReport t).seq t = told (s.seq t) ∧ (∀ u, u ≠ t → (s.seqReport t).seq u = s.seq u) ∧
      s.seqReport t = { s with seqs := (s.seqReport t).seqs, mail := (s.seqReport t).mail } ∧
      ∀ m ∈ s.mail, m ∈ (s.seqReport t).mail := by
  simp only [State.seqReport]
  refine ⟨?_, ?_, ?_, ?_⟩
  · simp only [State.modSeq_seq, if_true]
    split <;> split <;> split <;> rfl
  · intro u hu
    simp only [State.modSeq_seq, if_neg hu]
    split <;> split <;> split <;> rfl
  · split <;> split <;> split <;> rfl
  · intro m hm
    simp only [State.modSeq_mail]
    split <;> split <;> split <;> simp [State.emit, hm]

/-- The active move of a tier changed: that sequencer's slot alone differs. -/
theorem modActive_eq (s : State) (t : Tier) (f : Active → Active) :
    s.modActive t f = s.modSeq t fun q => { q with slot := q.slot.map f } := rfl

/-- Ending the active move empties its slot, keeps its record for admission and sends its end. -/
theorem endMove_ends (s : State) (t : Tier) (a : Active) (o : MoveOutcome) (r : Reason) (h : (s.seq t).slot = some a) :
    MoveEnded s (s.endMove t o r) t a o r ∧
      s.endMove t o r = { s with seqs := (s.endMove t o r).seqs, mail := (s.endMove t o r).mail } ∧
      (∀ u, u ≠ t → (s.endMove t o r).seq u = s.seq u) ∧ (∀ m ∈ s.mail, m ∈ (s.endMove t o r).mail) := by
  simp only [State.endMove, h, MoveEnded]
  cases ho : a.move.origin <;>
  · refine ⟨⟨?_, ?_, ?_, ?_, ?_⟩, rfl, ?_, ?_⟩ <;> simp +contextual

/-- Taking an end drops the record of that number from its tier's ends; nothing else differs. -/
theorem dropEnding_eq (s : State) (t : Tier) (n : Nat) :
    s.dropEnding t n =
      { s with seqs := s.seqs.set t { s.seq t with ending := (s.seq t).ending.filter fun e => e.move.number != n } } := rfl

/-! ### Load figures -/

/-- The overload check sets the mark of a travelling tier by its finding, reports a finding that raises the mark, and changes
nothing else. -/
theorem checkOverload_found (s : State) (t : Tier) :
    (s.checkOverload t).loadOf t = { s.loadOf t with
      overMark := if (s.loadOf t).inTravel.isSome then decide (((s.tier t).overload : Int) < (s.loadOf t).net)
        else (s.loadOf t).overMark } ∧
      (∀ u, u ≠ t → (s.checkOverload t).loadOf u = s.loadOf u) ∧
      (∀ n, (s.loadOf t).inTravel = some n → ((s.tier t).overload : Int) < (s.loadOf t).net →
        (s.loadOf t).overMark = false →
        Instr.causeReport ⟨.overload, some t, none, .move n, none, none, some (s.loadOf t).net⟩ ∈ (s.checkOverload t).mail) ∧
      (∀ m ∈ s.mail, m ∈ (s.checkOverload t).mail) ∧
      s.checkOverload t = { s with
        mon := { s.mon with tiers := (s.checkOverload t).mon.tiers }, mail := (s.checkOverload t).mail } := by
  cases h : (s.loadOf t).inTravel with
  | none =>
    have e : s.checkOverload t = s := by simp only [State.checkOverload, h]
    rw [e]
    exact ⟨rfl, fun _ _ => rfl, by simp, fun _ hm => hm, rfl⟩
  | some n =>
    simp only [State.checkOverload, h, State.when]
    split
    · exact ⟨by simp [h], by simp +contextual, by simp +contextual, by simp +contextual, rfl⟩
    · next hn =>
      refine ⟨by simp [h], by simp +contextual, fun m _ hf hk => ?_, by simp, rfl⟩
      simp [hf, hk] at hn

/-- A recomputation finds the tier's figures again from its cells and tare, which it leaves, and changes nothing else beyond
a pass asked for and the reports in flight. -/
theorem recomputeLoad_found (s : State) (t : Tier) :
    FoundAgain s (s.recomputeLoad t) t ∧ ((s.recomputeLoad t).loadOf t).cells = (s.loadOf t).cells ∧
      ((s.recomputeLoad t).loadOf t).tare = (s.loadOf t).tare ∧
      (∀ u, u ≠ t → (s.recomputeLoad t).loadOf u = s.loadOf u) ∧ (∀ m ∈ s.mail, m ∈ (s.recomputeLoad t).mail) ∧
      s.recomputeLoad t = { s with
        mon := { s.mon with tiers := (s.recomputeLoad t).mon.tiers }
        arb := { s.arb with passRequested := (s.recomputeLoad t).arb.passRequested }, mail := (s.recomputeLoad t).mail } := by
  obtain ⟨n, hn⟩ : ∃ n, n = (s.loadOf t).recomputed (s.tier t).presence := ⟨_, rfl⟩
  obtain ⟨s2, h2⟩ : ∃ s2, s2 = (s.modLoad t fun _ => n).when
      ((s.tier t).present && (decide (n.valid ≠ (s.loadOf t).valid) || decide (n.occupied ≠ (s.loadOf t).occupied)))
      fun s => s.requestPass.raise (.load t n.valid n.occupied n.net) := ⟨_, rfl⟩
  have hr : s.recomputeLoad t = s2.checkOverload t := by rw [h2, hn]; rfl
  have ha : s2.loadOf t = n ∧ (∀ u, u ≠ t → s2.loadOf u = s.loadOf u) ∧ s2.tier t = s.tier t ∧ s2.mon =
      { s.mon with tiers := s2.mon.tiers } ∧ (∀ m ∈ s.mail, m ∈ s2.mail) ∧
      ((s.tier t).present = true → n.valid ≠ (s.loadOf t).valid ∨ n.occupied ≠ (s.loadOf t).occupied →
        s2.arb.passRequested = true ∧ Instr.latchEvent (.load t n.valid n.occupied n.net) ∈ s2.mail) ∧
      s2 = { s with
        mon := s2.mon, arb := { s.arb with passRequested := s2.arb.passRequested }, mail := s2.mail } := by
    rw [h2, State.when]
    split
    · rw [requestPass_eq]
      refine ⟨Eight.get_set_self .., fun u hu => ?_, rfl, rfl, fun m hm => ?_, fun _ _ => ⟨rfl, ?_⟩, rfl⟩
      · exact (State.modLoad_loadOf s t (fun _ => n) u).trans (if_neg hu)
      · simp only [State.raise, State.emit_mail]; split <;> simp [hm]
      · simp
    · next h =>
      refine ⟨by simp, by simp +contextual, rfl, rfl, fun m hm => hm, fun hp hk => ?_, rfl⟩
      simp only [hp, Bool.true_and, Bool.or_eq_true, decide_eq_true_eq] at h
      exact absurd hk h
  obtain ⟨hl, ho, ht, hmon, hm, hc, he⟩ := ha
  obtain ⟨gl, go, gc, gm, ge⟩ := checkOverload_found s2 t
  rw [hl, ht] at gl gc
  have hv : n.valid = (!n.cells.isEmpty && n.cells.all fun x => x.state != .failed) := by rw [hn]; rfl
  have hi : n.inTravel = (s.loadOf t).inTravel := by rw [hn]; rfl
  have hk : n.overMark = (s.loadOf t).overMark := by rw [hn]; rfl
  have hcells : n.cells = (s.loadOf t).cells := by rw [hn]; rfl
  have htare : n.tare = (s.loadOf t).tare := by rw [hn]; rfl
  have hnet : n.net = (n.cells.map fun x => x.reading.getD 0).sum - n.tare := by rw [hn]; rfl
  have hocc : n.occupied = if n.valid = false then (s.loadOf t).occupied
      else if (s.loadOf t).occupied then decide ((s.tier t).presence * 3 / 4 < n.net.natAbs)
      else decide ((s.tier t).presence < n.net.natAbs) := by
    rw [hn]; simp only [TierLoad.recomputed, occupiedAfter]
    by_cases h : loadValid (s.loadOf t).cells = true
    · simp [h]; rfl
    · simp [h]
  have harb : (s2.checkOverload t).arb = s2.arb := by rw [ge]
  rw [hr]
  refine ⟨⟨?_, ?_, ?_, fun hp hd => ?_, ?_, fun h => ?_, fun m h => ⟨?_, fun hf hz => ?_⟩⟩, ?_, ?_, fun u hu => ?_,
    fun m h => gm m (hm m h), ?_⟩
  · rw [gl]; exact hv
  · rw [gl]; exact hnet
  · rw [gl]; exact hocc
  · rw [gl] at hd ⊢
    obtain ⟨x, y⟩ := hc hp hd
    exact ⟨by rw [harb]; exact x, gm _ y⟩
  · rw [gl]; exact hi
  · rw [gl]; simp [hi, h, hk]
  · rw [gl]; simp [hi, h]
  · rw [gl] at hf ⊢
    exact gc m (hi.trans h) hf (hk.trans hz)
  · rw [gl]; exact hcells
  · rw [gl]; exact htare
  · exact (go u hu).trans (ho u hu)
  · have e : { s2 with mon := { s2.mon with tiers := (s2.checkOverload t).mon.tiers }
                       mail := (s2.checkOverload t).mail } = s2.checkOverload t := ge.symm
    rw [harb, ← e]
    rw [he, hmon]

/-! ### Check 3 of R23 -/

/-- A MOVE is taken in CLEAR, HOLDING and HELD and while an order to empty the list is on its way (R23, R32). -/
theorem takesMove_direct (s : State) : s.takesMove .direct = (admitsMoves s.man.state || s.man.emptying) := rfl

/-- A plan's submission is taken in CLEAR, HOLDING and HELD alone (R142, R147). -/
theorem takesMove_plan (s : State) (p : PlanNo) (k : Nat) : s.takesMove (.plan p k) = admitsMoves s.man.state := by
  simp [State.takesMove]

/-- The end of a tier's jog: the jog is gone, its tier's exemption marks are clear, and TIER is raised. -/
theorem endJog_eq (s : State) (t : Tier) :
    s.endJog t =
      { s with
        seqs := s.seqs.set t { s.seq t with jog := none }
        man := { s.man with exempt := s.man.exempt.set t ⟨false, false, false⟩ }
        mail := s.mail ++ [.latchEvent (.tier t .jogEnded)] } := rfl

/-! ### Arrival and rest at a sequencer -/

/-- Brakes ordered to apply where they stood released: the occupant's axes are ordered and the mark is set. -/
theorem applyBrakes_of_released (s : State) (t : Tier) (h : (s.seq t).braked = false) :
    s.applyBrakes t =
      (s.emit (if (s.seq t).turns then .brakeApplyOrder ⟨t, .R⟩ else .pairApplyOrder t)).modSeq t fun q =>
        { q with braked := true } := by
  unfold State.applyBrakes
  rw [h, if_neg (by decide)]
  split <;> rfl

/-- Brakes that stand applied are not ordered again. -/
theorem applyBrakes_of_braked (s : State) (t : Tier) (h : (s.seq t).braked = true) : s.applyBrakes t = s := by
  unfold State.applyBrakes
  rw [h, if_pos rfl]

/-- A jog that enters SET_BRAKE. -/
theorem jogSetBrake_brakes (s : State) (t : Tier) (j : Jog) (hs : (s.seq t).slot = none) (hj : (s.seq t).jog = some j) :
    JogBrakes (s.seq t) ((s.jogSetBrake t).seqReport t) t j ∧ KeepsExempt s ((s.jogSetBrake t).seqReport t) t := by
  obtain ⟨hq, -, hf, hm⟩ := seqReport_eq (s.jogSetBrake t) t
  have man : ((s.jogSetBrake t).seqReport t).man = (s.jogSetBrake t).man := by rw [hf]
  unfold JogBrakes JogEnded KeepsExempt
  rw [hq, man]
  cases hb : (s.seq t).braked
  · have e : s.jogSetBrake t = (s.modJog t fun j => { j with stage := .setBrake }).applyBrakes t := by
      unfold State.jogSetBrake
      rw [hb]
      rfl
    have ht : ((s.modJog t fun j => { j with stage := .setBrake }).seq t).turns = (j.target == .rotation) := by
      simp [State.modJog, Seq.turns, hs, hj]
    have hb' : ((s.modJog t fun j => { j with stage := .setBrake }).seq t).braked = false := by simp [State.modJog, hb]
    rw [applyBrakes_of_released _ _ hb', ht] at e
    refine ⟨⟨by simp [e, State.modJog, hj, told], hm _ ?_⟩, fun _ => by simp [e, State.modJog]⟩
    rw [e]
    simp only [State.modSeq_mail, State.emit]
    by_cases h : j.target = .rotation <;> simp [h]
  · have e : s.jogSetBrake t = s.endJog t := by
      unfold State.jogSetBrake
      rw [hb]
      rfl
    have hj' : (s.jogSetBrake t).seq t = { s.seq t with jog := none } := by rw [e]; simp [endJog_eq, State.seq]
    have hm' := hm (.latchEvent (.tier t .jogEnded)) (by rw [e]; simp [endJog_eq])
    exact ⟨⟨by rw [hj']; simp only [hb], by simp [e, endJog_eq], hm'⟩, fun h => by rw [hj', hj] at h; cases h⟩

/-- Arrival at a sequencer, with the reports of its tier. -/
theorem seqArrival_taken (s : State) (t : Tier) : ArrivalTaken s ((s.seqArrival t).seqReport t) t := by
  obtain ⟨hq, -, hf, -⟩ := seqReport_eq (s.seqArrival t) t
  have man : ((s.seqArrival t).seqReport t).man = (s.seqArrival t).man := by rw [hf]
  unfold ArrivalTaken
  cases hs : (s.seq t).slot with
  | some a =>
    have e : s.seqArrival t = if a.stage = .travel then s.modActive t fun a => { a with stage := .settle } else s := by
      unfold State.seqArrival
      rw [hs]
    refine ⟨fun _ => by rw [man, e]; split <;> rfl, ?_⟩
    show _ = told _
    rw [hq, e]
    split <;> simp [State.modActive, hs]
  | none =>
    cases hj : (s.seq t).jog with
    | none =>
      have e : s.seqArrival t = s := by unfold State.seqArrival; rw [hs, hj]
      exact ⟨fun _ => by rw [man, e], by show _ = told _; rw [hq, e]⟩
    | some j =>
      have e : s.seqArrival t = if j.stage = .travel ∨ j.stage = .halting then s.jogSetBrake t else s := by
        unfold State.seqArrival; rw [hs, hj]
      show _ ∧ if _ then _ else _
      split
      · rename_i h
        rw [if_pos h] at e
        rw [e]
        exact (jogSetBrake_brakes s t j hs hj).symm
      · rename_i h
        rw [if_neg h] at e
        exact ⟨fun _ => by rw [man, e], by rw [hq, e]⟩

/-- A move that enters SET_BRAKE. -/
theorem enterSetBrake_brakes (s : State) (t : Tier) (a : Active) (hs : (s.seq t).slot = some a) :
    MoveBrakes (s.seq t) ((s.enterSetBrake t).seqReport t) t a ∧ (s.enterSetBrake t).man = s.man := by
  obtain ⟨hq, -, -, hm⟩ := seqReport_eq (s.enterSetBrake t) t
  unfold MoveBrakes
  rw [hq]
  have e : s.enterSetBrake t = (s.modActive t fun a => { a with stage := .setBrake }).applyBrakes t := rfl
  have ht : ((s.modActive t fun a => { a with stage := .setBrake }).seq t).turns = (a.move.goal.kind == .rotate) := by
    simp [State.modActive, Seq.turns, hs]
  cases hb : (s.seq t).braked
  · rw [applyBrakes_of_released _ _ (by simp [State.modActive, hb]), ht] at e
    refine ⟨⟨by simp [e, State.modActive, hs, told], fun _ => hm _ ?_⟩, by rw [e]; rfl⟩
    rw [e]
    simp only [State.modSeq_mail, State.emit]
    by_cases h : a.move.goal.kind = .rotate <;> simp [h]
  · rw [applyBrakes_of_braked _ _ (by simp [State.modActive, hb])] at e
    exact ⟨⟨by simp [e, State.modActive, hs, told, hb], fun h => by simp at h⟩, by rw [e]; rfl⟩

/-- Rest at a sequencer, with the reports of its tier. -/
theorem seqRest_taken (s : State) (t : Tier) : RestTaken s ((s.seqRest t).seqReport t) t := by
  obtain ⟨hq, -, hf, -⟩ := seqReport_eq (s.seqRest t) t
  have man : ((s.seqRest t).seqReport t).man = (s.seqRest t).man := by rw [hf]
  unfold RestTaken
  cases hs : (s.seq t).slot with
  | some a =>
    have e : s.seqRest t = if a.stage = .suspending ∨ a.stage = .halting then s.enterSetBrake t else s := by
      unfold State.seqRest
      rw [hs]
    show _ ∧ if _ then _ else _
    split
    · rename_i h
      rw [if_pos h] at e
      rw [e] at man ⊢
      exact ⟨fun _ => by rw [man, (enterSetBrake_brakes s t a hs).2], (enterSetBrake_brakes s t a hs).1⟩
    · rename_i h
      rw [if_neg h] at e
      exact ⟨fun _ => by rw [man, e], by rw [hq, e]⟩
  | none =>
    cases hj : (s.seq t).jog with
    | none =>
      have e : s.seqRest t = s := by unfold State.seqRest; rw [hs, hj]
      exact ⟨fun _ => by rw [man, e], by show _ = told _; rw [hq, e]⟩
    | some j =>
      have e : s.seqRest t = if j.stage = .halting then s.jogSetBrake t else s := by
        unfold State.seqRest; rw [hs, hj]
      show _ ∧ if _ then _ else _
      split
      · rename_i h
        rw [if_pos h] at e
        rw [e]
        exact (jogSetBrake_brakes s t j hs hj).symm
      · rename_i h
        rw [if_neg h] at e
        exact ⟨fun _ => by rw [man, e], by rw [hq, e]⟩

/-- Rest at a sequencer leaves every axis and every pair as they are: an order to apply a brake is sent, not carried out. -/
theorem seqRest_keeps_axes (s : State) (t : Tier) :
    ((s.seqRest t).seqReport t).axes = s.axes ∧ ((s.seqRest t).seqReport t).pairs = s.pairs := by
  obtain ⟨-, -, hf, -⟩ := seqReport_eq (s.seqRest t) t
  rw [hf]
  have brakes (x : State) : (x.applyBrakes t).axes = x.axes ∧ (x.applyBrakes t).pairs = x.pairs := by
    unfold State.applyBrakes; dsimp only; split_ifs <;> exact ⟨rfl, rfl⟩
  have jog : (s.jogSetBrake t).axes = s.axes ∧ (s.jogSetBrake t).pairs = s.pairs := by
    unfold State.jogSetBrake; split
    exacts [⟨rfl, rfl⟩, brakes _]
  unfold State.seqRest
  split
  · split
    exacts [brakes _, ⟨rfl, rfl⟩]
  · split
    exacts [jog, ⟨rfl, rfl⟩]
  · exact ⟨rfl, rfl⟩

/-- A pair that comes to rest has both its jacks at rest with it. -/
theorem pairRest_jacks (s : State) (t : Tier) (j : Jack) : JackAtRest (s.pairRest t) t j := by
  obtain ⟨s1, h1⟩ : ∃ s1, s1 = s.modPair t fun p =>
    { p with v := 0, phase := .still, gather := ⟨.counting, .counting⟩ } := ⟨_, rfl⟩
  obtain ⟨s2, h2⟩ : ∃ s2, s2 = s1.modJacks t fun x =>
    { x.follow (s1.pair t) (s1.capOf t) with phase := .still } := ⟨_, rfl⟩
  have e : s.pairRest t = (s2.seqRest t).seqReport t := by rw [h2, h1]; rfl
  obtain ⟨ha, hp⟩ := seqRest_keeps_axes s2 t
  have hx : (s.pairRest t).axis (jackAxis t j) =
      { (s1.axis (jackAxis t j)).follow (s1.pair t) (s1.capOf t) with phase := .still } := by
    rw [e, State.axis, ha, ← State.axis, h2]
    cases j <;> simp [State.modJacks, jackAxis]
  have hy : (s.pairRest t).pair t = s1.pair t := by rw [e, State.pair, hp, h2]; rfl
  have hv : (s1.pair t).v = 0 := by rw [h1]; simp
  unfold JackAtRest
  rw [hx, hy]
  exact ⟨rfl, hv, rfl, rfl, fun d hd => by simp [AxisCtl.follow, hd]⟩

/-! ### The stop manager -/

/-- HOLDING becomes HELD and STOPPING becomes STOPPED, when every tier is braked, with a STOP event; nothing else differs. -/
theorem settleStop_eq (s : State) :
    s.settleStop = s ∨ ∃ st, s.settleStop = s.setStop st none ∧ (st = .held ∨ st = .stopped) := by
  unfold State.settleStop
  split
  · split
    · exact .inr ⟨_, rfl, .inl rfl⟩
    · exact .inr ⟨_, rfl, .inr rfl⟩
    · exact .inl rfl
  · exact .inl rfl

/-- From `s` to `t` the stop manager alone has acted. -/
def OnlyMan (s t : State) : Prop := t = { s with man := t.man, mail := t.mail }

theorem OnlyMan.trans {s t u : State} (h : OnlyMan s t) (g : OnlyMan t u) : OnlyMan s u := by
  unfold OnlyMan at *
  rw [g, h]

theorem onlyMan_modMan (s : State) (f : StopManager → StopManager) : OnlyMan s (s.modMan f) := rfl
theorem onlyMan_emit (s : State) (c : Instr) : OnlyMan s (s.emit c) := rfl
theorem onlyMan_emitAll (s : State) (l : List Instr) : OnlyMan s (s.emitAll l) := rfl

theorem onlyMan_setStop (s : State) (st : StopState) (k : Option Kind) : OnlyMan s (s.setStop st k) := rfl

theorem onlyMan_settleStop (s : State) : OnlyMan s s.settleStop := by
  rcases settleStop_eq s with e | ⟨st, e, -⟩ <;> rw [e]
  · rfl
  · exact onlyMan_setStop ..

theorem onlyMan_raiseFault (s : State) (c : Cause) (b : Bool) : OnlyMan s (s.raiseFault c b) := by
  unfold State.raiseFault
  split <;> rfl

/-- Taking a cause changes the stop manager's state and sends reports; no other block differs. -/
theorem takeCause_frame (s : State) (c : Cause) : OnlyMan s (s.takeCause c) := by
  unfold State.takeCause
  split
  · exact (onlyMan_modMan s _).trans (onlyMan_raiseFault ..)
  · dsimp only
    split
    · split
      · exact ((((onlyMan_modMan s _).trans (onlyMan_raiseFault ..)).trans (onlyMan_setStop ..)).trans
          (onlyMan_emitAll ..)).trans ((onlyMan_emit ..).trans (onlyMan_settleStop _))
      · exact ((((onlyMan_modMan s _).trans (onlyMan_raiseFault ..)).trans (onlyMan_setStop ..)).trans
          (onlyMan_modMan ..)).trans (((onlyMan_emitAll ..).trans (onlyMan_emitAll ..)).trans (onlyMan_settleStop _))
      · exact ((((onlyMan_modMan s _).trans (onlyMan_raiseFault ..)).trans (onlyMan_modMan ..)).trans
          ((onlyMan_emitAll ..).trans (onlyMan_setStop ..))).trans
          ((onlyMan_modMan ..).trans ((onlyMan_emitAll ..).trans (onlyMan_emitAll ..)))
    · exact (onlyMan_modMan s _).trans (onlyMan_raiseFault ..)

/-! ### Admission -/

/-- The outcomes list after a record is the 16 newest, from a list of at most 16. -/
theorem pushOutcome_eq (l : List OutcomeRec) (o : OutcomeRec) (h : l.length ≤ 16) :
    pushOutcome l o = newest16 (l ++ [o]) := by
  unfold pushOutcome newest16 Config.outcomesCapacity
  split
  · rename_i hl
    have : (l ++ [o]).length - 16 = 0 := by simp; omega
    rw [this]; rfl
  · rename_i hl
    have : l.length = 16 := by omega
    have e : (l ++ [o]).length - 16 = 1 := by simp [this]
    rw [e, this]
    cases l with
    | nil => simp at this
    | cons x xs => simp

/-- The outcomes list keeps at most 16 records. -/
theorem pushOutcome_length (l : List OutcomeRec) (o : OutcomeRec) : (pushOutcome l o).length ≤ 16 := by
  unfold pushOutcome Config.outcomesCapacity
  split <;> simp <;> omega

/-- A pending move's end changes the pending list, the outcomes list, the detector and the pass flag, and sends reports. -/
theorem endPending_frame (s : State) (m : MoveRec) (o : MoveOutcome) (r : Reason) :
    (s.endPending m o r).adm =
      { s.adm with
        waiting := s.adm.waiting.filter fun y => y.number != m.number
        outcomes := pushOutcome s.adm.outcomes (endRecord m o r s.clock) } ∧
    s.endPending m o r =
      { s with
        adm := (s.endPending m o r).adm, arb := { s.arb with armed := true, passRequested := true }
        mail := (s.endPending m o r).mail } ∧
    Instr.latchEvent (.moveEnd (endRecord m o r s.clock)) ∈ (s.endPending m o r).mail ∧
    Instr.freedEntry ∈ (s.endPending m o r).mail ∧ ∀ c ∈ s.mail, c ∈ (s.endPending m o r).mail := by
  simp only [State.endPending, listChanged_eq]
  have keep : ∀ (b : Bool) (l : List Instr) (c x : Instr), c ∈ l → c ∈ if b then l else l ++ [x] := by
    intro b l c x hc
    cases b <;> simp [hc]
  cases m.origin <;>
  · refine ⟨rfl, rfl, keep _ _ _ _ ?_, keep _ _ _ _ ?_, fun c hc => keep _ _ _ _ ?_⟩ <;>
      simp +contextual [State.recordEnd, MoveRec.ended, endRecord, *]

/-- Of a list of at most 16 records the newest 16 are all. -/
theorem newest16_short (l : List OutcomeRec) (h : l.length ≤ 16) : newest16 l = l := by
  rw [newest16, Nat.sub_eq_zero_of_le h, List.drop_zero]

/-- Records dropped before others join would be dropped after. -/
theorem newest16_append (a b : List OutcomeRec) : newest16 (newest16 a ++ b) = newest16 (a ++ b) := by
  unfold newest16
  obtain h | h := Nat.le_total a.length 16
  · rw [Nat.sub_eq_zero_of_le h, List.drop_zero]
  · have e : a.drop (a.length - 16) ++ b = (a ++ b).drop (a.length - 16) := by
      rw [List.drop_append_of_le_length (by omega)]
    rw [e, List.drop_drop]
    congr 1
    simp only [List.length_drop, List.length_append]
    omega

/-- Some pending moves ended one after another, with one outcome and reason: their numbers leave the list, their records join
the outcomes list in order, and each end raises MOVE_END. -/
theorem endEach_frame (l : List MoveRec) (o : MoveOutcome) (r : Reason) (s : State) (h : s.adm.outcomes.length ≤ 16) :
    (s.forEach l fun m s => s.endPending m o r).adm =
      { s.adm with
        waiting := s.adm.waiting.filter fun y => !(l.map (·.number)).contains y.number
        outcomes := newest16 (s.adm.outcomes ++ l.map fun m => endRecord m o r s.clock) } ∧
    (s.forEach l fun m s => s.endPending m o r) =
      { s with
        adm := (s.forEach l fun m s => s.endPending m o r).adm
        arb := if l = [] then s.arb else { s.arb with armed := true, passRequested := true }
        mail := (s.forEach l fun m s => s.endPending m o r).mail } ∧
    (∀ m ∈ l, Instr.latchEvent (.moveEnd (endRecord m o r s.clock)) ∈ (s.forEach l fun m s => s.endPending m o r).mail) ∧
    ∀ c ∈ s.mail, c ∈ (s.forEach l fun m s => s.endPending m o r).mail := by
  induction l generalizing s with
  | nil => simp [State.forEach, newest16_short _ h]
  | cons m rest ih =>
    obtain ⟨ha, hf, he, -, hk⟩ := endPending_frame s m o r
    have hl : (s.endPending m o r).adm.outcomes.length ≤ 16 := by rw [ha]; exact pushOutcome_length ..
    have hc : (s.endPending m o r).clock = s.clock := by rw [hf]
    obtain ⟨ia, jf, ie, ik⟩ := ih (s.endPending m o r) hl
    have step : (s.forEach (m :: rest) fun m s => s.endPending m o r) =
      (s.endPending m o r).forEach rest fun m s => s.endPending m o r := rfl
    rw [step]
    refine ⟨?_, ?_, ?_, fun c hcm => ik c (hk c hcm)⟩
    · rw [ia, ha, hc, pushOutcome_eq _ _ h]
      simp only [newest16_append, List.append_assoc, List.filter_filter, List.map_cons]
      congr 1
      refine List.filter_congr fun y _ => ?_
      by_cases e : y.number = m.number <;> simp [e]
    · rw [jf, hf]
      simp
    · intro x hx
      obtain rfl | hx := List.mem_cons.1 hx
      · exact ik _ he
      · exact hc ▸ ie x hx

/-! ### Cells (R43) -/

/-- A cell's set holds that cell alone, when it is one of the 64. -/
theorem cellBit_getLsbD (c i : Nat) : (cellBit c).getLsbD i = (decide (i < 64) && decide (i = c)) := by
  by_cases hi : i < 64 <;> simp [cellBit, BitVec.getLsbD_shiftLeft, hi]
  by_cases h : i = c
  · simp [h]
  · by_cases hc : i < c
    · simp [hc, h]
    · have : i - c ≠ 0 := by omega
      simp [h, this]

/-- A set without one cell. -/
theorem without_getLsbD (x : CellSet) (c i : Nat) :
    (x &&& ~~~(cellBit c)).getLsbD i = (x.getLsbD i && decide (i ≠ c)) := by
  rw [BitVec.getLsbD_and, BitVec.getLsbD_not, cellBit_getLsbD]
  by_cases hi : i < 64
  · simp [hi]
  · simp [BitVec.getLsbD_of_ge x i (by omega)]

/-- A set with one cell more. -/
theorem with_getLsbD (x : CellSet) (c i : Nat) :
    (x ||| cellBit c).getLsbD i = (x.getLsbD i || decide (i < 64) && decide (i = c)) := by
  rw [BitVec.getLsbD_or, cellBit_getLsbD]

/-- The walk of the owed list (R43): of the free cells each passes to the oldest claim on it, whose tier's standing set it
joins and which is spent; no other claim goes, and nothing else of a tier's holdings changes. -/
theorem passOwed_eq (l : List OwedClaim) (free : CellSet) (hs : Eight Holding) :
    (passOwed l free hs).1.Sublist l ∧
    (∀ c, ((passOwed l free hs).1.filter fun o => o.cell == c) =
      if free.getLsbD c then (l.filter fun o => o.cell == c).drop 1 else l.filter fun o => o.cell == c) ∧
    ∀ v, (passOwed l free hs).2.get v = { hs.get v with standing := ((passOwed l free hs).2.get v).standing } ∧
      ∀ c, ((passOwed l free hs).2.get v).standing.getLsbD c =
        ((hs.get v).standing.getLsbD c || free.getLsbD c && (l.find? fun o => o.cell == c).any fun o => o.tier == v) := by
  induction l generalizing free hs with
  | nil => simp [passOwed]
  | cons o rest ih =>
    unfold passOwed
    cases ho : free.getLsbD o.cell
    · obtain ⟨h1, h2, h3⟩ := ih free hs
      rw [if_neg (by simp)]
      refine ⟨h1.cons_cons _, fun c => ?_, fun v => ⟨(h3 v).1, fun c => ?_⟩⟩
      · obtain rfl | hc := eq_or_ne o.cell c
        · simp [h2, ho]
        · simp [hc, h2]
      · rw [(h3 v).2 c]
        obtain rfl | hc := eq_or_ne o.cell c
        · rw [ho]
          simp
        · simp [hc]
    · obtain ⟨h1, h2, h3⟩ := ih (free &&& ~~~(cellBit o.cell))
        (hs.set o.tier { hs.get o.tier with standing := (hs.get o.tier).standing ||| cellBit o.cell })
      have small : o.cell < 64 := Nat.lt_of_not_le fun h => by rw [BitVec.getLsbD_of_ge _ _ h] at ho; cases ho
      rw [if_pos rfl]
      refine ⟨h1.cons _, fun c => ?_, fun v => ⟨?_, fun c => ?_⟩⟩
      · rw [h2 c, without_getLsbD]
        obtain rfl | hc := eq_or_ne o.cell c
        · rw [ho]
          simp
        · simp [hc, hc.symm]
      · rw [(h3 v).1, Eight.get_set]
        obtain rfl | hv := eq_or_ne v o.tier
        · rw [if_pos rfl]
        · rw [if_neg hv]
      · rw [(h3 v).2 c, Eight.get_set, without_getLsbD]
        obtain rfl | hc := eq_or_ne o.cell c
        · rw [ho]
          obtain rfl | hv := eq_or_ne v o.tier
          · rw [if_pos rfl]
            simp only [with_getLsbD]
            simp [small]
          · rw [if_neg hv]
            simp [hv.symm]
        · obtain rfl | hv := eq_or_ne v o.tier
          · rw [if_pos rfl]
            simp only [with_getLsbD]
            simp [hc, hc.symm]
          · rw [if_neg hv]
            simp [hc, hc.symm]

/-- Handing cells on changes standing sets and the owed list alone, as the walk of that list says. -/
theorem handOver_eq (x : Arbiter) (free : CellSet) :
    x.handOver free = { x with tiers := (passOwed x.owed free x.tiers).2, owed := (passOwed x.owed free x.tiers).1 } := rfl

/-! ### Ends of moves and release points -/

/-- The end under a lock conflict and under a quick stop, as the statements name them. -/
@[simp] theorem conflictEnd_eq (a : Active) : a.conflictEnd = endUnderConflict a := rfl

@[simp] theorem stopEnd_eq (a : Active) : a.stopEnd = endUnderQuickStop a := rfl

/-- A quick stop ends every move ABORTED. -/
theorem endUnderQuickStop_aborted (a : Active) : (endUnderQuickStop a).1 = .aborted := by
  unfold endUnderQuickStop
  split <;> rfl

/-- A trip at the arbiter drops every demand, and asks for a pass when power was committed; nothing else differs. -/
theorem tripArbiter_holding (s : State) (u : Tier) :
    (s.tripArbiter).holding u = { s.holding u with demand := 0 } := by
  unfold State.tripArbiter State.when
  split <;> simp [requestPass_eq, State.holding, State.modArb]

/-- A brake order that releases any axis but tR, or tR for anything but the ROTATE whose path the arbiter holds, leaves the
release point as it was. -/
theorem pointAtRelease_other (s : State) (a : Axis) (served : Served)
    (h : ∀ p, (s.holding a.tier).path = some p → ¬(a.role = .R ∧ p.rotate = true ∧ served = .move p.number)) :
    s.pointAtRelease a served = (s.axis a).release := by
  unfold State.pointAtRelease
  split
  · rename_i p hr hp
    rw [if_neg fun e => h p hp ⟨hr, e⟩]
  · rfl

/-! ### Plans -/

/-- A plan that ends, as the statements say it; nothing but the plan executor differs. -/
theorem closePlan_ended (s : State) (st : PlanState) (failing : Option Nat) (r : PlanReason) :
    PlanEnded s.plans (s.closePlan st failing r).plans s.plans.steps st failing r ∧
      s.closePlan st failing r = { s with plans := (s.closePlan st failing r).plans } := ⟨rfl, rfl⟩

/-- The moves that the end of a plan cancels change admission, the arbiter's two marks and the reports in flight; nothing else
differs. -/
theorem cancelPlanMoves_frame (s : State) (h : s.adm.outcomes.length ≤ 16) :
    s.cancelPlanMoves = { s with
      adm := s.cancelPlanMoves.adm
      arb := { s.arb with armed := s.cancelPlanMoves.arb.armed, passRequested := s.cancelPlanMoves.arb.passRequested }
      mail := s.cancelPlanMoves.mail } := by
  have e : s.cancelPlanMoves.arb = { s.arb with
      armed := s.cancelPlanMoves.arb.armed, passRequested := s.cancelPlanMoves.arb.passRequested } := by
    rw [show s.cancelPlanMoves.arb = _ from congrArg State.arb (endEach_frame _ .cancelled .planEnded s h).2.1]
    dsimp only
    split <;> rfl
  rw [← e]
  exact (endEach_frame _ .cancelled .planEnded s h).2.1.trans
    (by rw [show s.cancelPlanMoves.arb = _ from congrArg State.arb (endEach_frame _ .cancelled .planEnded s h).2.1]; rfl)

/-! ### The two replies longer than R181 allows -/

/-- A READ_CELLS reply has 248 bytes after its status byte, where R181 leaves 245 (notes/assumptions/6.md). -/
theorem readCellsBytes_length (s : State) : (readCellsBytes s).length = 248 := by
  have idx (i : Option Idx8) : (idxByte i).length = 1 := rfl
  have cell (c : Nat) : (cellEntry s.arb c).length = 3 := by
    unfold cellEntry
    split <;> simp [idx, beBytes]
  have tier (t : Tier) : (holdingBytes s.arb t).length = 6 := rfl
  simp [readCellsBytes, List.length_flatMap, cell, tier, beBytes, flagByte, Idx8.all]

/-- A PLAN_STATUS reply has 7 bytes and 4 for each step of the run context after its status byte, and 1 byte and 6 for each
step of the plan it names: more than the 245 that R181 leaves it only with 24 steps in both (notes/assumptions/6.md). -/
theorem planStatusBytes_length (s : State) (named : Option PlanNo) :
    (planStatusBytes s named).length =
      7 + 4 * s.plans.steps.length + (named.map fun p => 1 + 6 * (s.plans.store.get p).length).getD 0 := by
  have run (r : StepRun) : (stepRunBytes r).length = 4 := rfl
  have step (p : PlanStep) : (stepBytes p).length = 6 := rfl
  have reason (r : PlanReason) : (planReasonBytes r).length = 2 := by cases r <;> rfl
  unfold planStatusBytes
  dsimp only
  cases s.plans.reason <;> cases named <;>
    simp [List.length_flatMap, run, step, reason, idxByte, beBytes] <;> omega

/-! ### Table writes -/

/-- The test of R2 for a tier in motion, as the statements say it. -/
theorem tierBusy_iff (s : State) (u : Tier) : s.tierBusy u = true ↔ TierInMotion s u := by
  unfold State.tierBusy TierInMotion Seq.jogging axesOf
  rw [Bool.or_eq_true, Option.isSome_iff_ne_none]
  refine or_congr Iff.rfl ⟨fun h => ?_, fun ⟨r, h⟩ => ?_⟩
  · simp only [List.any_cons, List.any_nil, Bool.or_false, Bool.or_eq_true] at h
    obtain h | h | h := h
    exacts [⟨.R, h⟩, ⟨.A, h⟩, ⟨.B, h⟩]
  · cases r <;> simp [h]

/-- An axis has one of the 24 codes, and every code of the 24 an axis (R186). -/
theorem axisOfCode_none_iff (n : Nat) : axisOfCode? n = none ↔ 23 < n := by
  unfold axisOfCode?
  rw [List.getElem?_eq_none_iff]
  exact Iff.rfl

theorem axisOfCode_code (a : Axis) : axisOfCode? (axisCode a) = some a := by
  rcases a with ⟨t, r⟩
  cases t <;> cases r <;> rfl

end Sys2Proof.Machine
end

