-- ==== Sys2Proof/Tests/Slice0.lean ====
section
/-! SUPPORT. Tests of the model: ill-formed commands refused, worked examples of the spec, one or two small facts about
single commands, and for each statement with hypotheses a state and operands that meet them (named test_meets_…). -/

namespace Sys2Proof.Tests

open Sys2Proof Sys2Proof.Machine

/-! ### Small states -/

/-- The state after a command, or the state before it where the command stops. -/
def after (c : Instr) (s : State) : State :=
  match exec c s with
  | .next t => t
  | .fault _ => s
  | .refused _ => s

/-- A request of port A and one of port B, with TAG 7. -/
def fromA : Src := ⟨.A, 7⟩
def fromB : Src := ⟨.B, 7⟩

/-- The status byte of the reply that a command leaves with an idle port A. -/
def replied (c : Instr) (s : State) : Option Byte := ((after c s).ports.a.sending).map fun l => l.getD 4 0xFF

/-- SETUP and CLEAR, port A the holder, with the default tables. -/
def calm : State :=
  { State.reset with
    auth := { State.reset.auth with holder := some .A }
    man := { State.reset.man with state := .clear, contactor := true, record := none, seen := 0 } }

/-- An axis at position 0, valid and ready, told that the contactor is closed. -/
def axisAt0 : AxisCtl :=
  { AxisCtl.initial with count := some 0, valid := true, previous := some 0, ready := true, contactor := true }

/-- Tier 1 as the tests configure it: present, one load cell, a tilt group. -/
def tier1 : TierRec :=
  ⟨true, -18000, 18000, 2000, 100, 20000, [8], 60, some ⟨0, 20000, 150, 50, 200, 16, 40, 50, 0xF000000000000000⟩⟩

/-- SETUP with tier 1 configured: band b holds cell b, station 1 at 0 and station 2 at 2 000 centidegrees, every axis
valid, the lock engaged at station 1, one fresh cell. -/
def ready : State :=
  { calm with
    tables := { Tables.initial with
      tiers := { Tables.initial.tiers with n1 := tier1 }
      bands := { Tables.initial.bands with n1 := Vector.ofFn fun i => cellBit i.val }
      stations := { Tables.initial.stations with n1 := { Eight.fill none with n1 := some 0, n2 := some 2000 } } }
    seqs := { calm.seqs with n1 := { Seq.initial with lockIn := true, lockState := .engaged, station := some .n1 } }
    axes := { calm.axes with n1 := ⟨axisAt0, axisAt0, axisAt0⟩ }
    pairs := { calm.pairs with n1 := { PairUnit.initial with latest := ⟨⟨0, true⟩, ⟨0, true⟩⟩, skew := some 0 } }
    mon := { calm.mon with tiers := { calm.mon.tiers with n1 := ⟨[⟨some 0, false, 0, .fresh⟩], 0, 0, true, false, none, false⟩ } } }

/-- RUN with tier 1 standing in band 18. -/
def running : State :=
  { ready with
    auth := { ready.auth with mode := .run }
    arb := { ready.arb with
      armed := true
      tiers := { ready.arb.tiers with n1 := { Holding.initial with band := some 18, standing := cellBit 18 } } } }

/-- Move 1 to station 2 of tier 1, and a TILT of tier 1 to 5 000. -/
def turn : MoveRec := ⟨1, 9, .n1, .rotate .n2, .full, .direct, 0, 0, none⟩
def lift : MoveRec := ⟨1, 9, .n1, .tilt 5000, .full, .direct, 0, 0, none⟩

/-- RUN with a move in the slot of tier 1, at a stage. -/
def under (m : MoveRec) (st : Stage) : State :=
  { running with
    seqs := { running.seqs with n1 := { running.seqs.n1 with slot := some ⟨m, st, false, none, none, false, false⟩ } }
    arb := { running.arb with
      tiers := { running.arb.tiers with
        n1 := { running.arb.tiers.n1 with
          active := true, demand := 60, reserved := cellsOf [18, 19, 20], path := some ⟨1, true, 18, 20, 18⟩ } } } }

/-- RUN with moves in the pending list. -/
def waiting (l : List MoveRec) : State := { running with adm := ⟨l, [], 1⟩ }

/-- RUN with a move that has left the slot of tier 1 at a stage, its end not taken yet. -/
def leaving (m : MoveRec) (st : Stage) : State := running.modSeq .n1 fun q => { q with ending := [⟨m, st⟩] }

/-- RUN, just tripped: the order to empty the pending list is on its way. -/
def overtaken : State := { running with man := { running.man with state := .tripped, emptying := true } }

/-- SETUP with a jog of tier 1 at a stage. -/
def jogging (g : JogTarget) (st : Stage) : State :=
  { ready with
    seqs := { ready.seqs with n1 := { ready.seqs.n1 with jog := some ⟨g, .up, st, ⟨false, false, false⟩, none⟩ } } }

/-- A state with the stop manager in a state, with no record. -/
def stopIn (x : StopState) (s : State) : State := { s with man := { s.man with state := x } }

/-! ### Ill-formed commands are refused by name -/

theorem test_wf_tier_byte : (Instr.tierStatus fromA 256).wf = false := by decide
theorem test_wf_move_number_word : (Instr.moveStatus fromA 65536).wf = false := by decide
theorem test_wf_read_table_index : (Instr.readTable fromA 3 1 256).wf = false := by decide
theorem test_wf_plan_status_byte : (Instr.planStatus fromA 300).wf = false := by decide
theorem test_wf_set_mode_setup_is_not_run : (Instr.setModeSetup fromA 1).wf = false := by decide
theorem test_wf_reset_fault_tier_is_not_hall : (Instr.resetFaultTier fromA 0).wf = false := by decide
theorem test_wf_move_target_word : (Instr.move fromA 1 0 65536 0 0).wf = false := by decide
theorem test_wf_cancel_word : (Instr.cancel fromA 65536).wf = false := by decide
theorem test_wf_jog_bytes : (Instr.jog fromA 1 256 0).wf = false := by decide
theorem test_wf_set_hall_widths : (Instr.setHall fromA ⟨100, 256, 50, 500, 10000⟩).wf = false := by decide
theorem test_wf_set_tier_flag_without_part :
    (Instr.setTier fromA 1 ⟨1, 0, 0, 0, 0, 0, 0, [], 1, none⟩).wf = false := by decide
theorem test_wf_set_tier_signed_field :
    (Instr.setTier fromA 1 ⟨1, 32768, 0, 0, 0, 0, 0, [], 0, none⟩).wf = false := by decide
theorem test_wf_set_tier_tilt_width :
    (Instr.setTier fromA 1 ⟨1, 0, 0, 0, 0, 0, 0, [], 1, some ⟨65536, 0, 0, 0, 0, 0, 0, 0, 0⟩⟩).wf = false := by decide
theorem test_wf_set_axis_zero_width :
    (Instr.setAxis fromA 0 { AxisRec.initial with zero := 16777216 }).wf = false := by decide
theorem test_wf_set_band_cells : (Instr.setBand fromA 1 0 [256]).wf = false := by decide
theorem test_wf_set_station_here_is_its_own : (Instr.setStation fromA 1 1 1 0).wf = false := by decide
theorem test_wf_set_station_here_bytes : (Instr.setStationHere fromA 1 256).wf = false := by decide
theorem test_wf_set_position_signed : (Instr.setPosition fromA 0 (-32769)).wf = false := by decide
theorem test_wf_tare_byte : (Instr.tare fromA 256).wf = false := by decide
theorem test_wf_plan_write_step : (Instr.planWrite fromA 1 [⟨1, 0, 65536, 0, 0⟩]).wf = false := by decide
theorem test_wf_plan_clear_byte : (Instr.planClear fromA 256).wf = false := by decide
theorem test_wf_jack_position : (Instr.jackPositionReport .n1 .A 16777216 true).wf = false := by decide
theorem test_wf_release_serves_a_move : (Instr.bandReleaseReport .n1 (.move 0) 0).wf = false := by decide
theorem test_wf_end_at_arbiter_position : (Instr.moveEndAtArbiter .n1 .done true (-16777216)).wf = false := by decide
theorem test_wf_move_end_number :
    (Instr.moveEndReport ⟨0, 0, .n1, .rotate, .done, .none, .direct⟩).wf = false := by decide
theorem test_wf_move_end_plan_step :
    (Instr.moveEndReport ⟨1, 0, .n1, .rotate, .done, .none, .plan .n1 25⟩).wf = false := by decide
theorem test_wf_step_end_number : (Instr.stepEnd 65536 .done .none).wf = false := by decide
theorem test_wf_empty_list_reason : (Instr.emptyPendingList .operator).wf = false := by decide
theorem test_wf_plan_stop_reason : (Instr.planStopOrder .none).wf = false := by decide
theorem test_wf_cause_axis_needs_its_tier :
    (Instr.causeReport ⟨.encoder, some .n2, some ⟨.n1, .R⟩, .none, none, none, none⟩).wf = false := by decide
theorem test_wf_tier_cause_number : (Instr.tierCauseReport .n1 .lockTimeout (some 0)).wf = false := by decide
theorem test_wf_travel_mark_number : (Instr.travelMarkReport .n1 (some 0)).wf = false := by decide
theorem test_wf_release_order_serves : (Instr.brakeReleaseOrder ⟨.n1, .R⟩ (.move 65536)).wf = false := by decide
theorem test_wf_travel_order_target : (Instr.travelOrder .n1 (-4608001) .full).wf = false := by decide
theorem test_wf_pair_travel_target : (Instr.pairTravelOrder .n1 5120001 .full).wf = false := by decide
theorem test_wf_stalemate_count : (Instr.latchEvent (.stalemate 33)).wf = false := by decide
theorem test_wf_latched_record :
    (Instr.latchEvent (.moveEnd ⟨0, 0, .n1, .rotate, .done, .none, 0, .direct⟩)).wf = false := by decide

/-! ### Worked figures of the spec -/

/-- The CRC of the nine digits is 0x29B1 (R181). -/
theorem test_crc_of_the_nine_digits : crc16 [0x31, 0x32, 0x33, 0x34, 0x35, 0x36, 0x37, 0x38, 0x39] = 0x29B1#16 := by
  decide +kernel

/-- The bands of R15's examples. -/
theorem test_bands_of_positions :
    [-64000, -1, 0, 1024000, 4608000, 4608300, -4608200].map bandOf = [17, 17, 18, 22, 35, 35, 0] := by decide

/-- SET_STATION(HERE) rounds to the nearest base unit, a half away from zero (R18). -/
theorem test_nearest_base : nearestBase (-64128) = -251 ∧ nearestBase 127 = 0 ∧ nearestBase 128 = 1 := by decide

/-- Braking distances with a = 64 (R97). -/
theorem test_braking_distances : [64, 128, 192, 256].map (brakeDist 64) = [0, 64, 192, 384] := by decide

/-- The allocator passes over numbers in use and wraps from 65 535 to 1 (R27). -/
theorem test_fresh_numbers :
    State.freshNumber { running with
      adm := ⟨[{ turn with number := 65535 }, turn], [⟨3, 0, .n1, .rotate, .done, .none, 0, .direct⟩], 65533⟩ } = 65534 ∧
    State.freshNumber { running with
      adm := ⟨[{ turn with number := 65535 }, turn], [⟨3, 0, .n1, .rotate, .done, .none, 0, .direct⟩], 65534⟩ } = 2 ∧
    State.freshNumber { running with
      adm := ⟨[{ turn with number := 65535 }, turn], [⟨3, 0, .n1, .rotate, .done, .none, 0, .direct⟩], 2⟩ } = 4 := by
  decide

/-- Readings of R126: 02 5A 80 is +2 410 and FF FF 40 is −3. -/
theorem test_readings : readingOf 0x02 0x5A 0x80 = 2410 ∧ readingOf 0xFF 0xFF 0x40 = -3 := by decide

/-- The presence case of R132: 9 600 less the tare 9 540 is 60, above 50; set, the flag clears at 37. -/
theorem test_presence_case :
    ((TierLoad.recomputed ⟨[2410, 2388, 2405, 2397].map fun x => ⟨some x, false, 0, .fresh⟩, 9540, 0, true, false, none,
      false⟩ 50).net,
     (TierLoad.recomputed ⟨[2410, 2388, 2405, 2397].map fun x => ⟨some x, false, 0, .fresh⟩, 9540, 0, true, false, none,
      false⟩ 50).occupied,
     (TierLoad.recomputed ⟨[2410, 2388, 2405, 2374].map fun x => ⟨some x, false, 0, .fresh⟩, 9540, 0, true, true, none,
      false⟩ 50).occupied,
     (TierLoad.recomputed ⟨[2410, 2388, 2405, 2382].map fun x => ⟨some x, false, 0, .fresh⟩, 9540, 0, true, false, none,
      false⟩ 50).occupied) = (60, true, false, false) := by decide

/-- A missed cell of the worked case in 07: STALE at its held reading for three misses, FAILED from the fourth. -/
theorem test_four_misses :
    (LoadCell.miss ⟨some 490, true, 0, .fresh⟩, LoadCell.miss ⟨some 490, false, 3, .stale⟩) =
      (⟨some 490, true, 1, .stale⟩, ⟨some 490, false, 4, .failed⟩) := by decide

/-! ### Start-up and links -/

theorem test_power_on_is_tripped : (after .powerOn running).man.state = .tripped := by decide
theorem test_power_on_with_estop_sees_both :
    (after .powerOn { running with man := { running.man with estop := true } }).man.seen = 0x00100800#32 := by decide
theorem test_reset_opens_the_contactor : (after .resetNAssert running).man.contactor = false := by decide
/-- The latch is empty and ATTN low while RESET_N is low (R194). -/
theorem test_reset_empties_the_latch :
    (after .resetNAssert (({ running with latched := 0x004 }).modPort .A fun p =>
      { p with enabled := 0x3FF, attn := true })).latched = 0 ∧
    ((after .resetNAssert (({ running with latched := 0x004 }).modPort .A fun p =>
      { p with enabled := 0x3FF, attn := true })).port .A).attn = false := by decide
theorem test_release_of_reset_starts : (after .resetNRelease { running with held := true }).held = false := by decide
theorem test_sync_begins_a_frame : ((after (.byteReceived .B 0xA5 false) ready).port .B).rx.phase = .length := by decide
theorem test_stray_byte_is_dropped : ((after (.byteReceived .B 0x5A false) ready).port .B).rx.phase = .hunt := by decide
theorem test_gap_at_20 :
    ((after (.gapTimerExpiry .A) (ready.modPort .A fun p => { p with rx := ⟨.body, [3, 1], some 20⟩ })).port .A).rx.phase =
      .hunt := by decide
theorem test_gap_at_19 :
    ((after (.gapTimerExpiry .A) (ready.modPort .A fun p => { p with rx := ⟨.body, [3, 1], some 19⟩ })).port .A).rx.phase =
      .body := by decide
theorem test_unknown_kind_is_answered :
    replied (.frameDispatch .A) (ready.modPort .A fun p => { p with input := [⟨0x40, 1, []⟩] }) = some 0x11 := by
  decide
theorem test_hold_is_handed_on :
    Instr.hold ⟨.A, 1⟩ ∈ (after (.frameDispatch .A) (ready.modPort .A fun p => { p with input := [⟨0x18, 1, []⟩] })).mail := by
  decide
theorem test_transmitter_falls_idle :
    ((after (.transmitDone .A) (ready.modPort .A fun p => { p with sending := some [1] })).port .A).sending = none := by decide
theorem test_notice_joins_a_busy_port :
    (((after (.latchEvent (.mode .run))
      (ready.modPort .B fun p => { p with enabled := 0x100, sending := some [1] })).port .B).notices).length = 1 := by decide
theorem test_event_is_latched : (after (.latchEvent (.mode .run)) ready).latched = 0x100#10 := by decide
theorem test_set_notices_at_bit_9 : ((after (.setNotices fromB 0x3FF) ready).port .B).enabled = 0x3FF := by decide
theorem test_set_notices_at_bit_10 : replied (.setNotices fromA 0x400) ready = some 0x12 := by decide
theorem test_clear_events_keeps_the_others :
    (after (.clearEvents fromA 0x003) { ready with latched := 0x007 }).latched = 0x004 := by decide
theorem test_clear_events_at_bit_10 : replied (.clearEvents fromA 0x400) ready = some 0x12 := by decide

/-! ### Queries -/

theorem test_hall_status_counts :
    ((after (.hallStatus fromA) (waiting [turn])).ports.a.sending.map fun l => (l.drop 4).take 8) =
      some [0, 1, 0, 1, 0, 1, 0, 0] := by decide
theorem test_tier_status_0 : replied (.tierStatus fromA 0) running = some 0x12 := by decide
theorem test_move_status_of_a_pending_move :
    ((after (.moveStatus fromA 1) (waiting [turn])).ports.a.sending.map fun l => (l.drop 4).take 4) =
      some [0, 0, 0, 1] := by decide
theorem test_move_status_of_an_end_on_its_way :
    ((after (.moveStatus fromA 1) (leaving turn .setBrake)).ports.a.sending.map fun l => (l.drop 4).take 3) =
      some [0, 1, stageCode .setBrake] ∧ replied (.moveStatus fromA 2) (waiting [turn]) = some 0x18 := by decide
theorem test_read_cells_runs : replied (.readCells fromA) running = some 0 := by decide
theorem test_read_table_hall :
    ((after (.readTable fromA 0 0 0) running).ports.a.sending.map fun l => (l.drop 5).take 9) =
      some [0, 100, 4, 0, 50, 1, 0xF4, 0x27, 0x10] := by decide
theorem test_read_table_selector_5 : replied (.readTable fromA 5 0 0) running = some 0x12 := by decide
theorem test_plan_status_9 : replied (.planStatus fromA 9) running = some 0x12 := by decide
theorem test_read_fault_in_trip :
    ((after (.readFault fromA) State.reset).ports.a.sending.map fun l => (l.drop 4).take 3) = some [0, 5, 1] := by
  decide

/-! ### Authority and mode -/

theorem test_take_free_authority : (after (.takeAuthority fromB) State.reset).auth.holder = some .B := by decide
theorem test_take_held_authority : (after (.takeAuthority fromB) calm).auth.holder = some .A := by decide
theorem test_force_authority : (after (.forceAuthority fromB) calm).auth.holder = some .B := by decide
theorem test_force_under_a_move : (after (.forceAuthority fromB) (under turn .travel)).auth.holder = some .A := by decide
theorem test_give_authority : (after (.giveAuthority fromA) calm).auth.holder = none := by decide
theorem test_enable_reloads :
    (after (.enable fromA) { running with clock := 7, auth := { running.auth with timer := .watching ⟨0, 500⟩ } }).auth.timer =
      .watching ⟨7, 500⟩ := by decide
theorem test_run_builds_the_map :
    ((after (.setModeRun fromA) ready).holding .n1).standing = cellBit 18 := by decide
theorem test_run_refuses_an_invalid_axis :
    replied (.setModeRun fromA) (ready.modAxis ⟨.n1, .R⟩ fun x => { x with valid := false }) = some 0x19 := by
  decide
theorem test_setup_clears_the_map : ((after (.setModeSetup fromA 0) running).holding .n1).standing = 0 := by decide
theorem test_set_mode_2 : replied (.setModeSetup fromA 2) running = some 0x12 := by decide
theorem test_enable_expiry_in_run :
    (after .enableExpiry { running with clock := 500, auth := { running.auth with timer := .watching ⟨0, 500⟩ } }).auth.timer =
      .lapsed (some ⟨500, 10000⟩) := by decide
theorem test_escalation_with_motion :
    Instr.causeReport (bareCause .enableLost) ∈ (after .escalationExpiry
      { running with clock := 10500, auth := ⟨.run, some .A, .lapsed (some ⟨500, 10000⟩), Eight.fill true⟩ }).mail := by
  decide
theorem test_motion_starts_watching :
    (after (.motionReport .n1 true) running).auth.timer = .watching ⟨0, 500⟩ := by decide
theorem test_restart_keeps_the_clock : (after (.restart fromA) { ready with clock := 77 }).clock = 77 := by decide
theorem test_restart_under_a_released_brake :
    replied (.restart fromA) (ready.modAxis ⟨.n1, .R⟩ fun x => { x with released := true }) = some 0x16 := by
  decide

/-! ### Stops -/

theorem test_hold_at_rest_is_held : (after (.hold fromB) running).man.state = .held := by decide
theorem test_hold_with_a_brake_released :
    (after (.hold fromB) { running with man := { running.man with braked := { Eight.fill true with n1 := false } } }).man.state =
      .holding := by decide
theorem test_resume_from_held : (after (.resume fromA) (stopIn .held running)).man.state = .clear := by decide
theorem test_stop_at_rest_is_stopped : (after (.stop fromB) running).man.state = .stopped := by decide
theorem test_reset_fault_repowers :
    (after (.resetFaultHall fromA) ({ State.reset with auth := calm.auth })).man.state = .clear := by decide
theorem test_reset_fault_waits_for_a_drive :
    (after (.resetFaultHall fromA)
      ((stopIn .tripped ready).modAxis ⟨.n1, .R⟩ fun x => { x with ready := false })).man.state = .repowering := by decide
theorem test_reset_fault_tier_clears :
    ((after (.resetFaultTier fromA 1) (ready.modSeq .n1 fun q => { q with inhibit := some .lockTimeout })).seq .n1).inhibit =
      none := by decide
theorem test_estop_trips : (after (.estopInputChange true) running).man.state = .tripped := by decide
theorem test_limit_on_an_applied_brake : (after (.limitInputChange ⟨.n1, .R⟩ true) running).man.state = .clear := by decide
theorem test_limit_on_a_released_brake :
    (after (.limitInputChange ⟨.n1, .R⟩ true) (running.modAxis ⟨.n1, .R⟩ fun x => { x with released := true })).man.state =
      .tripped := by decide
theorem test_drive_lost_on_a_released_brake :
    (after (.driveReadyChange ⟨.n1, .A⟩ false) (running.modAxis ⟨.n1, .A⟩ fun x => { x with released := true })).man.state =
      .tripped := by decide
theorem test_repowering_timeout :
    (after .repoweringTimeout
      { running with clock := 2000, man := { running.man with state := .repowering, repower := some ⟨0, 2000⟩ } }).man.state =
      .stopped := by decide
theorem test_following_is_a_quick_stop :
    (after (.causeReport ⟨.following, some .n1, some ⟨.n1, .R⟩, .move 1, some 0, some 30000, none⟩) running).man.state =
      .stopped := by decide
theorem test_tier_cause_leaves_the_stop_state :
    (after (.tierCauseReport .n1 .lockTimeout (some 1)) running).man.state = .clear := by decide
theorem test_last_braked_report :
    (after (.brakedReport .n1 true)
      (stopIn .holding { running with man := { running.man with braked := { Eight.fill true with n1 := false } } })).man.state =
      .held := by decide

/-! ### Admission and arbiter -/

theorem test_move_joins_the_list :
    ((after (.move fromA 1 0 2 0 9) running).adm.waiting.map (·.number)) = [1] ∧
    ((after (.move fromA 1 0 2 0 9) overtaken).adm.waiting.map (·.number)) = [1] := by decide
theorem test_tilt_is_clamped : replied (.move fromA 1 1 20001 0 9) running = some 1 := by decide
theorem test_cancel_removes : (after (.cancel fromA 1) (waiting [turn])).adm.waiting = [] := by decide
theorem test_cancel_of_an_active_move : replied (.cancel fromA 1) (under turn .travel) = some 0x16 := by decide
theorem test_end_is_recorded :
    ((after (.moveEndReport ⟨1, 9, .n1, .rotate, .done, .none, .direct⟩) running).adm.outcomes.map (·.outcome)) = [.done] := by
  decide
theorem test_end_taken_drops_the_record :
    ((after (.moveEndReport ⟨1, 9, .n1, .rotate, .done, .none, .direct⟩) (leaving turn .setBrake)).seq .n1).ending = [] := by
  decide
theorem test_list_is_emptied : (after (.emptyPendingList .stop) (waiting [turn, lift])).adm.waiting = [] := by decide
theorem test_emptying_taken : (after (.emptyPendingList .trip) overtaken).man.emptying = false := by decide
theorem test_pass_grants :
    ((after .grantPass { waiting [turn] with arb := { running.arb with passRequested := true } }).holding .n1).reserved =
      cellsOf [18, 19, 20] := by decide
theorem test_pass_holds_for_load :
    ((after .grantPass ({ waiting [turn] with arb := { running.arb with passRequested := true } }.modLoad .n1 fun l =>
      { l with occupied := true })).adm.waiting.map (·.lastRefusal)) = [some .load] := by decide
theorem test_release_of_the_first_band :
    ((after (.bandReleaseReport .n1 (.move 1) (256 * 1051)) (under turn .travel)).holding .n1).owns = cellsOf [19, 20] := by
  decide
theorem test_released_cell_passes_to_its_claim :
    ((after (.bandReleaseReport .n1 (.move 1) (256 * 1051)) { under turn .travel with
      arb := { (under turn .travel).arb with owed := [⟨.n2, 18, 0⟩, ⟨.n3, 18, 5⟩] } }).arb.owed.map (·.tier)) = [.n3] := by
  decide
theorem test_stowed_change_takes_the_raised_set :
    ((after (.stowedChangeReport .n1 false) running).holding .n1).standing = cellsOf [18, 60, 61, 62, 63] := by
  decide
theorem test_stowed_change_of_an_absent_tier : (after (.stowedChangeReport .n2 false) running).arb = running.arb := by decide
theorem test_done_stands_at_the_goal :
    ((after (.moveEndAtArbiter .n1 .done true 512000) (under turn .setBrake)).holding .n1).band = some 20 := by decide
theorem test_trip_releases_power : (after .arbiterTripReport (under turn .travel)).arb.committed = 0 := by decide
theorem test_trip_asks_for_a_pass : (after .arbiterTripReport (under turn .travel)).arb.passRequested = true := by decide

/-! ### Tables -/

theorem test_set_hall_clamps :
    (after (.setHall fromA ⟨5000, 0, 50, 500, 10000⟩) ready).tables.hall = ⟨4000, 1, 50, 500, 10000⟩ := by decide
theorem test_set_tier_clamps_as_r8 :
    ((after (.setTier fromA 2 ⟨1, -18001, 18000, 99, 9, 5, 1001, [9], 0, none⟩) ready).tier .n2) =
      ⟨true, -18000, 18000, 100, 10, 100, [9], 1000, none⟩ := by decide
theorem test_set_tier_cell_of_another_tier :
    replied (.setTier fromA 2 ⟨1, -18000, 18000, 2000, 100, 20000, 0, [8], 0, none⟩) ready = some 0x12 := by decide
theorem test_set_axis_raises_a_qs :
    ((after (.setAxis fromA 0 { AxisRec.initial with a := 40 }) ready).axisRec ⟨.n1, .R⟩).aQs = 40 := by decide
theorem test_set_band : ((after (.setBand fromA 1 35 [0, 63]) ready).bandCells .n1 35) = 0x8000000000000001 := by
  decide
theorem test_set_band_36 : replied (.setBand fromA 1 36 [0]) ready = some 0x12 := by decide
theorem test_set_station_angle : ((after (.setStation fromA 1 3 0 (-250)) ready).stationAngle .n1 .n3) = some (-250) := by
  decide
theorem test_set_station_clear_forgets_the_current :
    ((after (.setStation fromA 1 1 2 0) ready).seq .n1).station = none := by decide
theorem test_clear_of_an_absent_current_station :
    ((after (.setStation fromA 1 3 2 0) (ready.modSeq .n1 fun q => { q with station := some .n3 })).seq .n1).station = none := by
  decide
theorem test_set_station_here :
    ((after (.setStationHere fromA 1 3) (ready.modAxis ⟨.n1, .R⟩ fun x => { x with position := -64128 })).stationAngle
      .n1 .n3) = some (-251) := by decide
theorem test_set_position :
    ((after (.setPosition fromA 0 (-10)) ready).axisRec ⟨.n1, .R⟩).zero = 2560 := by decide
theorem test_set_position_of_an_invalid_axis :
    replied (.setPosition fromA 0 0) (ready.modAxis ⟨.n1, .R⟩ fun x => { x with valid := false }) = some 0x1A := by
  decide

/-! ### Sequencers -/

theorem test_jog_withdraws_the_lock : ((after (.jog fromA 1 0 0) ready).seq .n1).lockCmd = .withdraw := by decide
theorem test_jog_of_a_pair_releases : Instr.pairReleaseOrder .n1 .jog ∈ (after (.jog fromA 1 1 0) ready).mail := by decide
theorem test_jog_stop_stops_at_a : Instr.stopOrder .n1 .a ∈ (after (.jogStop fromB) (jogging .rotation .travel)).mail := by
  decide
theorem test_both_lock_inputs_conflict :
    ((after (.lockInputChange .n1 true true) ready).seq .n1).inhibit = some .lockConflict := by decide
theorem test_lock_lost_while_engaged :
    ((after (.lockInputChange .n1 false false) ready).seq .n1).lockState = .conflicted := by decide
theorem test_lock_timeout_fails_the_move :
    Instr.moveEndReport ⟨1, 9, .n1, .rotate, .failed, .lockTimeout, .direct⟩ ∈
      (after (.lockTimerExpiry .n1) ({ (under turn .withdrawLock) with clock := 2000 }.modSeq .n1 fun q =>
        { q with lockCmd := .withdraw, lockTimer := some ⟨0, 2000⟩ })).mail := by decide
theorem test_lift_begins_travel :
    Instr.travelOrder .n1 512000 .full ∈
      (after (.liftComplete .n1) ((under turn .liftBrake).modSeq .n1 fun q => { q with braked := false })).mail := by decide
theorem test_pair_lift_begins_travel :
    Instr.pairTravelOrder .n1 1280000 .full ∈
      (after (.pairLiftComplete .n1) ((under lift .liftBrake).modSeq .n1 fun q => { q with braked := false })).mail := by decide
theorem test_settle_end_sets_the_brake :
    (((after (.settleEnd ⟨.n1, .R⟩) (under turn .settle)).seq .n1).slot.map (·.stage)) = some .setBrake := by decide
theorem test_settle_timeout_inhibits :
    ((after (.settleTimeout ⟨.n1, .R⟩) (under turn .settle)).seq .n1).inhibit = some .settleTimeout := by decide
theorem test_engaged_move_is_done :
    Instr.moveEndReport ⟨1, 9, .n1, .rotate, .done, .none, .direct⟩ ∈ (after (.setComplete .n1) (under turn .setBrake)).mail := by
  decide
theorem test_tilt_is_done_after_its_brakes :
    Instr.moveEndReport ⟨1, 9, .n1, .tilt, .done, .none, .direct⟩ ∈
      (after (.pairSetComplete .n1) (under lift .setBrake)).mail := by decide
theorem test_hold_suspends_travel :
    (((after (.holdOrder .n1) (under turn .travel)).seq .n1).slot.map (·.stage)) = some .suspending := by decide
theorem test_quick_stop_halts_travel :
    (((after (.quickStopOrder .n1) (under turn .travel)).seq .n1).slot.map (·.stage)) = some .halting := by decide
theorem test_quick_stop_takes_the_place_of_inhibit :
    Instr.moveEndReport ⟨1, 9, .n1, .rotate, .aborted, .stop, .direct⟩ ∈
      (after (.quickStopOrder .n1) ((under turn .setBrake).modSeq .n1 fun q =>
        { q with slot := q.slot.map fun a => { a with fixedEnd := some (.failed, .inhibit) } })).mail := by decide
theorem test_trip_ends_the_move : ((after (.tripOrder .n1) (under turn .travel)).seq .n1).slot = none := by decide
theorem test_resume_releases_the_brake :
    Instr.brakeReleaseOrder ⟨.n1, .R⟩ (.move 1) ∈ (after (.resumeOrder .n1) ((under turn .suspended).modSeq .n1 fun q =>
      { q with slot := q.slot.map fun a => { a with context := some .travel } })).mail := by decide

/-! ### Axes and pairs -/

theorem test_update_reads_the_position :
    ((after (.axisUpdate ⟨.n1, .R⟩ (.good 700)) ready).axis ⟨.n1, .R⟩).position = 700 := by decide
theorem test_second_miss_is_invalid :
    ((after (.axisUpdate ⟨.n1, .R⟩ .miss) (ready.modAxis ⟨.n1, .R⟩ fun x => { x with missRun := 1 })).axis ⟨.n1, .R⟩).valid =
      false := by decide
theorem test_release_energises_the_brake :
    ((after (.brakeReleaseOrder ⟨.n1, .R⟩ (.move 1)) ready).axis ⟨.n1, .R⟩).released = true := by decide
theorem test_release_after_a_hold_gives_the_point_again :
    ((after (.brakeReleaseOrder ⟨.n1, .R⟩ (.move 1)) (under turn .liftBrake)).axis ⟨.n1, .R⟩).release =
      some ⟨256 * 1050, .up⟩ := by decide
theorem test_apply_zeroes_the_reference :
    ((after (.brakeApplyOrder ⟨.n1, .R⟩) (ready.modAxis ⟨.n1, .R⟩ fun x =>
      { x with phase := .still, released := true, speed := 9 })).axis ⟨.n1, .R⟩).speed = 0 := by decide
theorem test_travel_order_sets_the_distance :
    ((after (.travelOrder .n1 (-512) .full) ready).axis ⟨.n1, .R⟩).r = 512 := by decide
theorem test_travel_order_resumed_within_the_window_arrives :
    ((after (.travelOrder .n1 256 .full) ((under turn .travel).modSeq .n1 fun q =>
      { q with slot := q.slot.map fun a => { a with fromSettle := true } })).axis ⟨.n1, .R⟩).phase = .settle := by decide
theorem test_stop_order_from_travel :
    ((after (.stopOrder .n1 .aqs) (ready.modAxis ⟨.n1, .R⟩ fun x => { x with phase := .travel, v := 64 })).axis
      ⟨.n1, .R⟩).stopDecel = some 32 := by decide
theorem test_axis_trip_is_idle :
    ((after (.axisTripOrder ⟨.n1, .R⟩) (ready.modAxis ⟨.n1, .R⟩ fun x => { x with phase := .travel })).axis
      ⟨.n1, .R⟩).phase = .idle := by decide
theorem test_contactor_opens : ((after (.contactorReport ⟨.n1, .R⟩ false) ready).axis ⟨.n1, .R⟩).contactor = false := by decide
theorem test_contactor_leaves_saturated :
    ((after (.contactorReport ⟨.n1, .R⟩ false) (ready.modAxis ⟨.n1, .R⟩ fun x => { x with saturated := true })).axis
      ⟨.n1, .R⟩).saturated = true := by decide
theorem test_pair_update_steps :
    ((after (.pairUpdate .n1) (ready.modPair .n1 fun p =>
      { p with phase := .travel, demand := some 0, r := 1000, target := some 1000, cls := some .full })).pair .n1).demand =
      some 16 := by decide
theorem test_jacks_rest_with_their_pair :
    ((after (.pairUpdate .n1) (ready.modPair .n1 fun p =>
      { p with phase := .stopping, demand := some 900, v := 10, r := 100, target := some 1000, stopDecel := some 16 })).axis
      ⟨.n1, .B⟩).r = 100 := by decide
theorem test_skew_of_two_jacks :
    ((after (.jackPositionReport .n1 .A 300 true) ready).pair .n1).skew = some 300 := by decide
theorem test_stowed_is_lost_above_the_window :
    Instr.stowedChangeReport .n1 false ∈ (after (.jackPositionReport .n1 .A (256 * 150 + 257) true) ready).mail := by decide
theorem test_pair_release_lifts : ((after (.pairReleaseOrder .n1 .jog) ready).axis ⟨.n1, .B⟩).phase = .lifting := by decide
theorem test_pair_without_a_tilt_group_stays_idle : ((after (.pairReleaseOrder .n2 .jog) ready).pair .n2).phase = .idle := by
  decide
theorem test_pair_travel_starts : ((after (.pairTravelOrder .n1 5120 .crawl) ready).pair .n1).r = 5120 := by decide
theorem test_pair_stop_in_settle :
    ((after (.pairStopOrder .n1 .a) (ready.modPair .n1 fun p => { p with phase := .settle })).pair .n1).phase = .still := by
  decide
theorem test_pair_apply_sets :
    ((after (.pairApplyOrder .n1) (ready.modPair .n1 fun p => { p with phase := .still })).pair .n1).phase = .setting := by
  decide
theorem test_pair_trip_is_idle :
    ((after (.pairTripOrder .n1) (ready.modPair .n1 fun p => { p with phase := .travel })).pair .n1).phase = .idle := by decide

/-! ### Load bus -/

theorem test_slot_polls_the_first_cell : (after .pollSlot ready).mon.transaction = .poll .n1 0 := by decide
theorem test_poll_end_stores_the_reading :
    (((after (.pollEnd (.data 0x02 0x5A 0x80)) { ready with mon := { ready.mon with transaction := .poll .n1 0 } }).loadOf
      .n1).cells.map (·.reading)) = [some 2410] := by decide
theorem test_held_bus_owes_a_recovery :
    (after .busHeldLow { ready with mon := { ready.mon with transaction := .poll .n1 0 } }).mon.recoveryOwed = true := by
  decide
theorem test_recovery_ends :
    (after (.busRecoveryEnd false) { ready with mon := { ready.mon with transaction := .recovery } }).mon.transaction =
      .idle := by decide
theorem test_tare_takes_the_sum :
    ((after (.tare fromA 1) (ready.modLoad .n1 fun l => { l with cells := [⟨some 55, false, 0, .fresh⟩], net := 55 })).loadOf
      .n1).tare = 55 := by decide
theorem test_overload_at_entry :
    Instr.causeReport ⟨.overload, some .n1, none, .move 1, none, none, some 20001⟩ ∈
      (after (.travelMarkReport .n1 (some 1)) (ready.modLoad .n1 fun l => { l with net := 20001 })).mail := by decide

/-! ### Plans -/

theorem test_plan_write_stores :
    ((after (.planWrite fromA 1 [⟨1, 0, 2, 0, 0⟩]) ready).plans.store.get .n1) = [⟨.n1, .rotate .n2, .full, .sequential⟩] := by
  decide
theorem test_plan_clear_empties :
    ((after (.planClear fromA 1) { ready with plans := { Plans.initial with
      store := { Plans.initial.store with n1 := [⟨.n1, .rotate .n2, .full, .sequential⟩] } } }).plans.store.get .n1) = [] := by
  decide
theorem test_plan_start_submits :
    ((after (.planStart fromA 1) { running with plans := { Plans.initial with
      store := { Plans.initial.store with n1 := [⟨.n1, .rotate .n2, .full, .sequential⟩] } } }).adm.waiting.map (·.origin)) =
      [.plan .n1 1] := by decide

/-- RUN with plan 1 in a state, its one step with a status. -/
def planned (st : PlanState) (x : StepStatus) : State :=
  { running with plans :=
    ⟨{ Eight.fill [] with n1 := [⟨.n1, .rotate .n2, .full, .sequential⟩] }, some .n1, st, none, [⟨x, false⟩], none, none⟩ }

theorem test_plan_abort : (after (.planAbort fromA) (planned .running (.submitted 1))).plans.state = .aborted := by decide
/-- With no plan running the reply has the state alone, 1 byte after the status (R145). -/
theorem test_plan_abort_when_idle :
    ((after (.planAbort fromA) running).ports.a.sending).map (·.take 6) = some [0xA5, 4, 0xB3, 7, 0, 0] := by decide
theorem test_step_end_done_ends_the_plan :
    (after (.stepEnd 1 .done .none) (planned .running (.submitted 1))).plans.state = .done := by decide
theorem test_step_end_failed_fails_the_plan :
    (after (.stepEnd 1 .failed .lockTimeout) (planned .running (.submitted 1))).plans.state = .failed := by decide
theorem test_freed_entry_submits_the_waiting_step :
    ((after .freedEntry { planned .running .waitingRoom with
      plans := { (planned .running .waitingRoom).plans with next := some 1 } }).adm.waiting.map (·.number)) = [1] := by
  decide
theorem test_plan_is_held : (after .planHoldOrder (planned .running (.submitted 1))).plans.state = .held := by decide
theorem test_plan_resumes : (after .planResumeOrder (planned .held (.submitted 1))).plans.state = .running := by decide
theorem test_plan_stop : (after (.planStopOrder .stop) (planned .held (.submitted 1))).plans.reason = some (.aborted .stop) := by
  decide

/-! ### States and operands that meet the statements' hypotheses

One theorem for each statement with hypotheses, a clause's own hypotheses at a boundary of their range where they name
one. -/

theorem test_meets_StepTakesTheFrontCommand :
    ({ ready with pending := [.pollSlot] }).pending = Instr.pollSlot :: [] := by decide

theorem test_meets_AnIdleStepDeliversOrCounts :
    (({ ready with mail := [.pollSlot] }).pending = [] ∧ ({ ready with mail := [.pollSlot] }).mail = Instr.pollSlot :: []) ∧
    (ready.pending = [] ∧ ready.mail = [] ∧ ready.held = false) ∧
    ((⟨0, 500⟩ : Timer).due 500 = true ∧ (⟨0, 500⟩ : Timer).due 499 = false) := by decide

theorem test_meets_PowerOnAndResetReleaseStartThePart :
    startsAfresh .powerOn = true ∧ startsAfresh .resetNRelease = true := by decide

theorem test_meets_NothingRunsWhileResetIsHeld :
    ({ ready with held := true }).held = true ∧ startsAfresh (.limitInputChange ⟨.n1, .R⟩ true) = false ∧
    Instr.limitInputChange ⟨.n1, .R⟩ true ≠ .resetNAssert := by decide

theorem test_meets_RestartClearsWhatR179States :
    (ready.held = false ∧ ready.holderOrNone fromA = true ∧ ready.atRest = true) ∧ ready.holderOrNone fromB = false ∧
    ((jogging .rotation .travel).holderOrNone fromA = true ∧ (jogging .rotation .travel).atRest = false) := by
  decide

/-- A port whose gap timer stands at 20 ms with a buffer. -/
def gapAt20 (l : List Byte) : State := ready.modPort .A fun p => { p with rx := ⟨.length, l, some 20⟩ }

theorem test_meets_ReceiverEventsOfR182 :
    (ready.held = false ∧ (ready.port .A).rx.phase = .hunt ∧ (ready.port .A).rx.gapOut = false) ∧
    ((gapAt20 [0x01]).held = false ∧ ((gapAt20 [0x01]).port .A).rx.gapOut = true ∧
      ∀ b ∈ ((gapAt20 [0x01]).port .A).rx.buffer, b ≠ syncByte) ∧
    ((gapAt20 (frameBytes ⟨1, 0, []⟩)).port .A).rx.gapOut = true ∧ ([] : List Byte).length ≤ 246 ∧
    ((gapAt20 (frameBytes ⟨1, 0, []⟩)).port .A).rx.buffer = frameBytes ⟨1, 0, []⟩ ∧
    ((gapAt20 (frameBytes ⟨1, 0, []⟩)).port .A).input.length < 4 := by decide +kernel

/-- A frame that ends with a wrong CRC, and a port that waits for LEN, where 1 and 249 are bad and 2 and 248 are not. -/
theorem test_meets_a_frame_dropped :
    ((ready.modPort .A fun p => { p with rx := ⟨.check, [2, 0x18, 0, 0], some 1⟩ }).port .A).rx.buffer =
      (2 : Byte) :: [0x18, 0] ++ [0] ∧
    [0x18, 0].length = (2 : Byte).toNat ∧ ([0, 0] : List Byte) ≠ crcBytes (crc16 [2, 0x18, 0]) ∧
    (∀ x ∈ (2 : Byte) :: [0x18, 0] ++ [0, 0], x ≠ syncByte) ∧ ((1 : Byte).toNat < 2 ∧ 248 < (249 : Byte).toNat) ∧
    (¬(2 : Byte).toNat < 2 ∧ ¬248 < (248 : Byte).toNat) := by decide +kernel

/-- Port A with frames in its input queue. -/
def queued (l : List Frame) : State := ready.modPort .A fun p => { p with input := l }

theorem test_meets_EveryFrameSentIsReceivedWhole :
    (queued (List.replicate 3 ⟨1, 0, []⟩)).held = false ∧ (List.replicate 246 (0xA5 : Byte)).length ≤ 246 ∧
    ((queued (List.replicate 3 ⟨1, 0, []⟩)).port .A).rx = ⟨.hunt, [], none⟩ ∧
    ((queued (List.replicate 3 ⟨1, 0, []⟩)).port .A).input.length < 4 := by decide +kernel

theorem test_meets_DispatchAndTransmission :
    (queued [⟨0x40, 1, []⟩]).held = false ∧
    (((queued [⟨0x40, 1, []⟩]).port .A).input = [⟨0x40, 1, []⟩] ∧
      ((queued [⟨0x40, 1, []⟩]).taken (.frameDispatch .A)).canDispatch .A = true ∧
      parseRequest ⟨.A, 1⟩ 0x40 [] = .unknownKind) ∧
    (((queued [⟨0x18, 1, [0]⟩]).taken (.frameDispatch .A)).canDispatch .A = true ∧
      parseRequest ⟨.A, 1⟩ 0x18 [0] = .badLength) ∧
    (((queued [⟨0x18, 1, []⟩]).taken (.frameDispatch .A)).canDispatch .A = true ∧
      parseRequest ⟨.A, 1⟩ 0x18 [] = .request (.hold ⟨.A, 1⟩)) := by decide

theorem test_meets_RequestsAreReadInForm :
    parseRequest fromA 0x18 [] = .request (.hold fromA) ∧ parseRequest fromA 0x08 [] = .unknownKind ∧
    parseRequest fromA 0x3A [] = .unknownKind := by decide

theorem test_meets_RecordsTravelAsTheirWriteRequests :
    HallRec.wf ⟨65535, 255, 65535, 65535, 65535⟩ = true ∧
    AxisRec.wf ⟨65535, 255, 255, 65535, 255, 65535, 65535, 255, 65535, 65535, 65535, 16777215⟩ = true ∧
    (TierWrite.wf ⟨1, -32768, 32767, 0, 0, 4294967295, 0, [255], 1, some ⟨65535, 0, 0, 0, 0, 255, 0, 0, 1⟩⟩ = true ∧
      TierWrite.wf ⟨0, -32768, 32767, 0, 0, 0, 0, [], 0, none⟩ = true) ∧ 35 < 36 ∧ isSigned16 (-32768) = true ∧
    isSigned16 32767 = true ∧ (List.replicate 24 (⟨255, 255, 65535, 255, 255⟩ : RawStep)).length ≤ 24 ∧
    (List.replicate 24 (⟨255, 255, 65535, 255, 255⟩ : RawStep)).all RawStep.wf = true := by decide

/-- Ports with a busy transmitter, with a reply waiting, and idle with every kind enabled. -/
theorem test_meets_TheLatchTakesAnEvent :
    (ready.modPort .A fun p => { p with sending := some [] }).held = false ∧
    ((ready.modPort .A fun p => { p with sending := some [] }).port .A).sending.isSome = true ∧
    (((ready.modPort .A fun p => { p with reply := some ⟨0x98, 0, [0]⟩ }).port .A).sending = none ∧
      ((ready.modPort .A fun p => { p with reply := some ⟨0x98, 0, [0]⟩ }).port .A).reply = some ⟨0x98, 0, [0]⟩) ∧
    (((ready.modPort .A fun p => { p with enabled := 0x3FF }).port .A).sending = none ∧
      ((ready.modPort .A fun p => { p with enabled := 0x3FF }).port .A).reply = none ∧
      ((ready.modPort .A fun p => { p with enabled := 0x3FF }).port .A).notices = [] ∧
      ((ready.modPort .A fun p => { p with enabled := 0x3FF }).port .A).enabled.getLsbD
        (eventBit (eventKind (.authority none))) = true) := by decide

theorem test_meets_SetNoticesReplacesOnePortsSet :
    ready.held = false ∧ 1024 ≤ (1024 : BitVec 16).toNat ∧ ¬1024 ≤ (1023 : BitVec 16).toNat := by decide

theorem test_meets_ClearEventsRemovesTheNamedKinds :
    ready.held = false ∧ 1024 ≤ (1024 : BitVec 16).toNat ∧ ¬1024 ≤ (1023 : BitVec 16).toNat := by decide

theorem test_meets_QueriesChangeNothingButTheReply :
    (running.held = false ∧ queryKind (.hallStatus fromB) = some 0x01 ∧ requestSrc (.hallStatus fromB) = some fromB) ∧
    35 < 36 ∧ 4 < 5 ∧ 8 ≤ 8 ∧ 0 ≤ 8 := by decide

theorem test_meets_StatusRepliesCarryTheirFigures :
    (running.held = false ∧ running.man.record = none ∧ State.reset.held = false ∧ State.reset.man.record.isSome = true) ∧
    ((running.loadOf .n1).cells.length = (running.tier .n1).cells.length) ∧ 8 < 9 := by decide

theorem test_meets_MoveStatusAnswersByPlace :
    (waiting [lift, { turn with number := 2 }]).held = false ∧
    ((waiting [lift, { turn with number := 2 }]).adm.waiting = [lift] ++ { turn with number := 2 } :: [] ∧
      { turn with number := 2 }.number ≠ 0 ∧ ∀ x ∈ [lift], x.number ≠ 2) ∧
    (({ running with adm := ⟨[], [⟨5, 0, .n1, .rotate, .done, .none, 0, .direct⟩], 5⟩ } : State).adm.outcomes.find?
      (fun x => x.number == 5) = some ⟨5, 0, .n1, .rotate, .done, .none, 0, .direct⟩) ∧
    (∀ o ∈ running.adm.outcomes, o.number ≠ 65535) ∧
    (((under turn .suspended).seq .n1).slot = some ⟨turn, .suspended, false, none, none, false, false⟩ ∧ turn.number ≠ 0 ∧
      ∀ m ∈ (under turn .suspended).adm.waiting, m.number ≠ turn.number) ∧
    (((leaving turn .setBrake).seq .n1).ending = [] ++ ⟨turn, .setBrake⟩ :: [] ∧
      ∀ m ∈ (leaving turn .setBrake).adm.waiting, m.number ≠ turn.number) := by decide

/-- One slot alone holds the number of the move under way. -/
theorem test_meets_one_slot : ∀ v b, ((under turn .suspended).seq v).slot = some b → b.move.number = turn.number → v = .n1 := by
  intro v b h _
  cases v <;> first | rfl | cases h

/-- With every slot empty none holds a number, and with no end on its way, or one of tier 1 alone, no other does. -/
theorem test_meets_no_slot : (∀ t a, (running.seq t).slot = some a → a.move.number ≠ 5) ∧
    (∀ t, ∀ e ∈ (running.seq t).ending, e.move.number ≠ 5) ∧
    (∀ t a, ((leaving turn .setBrake).seq t).slot = some a → a.move.number ≠ turn.number) ∧
    ∀ t, t ≠ .n1 → ∀ e ∈ ((leaving turn .setBrake).seq t).ending, e.move.number ≠ turn.number := by
  refine ⟨fun t a h => ?_, fun t e h => ?_, fun t a h => ?_, fun t ht e h => ?_⟩ <;> cases t <;>
    first | exact absurd rfl ht | cases h

theorem test_meets_OnlyTheHolderMayAct :
    ready.held = false ∧ holderKind (.enable fromB) = some 0x13 ∧ requestSrc (.enable fromB) = some fromB ∧
    ready.auth.holder ≠ some .B := by decide

theorem test_meets_AuthorityChangesHands :
    ready.held = false ∧ ready.auth.holder = some .A ∧ ready.auth.holder ≠ some .B ∧ ready.handsFull = false ∧
    (under turn .travel).handsFull = true := by decide

theorem test_meets_TheEnableTimerWatchesMotion :
    ready.held = false ∧ ready.auth.holder = some .A ∧
    (({ running with auth := { running.auth with timer := .watching ⟨0, 500⟩ } } : State).auth.timer = .watching ⟨0, 500⟩ ∧
      running.auth.mode = .run ∧ (⟨0, 500⟩ : Timer).due 500 = true ∧ (⟨0, 500⟩ : Timer).due 499 = false) ∧
    ((jogging .rotation .travel).auth.mode = .setup ∧
      ((jogging .rotation .travel).seq .n1).jog = some ⟨.rotation, .up, .travel, ⟨false, false, false⟩, none⟩ ∧
      ((jogging .rotation .travel).seq .n1).slot = none) ∧
    ({ running with auth := { running.auth with timer := .lapsed (some ⟨0, 1000⟩) } } : State).auth.timer =
      .lapsed (some ⟨0, 1000⟩) := by decide

theorem test_meets_ModeChangesBuildAndClearTheMap :
    (ready.held = false ∧ ready.auth.holder = some .A ∧ ready.auth.mode = .setup ∧ ready.man.state = .clear ∧
      ready.runFinding = none) ∧
    (running.auth.holder = some .A ∧ running.auth.mode = .run ∧ running.adm.waiting = [] ∧
      running.plans.running = false) := by decide

theorem test_meets_no_jog : ∀ u, (ready.seq u).jog = none := by
  intro u
  cases u <;> rfl

/-- SETUP with an axis of tier 1 that is not valid. -/
def unread : State := ready.modAxis ⟨.n1, .B⟩ fun x => { x with valid := false }

/-- Check 4 is the first of R169 that fails there, and the jack 1B the first axis at which it does. -/
theorem test_meets_a_failing_check :
    RunCheckFails unread 4 [1, 2] ∧ (∀ k < 4, ∀ other, ¬ RunCheckFails unread k other) ∧
    ∀ other, RunCheckFails unread 4 other → ¬ other < [1, 2] := by
  have only : ∀ u, (unread.tier u).present = true → u = .n1 := by
    intro u h
    cases u <;> first | rfl | exact absurd h (by decide)
  refine ⟨⟨⟨.n1, .B⟩, by decide, by decide, by decide⟩, ?_, ?_⟩
  · intro k hk other h
    obtain _ | _ | _ | _ | k := k
    · exact h
    · obtain ⟨u, -, hu, hn⟩ := h
      cases only u hu
      exact hn (by decide)
    · obtain ⟨u, n, x, -, hu, hx, hn⟩ := h
      cases only u hu
      cases n <;> cases hx <;> exact hn (by decide)
    · obtain ⟨u, g, -, hu, hg, hn⟩ := h
      cases only u hu
      cases hg
      exact hn (by decide)
    · omega
  · rintro _ ⟨⟨u, r⟩, rfl, hp, hv⟩
    cases u <;> cases r <;> first | exact absurd hp (by decide) | exact absurd hv (by decide) | decide

theorem test_meets_ModeAndTablesChangeByTheirOwnCommandsAlone :
    exec (.estopInputChange true) running = .next (after (.estopInputChange true) running) ∧
    startsAfresh (.estopInputChange true) = false ∧ running.auth.mode = .run :=
  ⟨rfl, rfl, rfl⟩

theorem test_meets_EveryRequestIsAnsweredAndARefusedOneChangesNothing :
    (ready.held = false ∧ requestKind (.move fromA 1 0 2 0 9) = some 0x20 ∧
      requestSrc (.move fromA 1 0 2 0 9) = some fromA) ∧
    (ready.port .A).sending = none ∧
    ((ready.modPort .A fun p => { p with sending := some [] }).port .A).sending.isSome = true := by decide

theorem test_meets_HoldPausesTheHall : ready.held = false ∧ ready.man.state = .clear ∧ State.reset.man.state ≠ .clear := by
  decide

theorem test_meets_StopStopsTheHall :
    ready.held = false ∧ (stopIn .held ready).man.state = .held ∧ (stopIn .stopping ready).man.state = .stopping := by decide

theorem test_meets_ResumeReleasesAHold :
    (stopIn .held ready).held = false ∧ (stopIn .held ready).auth.holder = some .A ∧ (stopIn .held ready).man.state = .held := by
  decide

theorem test_meets_ResetFaultHallByStopState :
    State.reset.held = false ∧ State.reset.man.state = .tripped ∧ ready.holderOrNone fromB = false ∧
    State.reset.holderOrNone fromA = true ∧ State.reset.drivesNotReady = [] := by decide

theorem test_meets_CausesTakeEffectByStopState :
    ready.held = false ∧ categoryOf .enableLapse = some .hold ∧ categoryOf .lockLost = some .quick ∧
    categoryOf .skewSevere = some .trip := by decide

/-- A stop state in which each category takes effect, with every tier braked, and one in which it is only recorded; and the
two kinds that raise no FAULT. -/
theorem test_meets_the_events_of_a_cause :
    (ready.man.state = .clear ∧ ready.allBraked = true ∧ (stopIn .tripped ready).man.state = .tripped) ∧
    (categoryOf .hold = some .hold ∧ categoryOf .stop = some .quick) ∧
    Instr.latchEvent (.fault .encoder (some .n1) (some ⟨.n1, .R⟩) true) ∈
      (after (.causeReport ⟨.encoder, some .n1, some ⟨.n1, .R⟩, .none, none, none, none⟩) ready).mail := by decide

theorem test_meets_TierCausesAndBrakedReports :
    (stopIn .stopping ready).held = false ∧ ((stopIn .stopping ready).man.braked.set .n1 true).all id = true := by decide

theorem test_meets_FieldInputsAreKeptAndJudged :
    (ready.held = false ∧ ready.man.estop = false) ∧
    ((ready.modAxis ⟨.n1, .R⟩ fun x => { x with released := true }).axisPresent ⟨.n1, .R⟩ = true ∧
      ((ready.modAxis ⟨.n1, .R⟩ fun x => { x with released := true }).axis ⟨.n1, .R⟩).released = true ∧
      ((ready.modAxis ⟨.n1, .R⟩ fun x => { x with released := true }).axis ⟨.n1, .R⟩).limit ≠ true ∧
      ((ready.modAxis ⟨.n1, .R⟩ fun x => { x with released := true }).axis ⟨.n1, .R⟩).ready ≠ false) ∧
    ready.man.state ≠ .repowering := by decide

/-- REPOWERING with the drive of 1R alone not ready. -/
def oneDrive : State := (stopIn .repowering ready).modAxis ⟨.n1, .R⟩ fun x => { x with ready := false }

theorem test_meets_the_last_drive :
    oneDrive.man.state = .repowering ∧ oneDrive.axisPresent ⟨.n1, .R⟩ = true ∧ (oneDrive.axis ⟨.n1, .R⟩).ready ≠ true ∧
    ∀ x, x ≠ ⟨.n1, .R⟩ → oneDrive.axisPresent x = true → (oneDrive.axis x).ready = true := by
  refine ⟨by decide, by decide, by decide, fun x hx hp => ?_⟩
  obtain ⟨u, r⟩ := x
  cases u <;> cases r <;> first | rfl | exact absurd rfl hx | exact absurd hp (by decide)

theorem test_meets_RepoweringRunsOutToStopped :
    (({ stopIn .repowering ready with clock := 2000 } : State).held = false ∧
      dueTimer (some ⟨0, 2000⟩) 2000 = true ∧ dueTimer (some ⟨0, 2000⟩) 1999 = false) ∧ ready.man.state ≠ .repowering := by
  decide

theorem test_meets_FreshNumbersAreNotInUse :
    ({ running with adm := ⟨[], [], 65535⟩ } : State).adm.lastNumber ≤ 65535 ∧
    ({ running with adm := ⟨[], [], 65535⟩ } : State).usedNumbers.length < 65535 := by decide

theorem test_meets_AdmittedMovesJoinTheTail :
    (running.held = false ∧ running.auth.mode = .run ∧ running.auth.holder = some .A ∧ running.man.state = .clear ∧
      (running.tier .n1).present = true ∧ (running.seq .n1).inhibit = none ∧
      (waiting (List.replicate 31 turn)).adm.waiting.length < 32) ∧
    (running.stationAngle .n1 .n2).isSome = true ∧ (running.tier .n1).tilt = tier1.tilt ∧ tier1.tilt.isSome = true ∧
    (overtaken.held = false ∧ overtaken.auth.holder = some .A ∧ overtaken.man.emptying = true) ∧
    (stopIn .stopping running).man.emptying = false ∧ (stopIn .stopping running).man.state = .stopping := by decide

theorem test_meets_CancelWithdrawsAPendingMove :
    ((waiting [turn]).held = false ∧ (waiting [turn]).auth.holder = some .A) ∧
    ((waiting [turn]).adm.waiting.find? (fun x => x.number == 1) = some turn ∧
      (waiting [turn]).adm.outcomes.length ≤ 16) ∧ (∀ m ∈ (waiting [turn]).adm.waiting, m.number ≠ 2) ∧
    (∀ m ∈ (under turn .travel).adm.waiting, m.number ≠ 1) := by decide

theorem test_meets_EndsAreRecordedOldestFirst :
    ({ running with adm := ⟨[turn], List.replicate 16 ⟨5, 0, .n1, .rotate, .done, .none, 0, .direct⟩, 5⟩ } : State).held =
      false ∧
    (List.replicate 16 (⟨5, 0, .n1, .rotate, .done, .none, 0, .direct⟩ : OutcomeRec)).length ≤ 16 ∧
    overtaken.held = false ∧ overtaken.man.state ≠ .clear := by decide

theorem test_meets_AcceptedTableWritesStoreTheClampedRecord :
    (ready.held = false ∧ ready.auth.mode = .setup ∧ ready.auth.holder = some .A ∧ ready.tierBusy .n1 = false) ∧
    (35 < 36 ∧ [0, 63].length ≤ 64 ∧ (∀ c ∈ [0, 63], c < 64) ∧ [0, 63].Nodup) ∧
    ready.tierSound .n1 ⟨1, -18001, 18001, 99, 9, 0, 1001, [8, 119], 0, none⟩ = true ∧
    [8, 119] ≠ (ready.tier .n1).cells ∧ ready.mon.transaction = .idle ∧
    ({ ready with mon := { ready.mon with transaction := .poll .n1 0 } } : State).mon.transaction = .poll .n1 0 := by decide

/-- A table write of each kind of refusal: in RUN; unsound by tier 9, by cell 64, by an angle a centidegree beyond travel, by axis
24; and sound at the last values, of a tier with a brake released. -/
theorem test_meets_refused_table_writes :
    (running.auth.mode = .run ∧ tableKind (.setHall fromA ⟨1, 1, 0, 100, 1000⟩) = some 0x28 ∧
      requestSrc (.setHall fromA ⟨1, 1, 0, 100, 1000⟩) = some fromA) ∧
    TableUnsound ready (.setTier fromA 9 ⟨1, 0, 0, 0, 0, 0, 0, [], 0, none⟩) ∧
    TableUnsound ready (.setBand fromA 1 35 [64]) ∧ TableUnsound ready (.setStation fromA 1 1 0 18001) ∧
    TableUnsound ready (.setAxis fromA 24 AxisRec.initial) ∧
    ¬ TableUnsound ready (.setBand fromA 8 35 [63]) ∧ ¬ TableUnsound ready (.setStation fromA 1 8 0 18000) ∧
    ¬ TableUnsound ready (.setAxis fromA 23 AxisRec.initial) ∧
    TableConcerns (.setAxis fromA 2 AxisRec.initial) .n1 ∧
    TierInMotion (ready.modAxis ⟨.n1, .B⟩ fun x => { x with released := true }) .n1 := by
  refine ⟨by decide, .inr (.inl (by decide)), ?_, ?_, ?_, ?_, ?_, ?_, ⟨.B, rfl⟩, .inr ⟨.B, rfl⟩⟩
  · exact .inr (.inr (.inr (.inr (.inr ⟨64, by decide, by decide⟩))))
  · exact .inr (.inr (.inr (.inr (.inr ⟨rfl, .n1, rfl, by decide⟩))))
  · exact (by decide : 23 < 24)
  · simp [TableUnsound]
  · rintro (h | h | h | h | h | ⟨-, u, hu, h⟩)
    · exact absurd h (by decide)
    · exact absurd h (by decide)
    · exact absurd h (by decide)
    · exact absurd h (by decide)
    · exact absurd h (by decide)
    · cases u <;> first | exact absurd hu (by decide) | exact h (by decide)
  · exact (by decide : ¬ 23 < 23)

/-- Tier 1 not present, its lock CONFLICTED, made present by a write that adds its tilt group part. -/
theorem test_meets_a_tier_made_present :
    (after (.setTier fromA 1 ⟨1, -18000, 18000, 2000, 100, 20000, 60, [8], 1, tier1.tilt⟩)
      ((ready.modTables fun x => { x with tiers := x.tiers.set .n1 { tier1 with present := false, tilt := none } }).modSeq .n1
        fun q => { q with lockState := .conflicted })).seqs.n1.inhibit = some .lockConflict ∧
    (after (.setTier fromA 1 ⟨1, -18000, 18000, 2000, 100, 20000, 60, [8], 0, none⟩)
      (ready.modPair .n1 fun p => { p with stowed := false, toldStowed := false })).pairs.n1.toldStowed = true := by decide

theorem test_meets_AxisRecordsAndPositionsAreTaught :
    (ready.held = false ∧ ready.auth.mode = .setup ∧ ready.auth.holder = some .A ∧ ready.tierBusy .n1 = false) ∧
    ((ready.axis ⟨.n1, .R⟩).valid = true ∧ (ready.axis ⟨.n1, .R⟩).count = some 0) ∧
    (min 18000 (max (-18000) (18001 : Int)) = 18000 ∧ min 20000 (max 0 (-1 : Int)) = 0) := by decide

theorem test_meets_StationsAreTaught :
    (ready.held = false ∧ ready.auth.mode = .setup ∧ ready.auth.holder = some .A ∧ ready.tierBusy .n1 = false) ∧
    ((ready.tier .n1).travelMin ≤ -18000 ∧ 18000 ≤ (ready.tier .n1).travelMax) ∧
    ((ready.axis ⟨.n1, .R⟩).valid = true ∧ (ready.tier .n1).travelMin ≤ nearestBase (ready.axis ⟨.n1, .R⟩).position ∧
      nearestBase (ready.axis ⟨.n1, .R⟩).position ≤ (ready.tier .n1).travelMax) ∧
    ((ready.modAxis ⟨.n1, .R⟩ fun x => { x with valid := false }).axis ⟨.n1, .R⟩).valid = false := by decide

/-- A state with a pass asked for. -/
def asked (s : State) : State := { s with arb := { s.arb with passRequested := true } }

/-- The exemption mark of tR of tier 1 set. -/
def marked (s : State) : State := s.setExempt ⟨.n1, .R⟩ true

theorem test_meets_GrantPassOverOneMove :
    (running.held = false ∧ running.arb.passRequested = false) ∧
    ((asked ready).arb.passRequested = true ∧ (asked ready).auth.mode = .setup) ∧
    ((asked (waiting [turn])).arb.passRequested = true ∧ (asked (waiting [turn])).auth.mode = .run ∧
      (asked (waiting [turn])).man.state = .clear ∧ (asked (waiting [turn])).adm.waiting = [turn] ∧
      (asked (waiting [turn])).findMove turn [] 0 0 = .grant ∧ turn.goal = .rotate .n2) ∧
    ((asked (waiting [lift])).findMove lift [] 0 0 = .grant ∧ lift.goal = .tilt 5000) ∧
    ((asked (waiting [{ turn with goal := .rotate .n1 }])).findMove { turn with goal := .rotate .n1 } [] 0 0 = .grant ∧
      (running.seq .n1).station = some .n1 ∧ (running.seq .n1).lockState = .engaged) ∧
    ((asked (waiting [turn])).modSeq .n1 fun q => { q with inhibit := some .lockTimeout }).findMove turn [] 0 0 =
      .inhibited ∧
    (((asked (waiting [turn])).modHolding .n2 fun h => { h with standing := cellBit 20 }).findMove turn [] 0 0 =
      .held .cells ∧
      (asked (waiting [turn])).arb.armed = true) := by decide

/-- A pass with no jog in RUN leaves the exemption marks; one in a state that no run reaches, with a jog in RUN and the lock
found CONFLICTED as the granted move withdraws it, ends the jog and clears them. -/
theorem test_meets_the_frame_of_a_pass :
    ((asked (waiting [turn])).auth.mode = .run ∧ ∀ u ∈ Idx8.all, ((asked (waiting [turn])).seq u).jog = none) ∧
    ((after .grantPass (marked (asked (waiting [turn])))).man.exempt.n1 = ⟨true, false, false⟩ ∧
      (after .grantPass ((marked (asked (waiting [turn]))).modSeq .n1 fun q =>
        { q with
          jog := some ⟨.rotation, .up, .liftBrake, ⟨false, false, false⟩, none⟩
          lockIn := true
          lockOut := true })).man.exempt.n1 = ⟨false, false, false⟩) := by
  decide

/-- RUN with two tiers configured alike, the bands of tier 2 over cells of its own, and a pass asked for over some moves;
the cells of a set stand with tier 3. -/
def twoTiers (l : List MoveRec) (c : CellSet) : State :=
  asked { waiting l with
    tables := { running.tables with
      tiers := { running.tables.tiers with n2 := { tier1 with cells := [9] } }
      bands := { running.tables.bands with n2 := Vector.ofFn fun i => cellBit (36 + i.val % 20) }
      stations := { running.tables.stations with n2 := running.tables.stations.n1 } }
    seqs := { running.seqs with n2 := running.seqs.n1 }
    axes := { running.axes with n2 := running.axes.n1 }
    pairs := { running.pairs with n2 := running.pairs.n1 }
    mon := { running.mon with tiers := { running.mon.tiers with n2 := running.mon.tiers.n1 } }
    arb := { running.arb with
      tiers := { running.arb.tiers with
        n2 := { Holding.initial with band := some 18, standing := cellBit 54 }
        n3 := { Holding.initial with standing := c } } } }

/-- A ROTATE of tier 2 to station 2, and a second move of tier 1. -/
def turn2 : MoveRec := { turn with number := 2, tier := .n2 }
def later : MoveRec := { lift with number := 2 }

/-- A pass that holds an older move on CELLS and the younger one of its tier on ORDER. -/
theorem test_meets_all_held :
    AllHeld (twoTiers [turn, later] (cellBit 20)) [(turn, .cells), (later, .order)] ∧
    ((twoTiers [turn, later] (cellBit 20)).adm.waiting.map (·.number)).Nodup := by
  refine ⟨fun before after m r h => ?_, by decide⟩
  obtain _ | ⟨x, _ | ⟨y, before⟩⟩ := before
  · cases h
    decide
  · cases h
    decide
  · simp at h

/-- A pass that grants a move of tier 2 behind one of tier 1 that is held. -/
theorem test_meets_held_then_granted :
    AllHeld (twoTiers [turn, turn2] (cellBit 20)) [(turn, .cells)] ∧
    (twoTiers [turn, turn2] (cellBit 20)).findMove turn2 (heldTiers [(turn, .cells)])
      (heldCells (twoTiers [turn, turn2] (cellBit 20)) [(turn, .cells)])
      (heldPower (twoTiers [turn, turn2] (cellBit 20)) [(turn, .cells)]) = .grant := by
  refine ⟨fun before after m r h => ?_, by decide⟩
  obtain _ | ⟨x, before⟩ := before
  · cases h
    decide
  · simp at h

/-- Two moves of two tiers that both could be granted. -/
theorem test_meets_two_grants :
    (twoTiers [turn, turn2] 0).adm.waiting = [turn, turn2] ∧ turn.number ≠ turn2.number ∧
    (twoTiers [turn, turn2] 0).findMove turn [] 0 0 = .grant ∧
    (twoTiers [turn, turn2] 0).findMove turn2 [] 0 0 = .grant ∧
    (twoTiers [turn, turn2] 0).reservedFor turn &&& (twoTiers [turn, turn2] 0).reservedFor turn2 = 0 := by decide

/-- The figures of a grant: a ROTATE from band 18 to station 2 in band 20 and a TILT above stow height, in a tier whose standing
band is 18. -/
theorem test_meets_the_figures_of_a_grant :
    (running.stationAngle .n1 .n2 = some 2000 ∧ bandOf (running.axis ⟨.n1, .R⟩).position = 18 ∧ bandOf (256 * 2000) = 20 ∧
      running.reservedFor turn = cellsOf [18, 19, 20]) ∧
    ((running.tier .n1).tilt = tier1.tilt ∧ (running.holding .n1).band = some 18 ∧
      running.reservedFor lift = 0xF000000000000000#64 ∧ running.reservedFor { lift with goal := .tilt 150 } = 0) ∧
    (running.demandOf { turn with cls := .reduced } = 30 ∧ running.demandOf { lift with cls := .crawl } = 23) := by decide

/-- The premises of two grants: no cell owned twice, and no demand without an active move. -/
theorem test_meets_safe_floor_of_two :
    FloorSafe (twoTiers [turn, turn2] 0) ∧
    ∀ u, ((twoTiers [turn, turn2] 0).holding u).active = false → ((twoTiers [turn, turn2] 0).holding u).demand = 0 := by
  refine ⟨⟨fun t u h => ?_, fun h => by cases h⟩, fun u _ => by cases u <;> rfl⟩
  cases t <;> cases u <;> first | exact absurd rfl h | rfl

/-- Two moves that both could be granted and share cell 63, a raised cell of both tiers; and a capacity for one of them. -/
theorem test_meets_two_grants_in_conflict :
    ((twoTiers [lift, { lift with number := 2, tier := .n2 }] 0).findMove lift [] 0 0 = .grant ∧
      (twoTiers [lift, { lift with number := 2, tier := .n2 }] 0).findMove { lift with number := 2, tier := .n2 } [] 0 0 =
        .grant ∧
      (twoTiers [lift, { lift with number := 2, tier := .n2 }] 0).reservedFor lift &&&
        (twoTiers [lift, { lift with number := 2, tier := .n2 }] 0).reservedFor { lift with number := 2, tier := .n2 } ≠ 0) ∧
    ((twoTiers [turn, turn2] 0).demandOf turn = 60 ∧ (twoTiers [turn, turn2] 0).arb.committed = 0 ∧
      (twoTiers [turn, turn2] 0).tables.hall.capacity = 100) ∧
    (twoTiers [turn, later] 0).findMove later [] 0 0 = .grant := by decide

/-- A granted ROTATE by the lock as it stands: ENGAGED at another station, WITHDRAWING, WITHDRAWN and CONFLICTED. -/
theorem test_meets_the_lock_of_a_granted_move :
    ((running.seq .n1).jog = none ∧ (running.seq .n1).station ≠ some .n2 ∧ (running.seq .n1).lockState = .engaged ∧
      (running.seq .n1).lockOut = false) ∧
    (∀ x ∈ [LockState.withdrawing, .withdrawn, .conflicted],
      ((asked (waiting [turn])).modSeq .n1 fun q =>
        { q with lockState := x, lockIn := false, lockOut := x == LockState.withdrawn }).findMove turn [] 0 0 = .grant) ∧
    (running.pair .n1).toldStowed = true := by decide

/-- Checks of R50 that fail, with check 8 as the first that does where cell 20 stands with tier 2. -/
theorem test_meets_the_checks_of_a_pass :
    GrantCheckFails running turn [.n1] 0 0 2 ∧ GrantCheckFails (under turn .travel) turn [] 0 0 3 ∧
    GrantCheckFails (running.modSeq .n1 fun q => { q with inhibit := some .lockTimeout }) turn [] 0 0 4 ∧
    GrantCheckFails (running.modLoad .n1 fun l => { l with occupied := true }) turn [] 0 0 5 ∧
    GrantCheckFails (running.modHolding .n1 fun h => { h with stowed := false }) turn [] 0 0 7 ∧
    GrantCheckFails running turn [] 0 41 10 ∧
    GrantCheckFails (running.modHolding .n2 fun h => { h with standing := cellBit 20 }) turn [] 0 0 8 ∧
    ∀ j < 8, ¬GrantCheckFails (running.modHolding .n2 fun h => { h with standing := cellBit 20 }) turn [] 0 0 j := by
  refine ⟨?_, ?_, ?_, ?_, ?_, .inr (by decide), ⟨20, by decide, by decide, by decide, .inl (by decide)⟩, fun j h => ?_⟩
  iterate 5 rw [GrantCheckFails]; dsimp only [turn]; decide
  interval_cases j <;> rw [GrantCheckFails] <;> first | decide | (dsimp only [turn]; decide)

theorem test_meets_ReleaseReportsGiveBackBands :
    (under turn .travel).held = false ∧
    (((under turn .travel).holding .n1).path = some ⟨1, true, 18, 20, 18⟩ ∧ (running.holding .n1).path = none) ∧
    (((under turn .travel).bandUnion .n1 ((under turn .travel).releasedBands ⟨1, true, 18, 20, 18⟩ 268800)).getLsbD 18 = true ∧
      ((under turn .travel).bandUnion .n1 (Path.ahead ⟨1, true, 18, 20, 18⟩ 268800)).getLsbD 18 = false ∧
      ((under turn .travel).holding .n1).owns.getLsbD 18 = true) := by decide

theorem test_meets_ArbiterFollowsStowedEndsAndTrips :
    (running.held = false ∧ running.auth.mode = .run ∧ (running.tier .n1).present = true ∧
      (running.tier .n2).present = false ∧ ready.auth.mode = .setup) ∧
    ((running.holding .n1).path = none) ∧ ((under turn .travel).holding .n1).path = some ⟨1, true, 18, 20, 18⟩ ∧
    (running.arb.committed = 0 ∧ (under turn .travel).arb.committed ≠ 0) := by decide

/-- Tier 1 with a lock command under way, its timer set at 0 for 2 000 ms. -/
def locking (c : LockCmd) : State :=
  ready.modSeq .n1 fun q => { q with lockCmd := c, lockTimer := some ⟨0, 2000⟩, lockIn := false }

theorem test_meets_TheLockFollowsItsInputs :
    (ready.held = false ∧ (ready.seq .n1).slot = none ∧ (ready.seq .n1).jog = none ∧ (ready.seq .n1).lockTimer = none ∧
      ¬((ready.seq .n1).lockIn = false ∧ (ready.seq .n1).lockOut = false)) ∧
    (((locking .withdraw).seq .n1).lockTimer.isSome = true ∧ ((locking .withdraw).seq .n1).lockCmd = .withdraw ∧
      ((locking .engage).seq .n1).lockCmd = .engage) ∧
    (dueTimer (ready.seq .n1).lockTimer ready.clock = false ∧ dueTimer (some ⟨0, 2000⟩) 2000 = true) ∧
    (((under turn .withdrawLock).seq .n1).slot.map (·.stage)) = some .withdrawLock := by decide

/-- A transition that neither completes nor meets a conflict, one that meets a conflict, and a lock moved with none running. -/
theorem test_meets_a_lock_under_way :
    (¬(((locking .withdraw).seq .n1).lockIn = true ∧ ((locking .withdraw).seq .n1).lockOut = false) ∧
      ((locking .withdraw).seq .n1).slot = none) ∧
    ((after (.lockInputChange .n1 true false) (locking .withdraw)).seq .n1).lockState = .withdrawing ∧
    ((after (.lockInputChange .n1 true true) (locking .engage)).seq .n1).lockState = .conflicted ∧
    (¬((ready.seq .n1).lockIn = false ∧ (ready.seq .n1).lockOut = true) ∧ (ready.seq .n1).lockTimer = none) ∧
    (((jogging .rotation .withdrawLock).modSeq .n1 fun q =>
        { q with lockCmd := .withdraw, lockTimer := some ⟨0, 2000⟩, lockState := .withdrawing }).seq .n1).lockState ≠
      .conflicted := by decide

/-- Tier 1 with a move in its slot and its lock under way. -/
def lockingUnder (m : MoveRec) (st : Stage) (c : LockCmd) : State :=
  (under m st).modSeq .n1 fun q => { q with lockCmd := c, lockTimer := some ⟨0, 2000⟩, lockIn := false }

theorem test_meets_the_lock_of_an_occupied_tier :
    (((lockingUnder turn .withdrawLock .withdraw).seq .n1).slot =
        some ⟨turn, .withdrawLock, false, none, none, false, false⟩ ∧
      ((lockingUnder turn .withdrawLock .withdraw).seq .n1).lockOut = false ∧
      ((lockingUnder turn .withdrawLock .withdraw).pair .n1).toldStowed = true ∧
      ((lockingUnder turn .withdrawLock .withdraw).seq .n1).lockState ≠ .conflicted) ∧
    (((lockingUnder turn .engageLock .engage).seq .n1).slot = some ⟨turn, .engageLock, false, none, none, false, false⟩ ∧
      ((lockingUnder turn .engageLock .engage).seq .n1).lockTimer.isSome = true) ∧
    (((under lift .travel).seq .n1).slot = some ⟨lift, .travel, false, none, none, false, false⟩ ∧
      ((under lift .travel).seq .n1).jog = none ∧ ((under lift .travel).seq .n1).lockState = .engaged ∧
      ((under lift .travel).seq .n1).lockTimer = none ∧ ((under lift .travel).seq .n1).lockOut = false) ∧
    (((jogging .rotation .withdrawLock).modSeq .n1 fun q =>
        { q with lockCmd := .withdraw, lockTimer := some ⟨0, 2000⟩ }).seq .n1).jog =
      some ⟨.rotation, .up, .withdrawLock, ⟨false, false, false⟩, none⟩ ∧
    (((jogging .pair .travel).seq .n1).lockTimer = none ∧ ((jogging .pair .travel).seq .n1).lockState ≠ .conflicted) := by
  decide

theorem test_meets_LiftSetAndSettleReportsMoveTheStagesOn :
    (under turn .settle).held = false ∧
    (((under turn .liftBrake).seq .n1).slot = some ⟨turn, .liftBrake, false, none, none, false, false⟩ ∧
      (((under turn .liftBrake).modSeq .n1 fun q => { q with braked := false }).seq .n1).braked = false) ∧
    (((under lift .liftBrake).seq .n1).slot = some ⟨lift, .liftBrake, false, none, none, false, false⟩ ∧ lift.goal = .tilt 5000) ∧
    (turn.goal.kind = .rotate ∧ lift.goal.kind = .tilt) ∧
    ((((under lift .settle).modPair .n1 fun p => { p with phase := .settle }).pair .n1).phase = .settle) ∧
    ((((under turn .setBrake).seq .n1).slot).map (·.stage)) = some .setBrake ∧
    (((under turn .setBrake).seq .n1).lockIn = true ∧ ((under turn .setBrake).seq .n1).lockOut = false) := by decide

theorem test_meets_OrdersMeetTheOccupantOfATier :
    (ready.held = false ∧ (ready.seq .n1).slot = none ∧ (ready.seq .n1).jog = none) ∧
    (((under turn .travel).seq .n1).slot = some ⟨turn, .travel, false, none, none, false, false⟩ ∧
      ((under turn .travel).seq .n1).jog = none) ∧
    (((under lift .suspended).seq .n1).slot = some ⟨lift, .suspended, false, none, none, false, false⟩ ∧
      ((under lift .suspended).seq .n1).lockState = .engaged ∧ ((under turn .suspended).pair .n1).toldStowed = true) ∧
    (((under turn .suspended).modSeq .n1 fun q => { q with lockState := .withdrawing }).seq .n1).lockState =
      .withdrawing ∧
    (((jogging .pair .travel).seq .n1).jog = some ⟨.pair, .up, .travel, ⟨false, false, false⟩, none⟩ ∧
      ((jogging .pair .travel).seq .n1).slot = none) := by decide

theorem test_meets_JogsStartAndStopAndInhibitsClear :
    (ready.held = false ∧ ready.auth.mode = .setup ∧ ready.auth.holder = some .A ∧ (ready.tier .n1).present = true ∧
      ready.man.state = .clear ∧ (ready.seq .n1).slot = none ∧ (ready.tier .n1).tilt.isSome = true) ∧
    (∀ x ∈ jogAxes .n1 .rotation, (ready.axis x).valid = true ∧ (ready.axis x).ready = true ∧
      (ready.axis x).position < 256 * (ready.axisRange x).2 ∧ 256 * (ready.axisRange x).1 < (ready.axis x).position) ∧
    (∀ x ∈ jogAxes .n1 .pair, (ready.axis x).valid = true ∧ (ready.axis x).position < 256 * (ready.axisRange x).2) ∧
    ((ready.pair .n1).toldStowed = true ∧ (ready.seq .n1).lockState = .engaged ∧ (ready.seq .n1).lockIn = true) ∧
    (∃ x ∈ jogAxes .n1 .pair,
      ((ready.modAxis ⟨.n1, .B⟩ fun a => { a with ready := false }).axis x).ready = false) ∧
    ((jogging .rotation .travel).seq .n1).jog = some ⟨.rotation, .up, .travel, ⟨false, false, false⟩, none⟩ ∧
    ready.holderOrNone fromA = true := by decide

theorem test_meets_no_other_jog : ∀ v, v ≠ Idx8.n1 → ((jogging .rotation .travel).seq v).jog = none := by
  intro v h
  cases v <;> first | rfl | exact absurd rfl h

theorem test_meets_AxisUpdatesReadAdvanceAndDrive :
    (ready.held = false ∧ ready.axisPresent ⟨.n1, .R⟩ = true ∧ (ready.axis ⟨.n1, .R⟩).valid = true ∧
      (ready.axis ⟨.n1, .R⟩).contactor = true ∧ (⟨.n1, .A⟩ : Axis) = jackAxis .n1 .A) ∧
    (((ready.modAxis ⟨.n1, .R⟩ fun x => { x with released := true }).axis ⟨.n1, .R⟩).released = true) ∧
    ((ready.modAxis ⟨.n1, .R⟩ fun x => { x with release := some ⟨700, .up⟩ }).axis ⟨.n1, .R⟩).release = some ⟨700, .up⟩ := by
  decide

/-- A jack in TRAVEL takes what its pair unit last handed it, and in LIFTING it does not. -/
theorem test_meets_a_jack_that_follows :
    (⟨.n1, .A⟩ : Axis).role ≠ .R ∧
    ((after (.axisUpdate ⟨.n1, .A⟩ (.good 0)) (((ready.modAxis ⟨.n1, .A⟩ fun x => { x with phase := .travel }).modPair .n1 fun p =>
      { p with demand := some 5, v := 3, dir := .down, r := 7, target := some (-2) }))).axis ⟨.n1, .A⟩).dir = .down ∧
    ((after (.axisUpdate ⟨.n1, .A⟩ (.good 0)) (((ready.modAxis ⟨.n1, .A⟩ fun x => { x with phase := .lifting }).modPair .n1 fun p =>
      { p with demand := some 5, v := 3, dir := .down, r := 7, target := some (-2) }))).axis ⟨.n1, .A⟩).v = 0 := by decide

/-- An update of tR that ends TRAVEL under a move, and one that comes to rest under a move in HALTING. -/
theorem test_meets_an_arrival_and_a_rest :
    (((after (.axisUpdate ⟨.n1, .R⟩ (.good 0)) ((under turn .travel).modAxis ⟨.n1, .R⟩ fun x =>
        { x with phase := .travel, r := 1, cap := some 1 })).axis ⟨.n1, .R⟩).r = 0) ∧
    (((after (.axisUpdate ⟨.n1, .R⟩ (.good 0)) ((under turn .halting).modAxis ⟨.n1, .R⟩ fun x =>
        { x with phase := .stopping, r := 9, v := 3, stopDecel := some 3 })).axis ⟨.n1, .R⟩).v = 0) ∧
    (((after (.pairUpdate .n1) ((jogging .pair .travel).modPair .n1 fun p =>
        { p with phase := .travel, r := 1, served := .jog })).pair .n1).r = 0) := by decide

theorem test_meets_MotionChecksMarkAndReport :
    ready.held = false ∧ ready.axisPresent ⟨.n1, .R⟩ = true ∧
    ((ready.modAxis ⟨.n1, .R⟩ fun x => { x with released := true }).axis ⟨.n1, .R⟩).released = true ∧
    ((after (.axisUpdate ⟨.n1, .R⟩ (.good 25601)) (ready.modAxis ⟨.n1, .R⟩ fun x =>
      { x with released := true, phase := .lifting })).axis ⟨.n1, .R⟩).markFollowing = true ∧
    ((after (.axisUpdate ⟨.n1, .R⟩ (.good 25600)) (ready.modAxis ⟨.n1, .R⟩ fun x =>
      { x with released := true, phase := .lifting })).axis ⟨.n1, .R⟩).markFollowing = false := by decide

theorem test_meets_OrdersMeetAnAxis :
    ready.held = false ∧ (ready.axis ⟨.n1, .R⟩).phase = .idle ∧ (⟨.n1, .R⟩ : Axis).role = .R ∧
    ready.axisPresent ⟨.n1, .R⟩ = true ∧ (ready.axis ⟨.n1, .R⟩).limit = false ∧ (ready.axis ⟨.n1, .R⟩).ready = true ∧
    (State.reset.axis ⟨.n1, .R⟩).valid = false ∧
    (((under turn .liftBrake).holding .n1).path = some ⟨1, true, 18, 20, 18⟩ ∧
      ((under turn .liftBrake).axis ⟨.n1, .R⟩).phase = .idle) := by decide

theorem test_meets_OrdersMeetAPair :
    ready.held = false ∧ (ready.tier .n1).tilt.isSome = true ∧ (ready.tier .n2).tilt = none ∧ (ready.pair .n1).phase = .idle ∧ (ready.axis ⟨.n1, .A⟩).phase = .idle ∧
    ((ready.modPair .n1 fun p => { p with phase := .travel }).pair .n1).phase = .travel ∧
    ((ready.modPair .n1 fun p => { p with phase := .settle, demand := some 7 }).pair .n1).demand = some 7 ∧
    ((ready.modAxis ⟨.n1, .B⟩ fun x => { x with phase := .travel }).axis (jackAxis .n1 .B)).phase ≠ .idle := by decide

theorem test_meets_PairUpdatesAndJackReports :
    ready.held = false ∧ (ready.pair .n1).bothValid = true ∧ (ready.tier .n1).tilt.isSome = true ∧
    ((ready.modPair .n1 fun p => { p with phase := .travel }).pair .n1).phase = .travel ∧
    (stopStep 16 .up ⟨900, 10, 100⟩).v = 0 ∧ (stopStep 16 .up ⟨900, 17, 100⟩).v = 1 ∧
    (State.reset.tier .n1).tilt = none ∧
    ((jogging .rotation .travel).tier .n1).present = true ∧ ((jogging .rotation .travel).pair .n1).toldStowed = true ∧
    ((after (.jackPositionReport .n1 .A 38657 true) (jogging .rotation .travel)).pair .n1).stowed = false ∧
    ((after (.jackPositionReport .n1 .A 38656 true) (jogging .rotation .travel)).pair .n1).stowed = true := by decide

theorem test_meets_LoadIsPolledTaredAndWatched :
    (ready.held = false ∧ ready.mon.recoveryOwed = false ∧ ready.nextCell = some (.n1, 0)) ∧
    (({ ready with mon := { ready.mon with recoveryOwed := true } } : State).mon.recoveryOwed = true) ∧
    (({ ready with mon := { ready.mon with transaction := .recovery } } : State).mon.transaction = .recovery) ∧
    (({ ready with mon := { ready.mon with transaction := .lost } } : State).mon.transaction = .lost ∧
      ready.mon.transaction = .idle) ∧
    (({ ready with mon := { ready.mon with transaction := .poll .n1 0 } } : State).mon.transaction = .poll .n1 0 ∧
      (ready.loadOf .n1).cells[0]? = some ⟨some 0, false, 0, .fresh⟩) ∧
    ((0x41 : Byte).getLsbD 0 = true ∧ (0x40 : Byte).getLsbD 0 = false) ∧
    (ready.auth.mode = .setup ∧ ready.auth.holder = some .A ∧ ready.tierBusy .n1 = false ∧
      (ready.loadOf .n1).valid = true) := by decide

/-- RUN with plan 1 stored and not running. -/
def stored : State :=
  { running with plans := { Plans.initial with
    store := { Plans.initial.store with n1 := [⟨.n1, .rotate .n2, .full, .sequential⟩] } } }

theorem test_meets_PlansAreStoredStartedAndAborted :
    (stored.held = false ∧ stored.auth.holder = some .A) ∧
    ((List.replicate 24 (⟨1, 0, 2, 0, 0⟩ : RawStep)).map planStep? =
      (List.replicate 24 (⟨.n1, .rotate .n2, .full, .sequential⟩ : PlanStep)).map some ∧
      List.replicate 24 (⟨.n1, .rotate .n2, .full, .sequential⟩ : PlanStep) ≠ []) ∧
    (stored.auth.mode = .run ∧ stored.man.state = .clear ∧ stored.plans.running = false ∧
      stored.plans.store.get .n1 = [⟨.n1, .rotate .n2, .full, .sequential⟩] ∧ (stored.tier .n1).present = true ∧
      (stored.stationAngle .n1 .n2).isSome = true ∧ (stored.seq .n1).inhibit = none ∧ stored.adm.waiting.length < 32) ∧
    (planned .running (.submitted 1)).plans.running = true := by decide

/-- The steps of PLAN_WRITE as they travel, at the last values of their lists; one of tier 0, which no step gives; and a step
that names a station not taught. -/
theorem test_meets_plan_requests_refused :
    (List.replicate 24 (⟨.n8, .tilt 65535, .crawl, .barrier⟩ : PlanStep)).map rawStep =
      List.replicate 24 ⟨8, 1, 65535, 2, 2⟩ ∧
    (∀ y, (⟨0, 0, 1, 0, 0⟩ : RawStep) ≠ rawStep y) ∧
    (stored.auth.mode = .run ∧ stored.man.state = .clear ∧ stored.plans.running = false ∧
      stored.plans.store.get .n2 = [] ∧ ready.auth.mode = .setup ∧ (stopIn .held stored).man.state ≠ .clear ∧
      (planned .held .done).plans.running = true) ∧
    ¬StepNamed stored ⟨.n1, .rotate .n3, .full, .sequential⟩ ∧ StepNamed stored ⟨.n1, .rotate .n2, .full, .sequential⟩ := by
  refine ⟨by decide, fun y h => ?_, by decide, fun h => absurd (h.2.1 .n3 rfl) (by decide), by decide, fun n e => ?_,
    fun n e => by cases e⟩
  · rcases y with ⟨t, g, c, d⟩
    have h := congrArg RawStep.tier h
    cases t <;> cases h
  · cases e
    decide

/-- A plan of two steps, the second beside the first. -/
def twoSteps : List PlanStep := [⟨.n1, .rotate .n2, .full, .sequential⟩, ⟨.n1, .tilt 5000, .full, .parallel⟩]

theorem test_meets_a_run_of_two_steps :
    RunSound running twoSteps 1 ∧ runLength twoSteps 1 = 2 ∧ (waiting (List.replicate 31 turn)).adm.waiting.length = 31 := by
  refine ⟨fun x hx => ?_, by decide, by decide⟩
  have h : x = ⟨.n1, .rotate .n2, .full, .sequential⟩ ∨ x = ⟨.n1, .tilt 5000, .full, .parallel⟩ := by
    simpa [twoSteps, runLength] using hx
  obtain rfl | rfl := h
  · exact ⟨by decide, by decide, fun n e => by cases e; decide, fun n e => by cases e⟩
  · exact ⟨by decide, by decide, fun n e => (by cases e), fun n e => by cases e; decide⟩

theorem test_meets_an_inhibited_first_step :
    ((stored.modSeq .n1 fun q => { q with inhibit := some .lockTimeout }).seq .n1).inhibit.isSome = true := by decide

/-- A running plan with a pending move of its own, which the plan's end cancels. -/
theorem test_meets_a_pending_move_of_a_plan :
    (({ planned .running (.submitted 1) with adm := ⟨[turn], [], 1⟩ } : State).plans.running = true ∧
      ({ planned .running (.submitted 1) with adm := ⟨[turn], [], 1⟩ } : State).adm.outcomes.length ≤ 16) ∧
    (after (.planAbort fromA) { planned .running (.submitted 1) with adm := ⟨[turn], [], 1⟩ }).adm.outcomes =
      [endRecord turn .cancelled .planEnded 0] := by decide

theorem test_meets_PlansFollowEndsAndOrders :
    ((planned .running (.submitted 1)).held = false ∧ stored.plans.stepOf 1 = none) ∧
    ((planned .running (.submitted 1)).plans.steps[0]? = some ⟨.submitted 1, false⟩ ∧
      (planned .running (.submitted 1)).plans.running = true ∧ (planned .aborted (.submitted 1)).plans.running = false) ∧
    (({ planned .running .waitingRoom with
        plans := { (planned .running .waitingRoom).plans with next := some 1 } } : State).plans.steps =
      [⟨.waitingRoom, false⟩] ∧ (planned .running .waitingRoom).plans.plan = some .n1 ∧
      (planned .running .waitingRoom).adm.waiting.length < 32) ∧
    ((planned .held .done).plans.state = .held ∧ (planned .held .done).plans.next = none) := by decide

/-- RUN with plan 1 of two steps, the first submitted as move 1, and its second step next, with a status. -/
def halfway (st : PlanState) (c : StartCond) (x y : StepStatus) : State :=
  { running with plans :=
    ⟨{ Eight.fill [] with n1 := [⟨.n1, .rotate .n2, .full, .sequential⟩, ⟨.n1, .tilt 5000, .full, c⟩] }, some .n1, st,
      some 2, [⟨x, false⟩, ⟨y, false⟩], none, none⟩ }

theorem test_meets_the_next_step (st : PlanState) (c : StartCond) (x y : StepStatus) (hx : x ≠ .waitingRoom) :
    PlanRuns (halfway st c x y) .n1 [⟨.n1, .rotate .n2, .full, .sequential⟩, ⟨.n1, .tilt 5000, .full, c⟩] := by
  refine ⟨rfl, rfl, Nat.le_of_ble_eq_true rfl, rfl, fun j r h hw => ?_, rfl, .inl rfl⟩
  obtain _ | _ | j := j
  · cases h
    exact absurd hw hx
  · rfl
  · cases h

/-- A plan that ends has its waiting step NOT_SUBMITTED again, and keeps the other: by an end that is not DONE, by a stop's end
and by PLAN_ABORT. -/
theorem test_meets_the_steps_of_an_ended_plan :
    (halfway .running .parallel (.submitted 1) .waitingRoom).plans.running = true ∧
    ((after (.stepEnd 1 .failed .inhibit) (halfway .running .parallel (.submitted 1) .waitingRoom)).plans.steps =
      [⟨.endedBad (some 1), false⟩, ⟨.notSubmitted, false⟩]) ∧
    ((after (.stepEnd 1 .aborted .stop) (halfway .running .parallel (.submitted 1) .waitingRoom)).plans.state = .aborted) ∧
    ((after (.planAbort fromA) (halfway .running .parallel (.submitted 1) .waitingRoom)).plans.steps =
      [⟨.submitted 1, false⟩, ⟨.notSubmitted, false⟩]) := by decide

/-- The next step's tier inhibited since the start: the step names what it needs, and is refused as it is submitted. -/
theorem test_meets_a_step_refused :
    StepNamed ((halfway .running .parallel (.submitted 1) .waitingRoom).modSeq .n1 fun q =>
      { q with inhibit := some .lockTimeout }) ⟨.n1, .tilt 5000, .full, .parallel⟩ ∧
    ((after .freedEntry ((halfway .running .parallel (.submitted 1) .waitingRoom).modSeq .n1 fun q =>
      { q with inhibit := some .lockTimeout })).plans.steps = [⟨.submitted 1, false⟩, ⟨.endedBad none, false⟩]) := by
  refine ⟨⟨by decide, fun n e => (by cases e), fun h e => by cases e; decide⟩, by decide⟩

/-- A step that waits for room goes at a step end, with no entry freed. -/
theorem test_step_end_submits_a_waiting_step :
    (after (.stepEnd 1 .done .none) (halfway .running .sequential (.submitted 1) .waitingRoom)).plans.next = none ∧
    CondMet ⟨.n1, .tilt 5000, .full, .sequential⟩ [⟨.done, false⟩, ⟨.waitingRoom, false⟩] 2 ∧
    ((halfway .running .sequential (.submitted 1) .waitingRoom).plans.steps[1]?).map (·.status) = some .waitingRoom := by
  refine ⟨by decide, .inr (by decide), by decide⟩

/-- Its start condition is met once step 1 is DONE, and not before; and the step can be submitted. -/
theorem test_meets_a_start_condition :
    CondMet ⟨.n1, .tilt 5000, .full, .barrier⟩ [⟨.done, false⟩, ⟨.notSubmitted, false⟩] 2 ∧
    ¬ CondMet ⟨.n1, .tilt 5000, .full, .sequential⟩ [⟨.submitted 1, false⟩, ⟨.notSubmitted, false⟩] 2 ∧
    RunSound (halfway .running .barrier (.submitted 1) .notSubmitted)
      [⟨.n1, .rotate .n2, .full, .sequential⟩, ⟨.n1, .tilt 5000, .full, .barrier⟩] 2 := by
  refine ⟨.inr fun j h => ?_, fun h => ?_, fun x hx => ?_⟩
  · cases (show j = 0 by omega)
    rfl
  · obtain h | h := h
    · exact absurd h (by decide)
    · exact absurd h (by decide)
  · have h : x = ⟨.n1, .tilt 5000, .full, .barrier⟩ := by simpa [runLength] using hx
    subst h
    exact ⟨by decide, by decide, fun n e => (by cases e), fun n e => by cases e; decide⟩

theorem test_meets_BrakingDistanceIsTheSumOfItsSteps :
    1 ≤ 1 ∧ 15 < 16 ∧ 16 ≤ 16 ∧ 4095 ≤ 4095 := by decide

theorem test_meets_ProfilesReachTheirTargetsAndStops :
    (1 ≤ 64 ∧ 1 ≤ 256 ∧ CanStop 64 256 384 ∧ CanStop 64 0 1 ∧ 0 < 1) ∧
    profileStep 64 256 .up ⟨0, 256, 384⟩ = ⟨192, 192, 192⟩ := by
  unfold CanStop
  decide

/-- A state of each mode that meets the invariants a step keeps, with a step it takes. -/
theorem test_meets_EveryStepKeepsFloorPowerAndMotion :
    step { running with pending := [.grantPass] } = .next (after .grantPass running) ∧ FloorSafe running ∧
    PowerSafe running ∧ MotionSafe ready ∧ MotionSafe running := by
  refine ⟨rfl, ⟨fun t u h => ?_, fun h => ?_⟩, ⟨by decide, fun h => ?_, fun u _ => by cases u <;> rfl⟩, ⟨fun _ => ⟨rfl, fun t => ?_⟩, fun h => ?_, ?_⟩,
    ⟨fun h => ?_, fun _ t => ?_, ?_⟩⟩
  · cases t <;> cases u <;> first | exact absurd rfl h | decide
  · exact absurd h (by decide)
  · exact absurd h (by decide)
  · cases t <;> rfl
  · exact absurd h (by decide)
  · intro t u h
    cases t <;> cases h
  · exact absurd h (by decide)
  · cases t <;> rfl
  · intro t u h
    cases t <;> cases h

/-- The state after the release of the hall, with a step it takes. -/
theorem test_meets_EveryStepKeepsDrivesStopsListsAndAttn :
    step { running with pending := [.estopInputChange true] } = .next (after (.estopInputChange true) running) ∧
    DriveSafe running ∧ StopSafe running ∧ ListsSafe running ∧ AttnSafe running := by
  refine ⟨rfl, fun a => ?_, ?_, ⟨by decide, by decide, by decide, fun p => ?_⟩, by decide, fun p => ?_⟩
  · rcases a with ⟨t, r⟩
    cases t <;> cases r <;> decide
  · unfold StopSafe
    decide
  · cases p <;> decide
  · cases p <;> decide

end Sys2Proof.Tests
end

/-! SUPPORT. Braking distance (R97): its recurrence, its sum of steps and its bound. -/

namespace Sys2Proof.Machine

open Sys2Proof

theorem brakeDist_eq (a x : Nat) : brakeDist a x = (x / a) * x - a * (x / a) * (x / a + 1) / 2 := rfl

/-- A velocity below the deceleration is at rest in one update, with no further step above 0. -/
theorem brakeDist_of_lt {a x : Nat} (h : x < a) : brakeDist a x = 0 := by
  simp [brakeDist_eq, Nat.div_eq_of_lt h]

/-- Why the subtraction in D never truncates: what it takes away is at most what it takes it from. -/
theorem brakeDist_deducted_le (a x : Nat) : a * (x / a) * (x / a + 1) / 2 ≤ (x / a) * x := by
  have hquot : a * (x / a) ≤ x := Nat.mul_div_le x a
  generalize x / a = n at hquot ⊢
  have hdouble : a * n * (n + 1) ≤ 2 * (n * x) := by
    calc a * n * (n + 1) ≤ a * n * (2 * n) := by
          cases n with
          | zero => simp
          | succ k => exact Nat.mul_le_mul_left _ (by omega)
      _ = 2 * (n * (a * n)) := by ring
      _ ≤ 2 * (n * x) := by gcongr
  omega

/-- One step more: n grows by 1, n·x by n·a + x + a, and a·n·(n + 1)/2 by a·(n + 1). -/
theorem brakeDist_add (a y : Nat) (ha : 1 ≤ a) : brakeDist a (y + a) = y + brakeDist a y := by
  have hle := brakeDist_deducted_le a y
  rw [brakeDist_eq, brakeDist_eq, Nat.add_div_right y ha]
  generalize y / a = n at hle ⊢
  have hgain : (n + 1) * (y + a) = n * y + y + a * (n + 1) := by ring
  have hdeducted : a * (n + 1) * (n + 1 + 1) / 2 = a * n * (n + 1) / 2 + a * (n + 1) := by
    rw [show a * (n + 1) * (n + 1 + 1) = a * n * (n + 1) + a * (n + 1) * 2 by ring,
      Nat.add_mul_div_right _ _ two_pos]
  rw [hgain, hdeducted]
  omega

theorem brakeDist_of_le {a x : Nat} (ha : 1 ≤ a) (h : a ≤ x) : brakeDist a x = (x - a) + brakeDist a (x - a) := by
  simpa [Nat.sub_add_cancel h] using brakeDist_add a (x - a) ha

/-- Induction along the slowing itself: from x to rest by `a` per update. -/
theorem slowing_induction {a : Nat} (ha : 1 ≤ a) {P : Nat → Prop} (rest : ∀ x, x < a → P x)
    (slow : ∀ y, P y → P (y + a)) (x : Nat) : P x := by
  induction x using Nat.strong_induction_on with
  | h x ih =>
    obtain hlt | hle := Nat.lt_or_ge x a
    · exact rest x hlt
    · exact Nat.sub_add_cancel hle ▸ slow (x - a) (ih (x - a) (by omega))

/-- The first step from x is x − a, and the steps after it are those from x − a. -/
theorem brakeDist_eq_sum_steps {a : Nat} (ha : 1 ≤ a) (x : Nat) :
    brakeDist a x = ((List.range (x / a)).map fun i => x - (i + 1) * a).sum := by
  induction x using slowing_induction ha with
  | rest x hlt => simp [brakeDist_of_lt hlt, Nat.div_eq_of_lt hlt]
  | slow y ih =>
    have hstep : ∀ i, y + a - (i + 1 + 1) * a = y - (i + 1) * a := fun i => by
      rw [Nat.succ_mul (i + 1) a, Nat.add_sub_add_right]
    rw [brakeDist_add a y ha, ih, Nat.add_div_right y ha, List.range_succ_eq_map]
    simp [Function.comp_def, hstep]

/-- Slowing by 1 per update, over 0 + 1 + … + (x − 1), is the longest way to rest. -/
theorem two_mul_brakeDist_le {a : Nat} (ha : 1 ≤ a) (x : Nat) : 2 * brakeDist a x ≤ x * (x - 1) := by
  induction x using slowing_induction ha with
  | rest x hlt => simp [brakeDist_of_lt hlt]
  | slow y ih =>
    calc 2 * brakeDist a (y + a) = 2 * y + 2 * brakeDist a y := by rw [brakeDist_add a y ha, Nat.mul_add]
      _ ≤ 2 * y + y * (y - 1) := by gcongr
      _ = (y + 1) * y := by
        cases y with
        | zero => rfl
        | succ k => rw [Nat.add_sub_cancel]; ring
      _ ≤ (y + a) * (y + a - 1) := Nat.mul_le_mul (by omega) (by omega)

/-- The bound of R97, for every velocity an axis can have. -/
theorem brakeDist_le_of_le_4095 {a x : Nat} (ha : 1 ≤ a) (hx : x ≤ 4095) : brakeDist a x ≤ 8382465 := by
  have hmax : x * (x - 1) ≤ 4095 * 4094 := Nat.mul_le_mul hx (by omega)
  have hbound := two_mul_brakeDist_le ha x
  omega

/-- Settles O56: the sum of the steps and the bound by induction along the slowing, from the recurrence. -/
theorem brakingDistanceIsTheSumOfItsSteps : Obligations.BrakingDistanceIsTheSumOfItsSteps := by
  intro a x ha
  refine ⟨brakeDist_eq a x, brakeDist_eq_sum_steps ha x, brakeDist_of_lt, brakeDist_of_le ha, fun hx => ?_, rfl⟩
  have hbound := brakeDist_le_of_le_4095 ha hx
  exact ⟨hbound, hbound.trans (by decide)⟩

end Sys2Proof.Machine

/-! SUPPORT. The HOLD and STOP requests (R155, R158): what a cause of the hold or the quick category does to the stop
manager (R153, R154, R157), and the reply that gives the stop state after it. -/

namespace Sys2Proof.Machine

open Sys2Proof

/-! ### A cause counted and its event -/

/-- A cause that captures no record leaves the stop manager as the statements' `recordedOnly` has it. -/
theorem countCause_further_man (s : State) (k : Kind) : (s.countCause k false).man = recordedOnly s.man k := by
  simp [State.countCause, recordedOnly, furtherAfter, Config.furtherMax]

/-- A cause that captures the record itself is no further fault: it is seen, and the count stays. -/
theorem countCause_captures_man (s : State) (k : Kind) :
    (s.countCause k true).man = { s.man with seen := s.man.seen ||| kindSet k } := by
  simp [State.countCause]

@[simp] theorem countCause_mail (s : State) (k : Kind) (b : Bool) : (s.countCause k b).mail = s.mail := rfl
@[simp] theorem countCause_clock (s : State) (k : Kind) (b : Bool) : (s.countCause k b).clock = s.clock := rfl
@[simp] theorem countCause_allBraked (s : State) (k : Kind) (b : Bool) : (s.countCause k b).allBraked = s.allBraked := rfl

/-- The HOLD and STOP requests raise no FAULT event (R153). -/
theorem raiseFault_of_request (s : State) {c : Cause} (b : Bool) (h : c.kind = .hold ∨ c.kind = .stop) :
    s.raiseFault c b = s := if_pos h

/-! ### Entries to a hold and to a quick stop -/

theorem settleStop_man_of_holding {s : State} (h : s.man.state = .holding) :
    s.settleStop.man = { s.man with state := if s.allBraked then .held else .holding } := by
  unfold State.settleStop
  split
  · simp [h, State.setStop]
  · simp [← h]

theorem settleStop_man_of_stopping {s : State} (h : s.man.state = .stopping) :
    s.settleStop.man = { s.man with state := if s.allBraked then .stopped else .stopping } := by
  unfold State.settleStop
  split
  · simp [h, State.setStop]
  · simp [← h]

/-- Settling takes back nothing that has been sent. -/
theorem mem_settleStop_mail {s : State} {m : Instr} (h : m ∈ s.mail) : m ∈ s.settleStop.mail := by
  obtain e | ⟨st, e, -⟩ := settleStop_eq s <;> rw [e]
  · exact h
  · exact List.mem_append_left _ h

theorem enterHold_man (s : State) (c : Cause) :
    (s.enterHold c).man = { s.man with state := if s.allBraked then .held else .holding } :=
  settleStop_man_of_holding rfl

theorem enterHold_orders (s : State) (c : Cause) :
    (∀ u, Instr.holdOrder u ∈ (s.enterHold c).mail) ∧ Instr.planHoldOrder ∈ (s.enterHold c).mail :=
  ⟨fun u => mem_settleStop_mail (by simp [Idx8.mem_all u]), mem_settleStop_mail (by simp)⟩

theorem enterQuick_man (s : State) (c : Cause) :
    (s.enterQuick c).man = { s.man with
      state := if s.allBraked then .stopped else .stopping
      record := some (recordOf c s.clock)
      emptying := true } :=
  settleStop_man_of_stopping rfl

theorem enterQuick_orders (s : State) (c : Cause) :
    (∀ u, Instr.quickStopOrder u ∈ (s.enterQuick c).mail) ∧
      Instr.emptyPendingList .stop ∈ (s.enterQuick c).mail ∧ Instr.planStopOrder .stop ∈ (s.enterQuick c).mail :=
  ⟨fun u => mem_settleStop_mail (by simp [Idx8.mem_all u]), mem_settleStop_mail (by simp),
    mem_settleStop_mail (by simp)⟩

/-! ### A cause taken, by its category (R153) -/

theorem takesEffect_hold_iff (st : StopState) : takesEffect st .hold = true ↔ st = .clear := by
  simp [takesEffect]

theorem takesEffect_quick_iff (st : StopState) :
    takesEffect st .quick = true ↔ st = .clear ∨ st = .holding ∨ st = .held := by
  simp [takesEffect, or_assoc]

/-- A quick stop starts where no fault stands, so its cause always captures the record (R162). -/
theorem capturesFrom_of_takesEffect_quick {st : StopState} (h : takesEffect st .quick = true) :
    capturesFrom st = true := by
  obtain rfl | rfl | rfl := (takesEffect_quick_iff st).mp h <;> rfl

theorem takeCause_of_no_effect (s : State) {c : Cause} {cat : Category} (hcat : categoryOf c.kind = some cat)
    (he : takesEffect s.man.state cat = false) :
    s.takeCause c = (s.countCause c.kind false).raiseFault c false := by
  simp [State.takeCause, hcat, he]

theorem takeCause_hold (s : State) {c : Cause} (hcat : categoryOf c.kind = some .hold)
    (he : takesEffect s.man.state .hold = true) :
    s.takeCause c = ((s.countCause c.kind false).raiseFault c true).enterHold c := by
  simp [State.takeCause, hcat, he]

theorem takeCause_quick (s : State) {c : Cause} (hcat : categoryOf c.kind = some .quick)
    (he : takesEffect s.man.state .quick = true) :
    s.takeCause c = ((s.countCause c.kind true).raiseFault c true).enterQuick c := by
  have hcaptures : (Category.quick != .hold) = true := rfl
  simp [State.takeCause, hcat, he, capturesFrom_of_takesEffect_quick he, hcaptures]

/-- A HOLD or STOP request that takes no effect is recorded only, and sends nothing. -/
theorem takeCause_request_recorded (s : State) {k : Kind} {cat : Category} (hk : k = .hold ∨ k = .stop)
    (hcat : categoryOf k = some cat) (he : takesEffect s.man.state cat = false) :
    (s.takeCause (bareCause k)).man = recordedOnly s.man k ∧ (s.takeCause (bareCause k)).mail = s.mail := by
  rw [takeCause_of_no_effect s hcat he, raiseFault_of_request _ _ hk]
  exact ⟨countCause_further_man s k, rfl⟩

/-- HOLD taken in CLEAR (R154). -/
theorem takeCause_hold_request (s : State) (he : takesEffect s.man.state .hold = true) :
    s.takeCause (bareCause .hold) = (s.countCause .hold false).enterHold (bareCause .hold) := by
  rw [takeCause_hold s rfl he, raiseFault_of_request _ _ (.inl rfl)]
  rfl

/-- STOP taken in CLEAR, HOLDING or HELD (R157). -/
theorem takeCause_stop_request (s : State) (he : takesEffect s.man.state .quick = true) :
    s.takeCause (bareCause .stop) = (s.countCause .stop true).enterQuick (bareCause .stop) := by
  rw [takeCause_quick s rfl he, raiseFault_of_request _ _ (.inr rfl)]
  rfl

/-! ### The two requests -/

/-- The block's answer to a HOLD or STOP request: the cause taken, then OK with the stop state after it. -/
def causeAnswer (k : Kind) (s : State) : Answer :=
  (s.takeCause (bareCause k)).answer .ok [stopCode (s.takeCause (bareCause k)).man.state]

theorem exec_hold (q : Src) (s : State) : exec (.hold q) s = request (.hold q) q 0x18 (causeAnswer .hold) s := rfl
theorem exec_stop (q : Src) (s : State) : exec (.stop q) s = request (.stop q) q 0x1A (causeAnswer .stop) s := rfl

theorem OnlyMan.ports {s t : State} (h : OnlyMan s t) : t.ports = s.ports := by
  unfold OnlyMan at h
  rw [h]

theorem OnlyPorts.man {s t : State} (h : OnlyPorts s t) : t.man = s.man := by
  unfold OnlyPorts at h
  rw [h]

/-- A request that is a cause changes only the stop manager, the ports and the reports in flight. Its reply gives the stop
state after the cause; every report that the cause sends is in flight after it, and a cause that sends none leaves only
the port's next dispatch to join them. -/
theorem request_causeAnswer (c : Instr) (q : Src) (code : Byte) (k : Kind) {s : State} (h : s.held = false) :
    ∃ t, request c q code (causeAnswer k) s = .next t ∧ t = { s with man := t.man, ports := t.ports, mail := t.mail } ∧
      t.man = ((s.taken c).takeCause (bareCause k)).man ∧ Replied s t q code .ok [stopCode t.man.state] ∧
      (∀ m ∈ ((s.taken c).takeCause (bareCause k)).mail, m ∈ t.mail) ∧
      (((s.taken c).takeCause (bareCause k)).mail = (s.taken c).mail → Mailed s t c q.port []) := by
  have hframe : OnlyMan (s.taken c) ((s.taken c).takeCause (bareCause k)) := takeCause_frame _ _
  have hports : ((s.taken c).takeCause (bareCause k)).ports = s.ports := hframe.ports
  obtain ⟨t, ht, honly, hreply, hsent⟩ := request_replied c q code (causeAnswer k) h hports
  have hman : t.man = ((s.taken c).takeCause (bareCause k)).man := honly.man
  refine ⟨t, ht, ?_, hman, hman ▸ hreply, hsent, fun hmail => ?_⟩
  · unfold OnlyPorts causeAnswer State.answer at honly
    unfold OnlyMan at hframe
    rw [honly, hframe]
    rfl
  · obtain ⟨t', ht', -, -, hmailed⟩ :=
      request_answered c q code (causeAnswer k) [] h hports (hmail.trans (List.append_nil _).symm)
    cases ht.symm.trans ht'
    exact hmailed

/-- Settles O25: by whether the hold takes effect, that is, whether the hall is CLEAR. -/
theorem holdPausesTheHall : Obligations.HoldPausesTheHall := by
  intro q s h
  obtain ⟨t, ht, hframe, hman, hreply, hsent, hnone⟩ := request_causeAnswer (.hold q) q 0x18 .hold h
  refine ⟨t, (exec_hold q s).trans ht, hframe, hreply, ?_⟩
  split
  next hclear =>
    rw [takeCause_hold_request (s.taken _) ((takesEffect_hold_iff _).mpr hclear)] at hman hsent
    obtain ⟨horders, hplan⟩ := enterHold_orders ((s.taken (.hold q)).countCause .hold false) (bareCause .hold)
    refine ⟨?_, fun u => hsent _ (horders u), hsent _ hplan⟩
    rw [hman, enterHold_man, countCause_further_man]
    rfl
  next hother =>
    have he : takesEffect (s.taken (.hold q)).man.state .hold = false :=
      Bool.eq_false_iff.mpr (mt (takesEffect_hold_iff _).mp hother)
    obtain ⟨hrec, hmail⟩ := takeCause_request_recorded _ (.inl rfl) rfl he
    exact ⟨hman.trans hrec, hnone hmail⟩

/-- Settles O26: by whether the quick stop takes effect; where it does, it captures the record. -/
theorem stopStopsTheHall : Obligations.StopStopsTheHall := by
  intro q s h
  obtain ⟨t, ht, hframe, hman, hreply, hsent, hnone⟩ := request_causeAnswer (.stop q) q 0x1A .stop h
  refine ⟨t, (exec_stop q s).trans ht, hframe, hreply, ?_⟩
  split
  next hfree =>
    rw [takeCause_stop_request (s.taken _) ((takesEffect_quick_iff _).mpr hfree)] at hman hsent
    obtain ⟨horders, hempty, hplan⟩ :=
      enterQuick_orders ((s.taken (.stop q)).countCause .stop true) (bareCause .stop)
    refine ⟨?_, fun u => hsent _ (horders u), hsent _ hempty, hsent _ hplan⟩
    rw [hman, enterQuick_man, countCause_captures_man]
    rfl
  next hother =>
    have he : takesEffect (s.taken (.stop q)).man.state .quick = false :=
      Bool.eq_false_iff.mpr (mt (takesEffect_quick_iff _).mp hother)
    obtain ⟨hrec, hmail⟩ := takeCause_request_recorded _ (.inr rfl) rfl he
    exact ⟨hman.trans hrec, hnone hmail⟩

end Sys2Proof.Machine

/-! SUPPORT. The CLEAR_EVENTS request (R195): the kinds it removes from the latch, both ports' judgement of their ATTN
lines, and the reply of a request whose block changes the ports itself. -/

namespace Sys2Proof.Machine

open Sys2Proof

theorem OnlyPorts.latched {s t : State} (h : OnlyPorts s t) : t.latched = s.latched := by
  unfold OnlyPorts at h
  rw [h]

/-- A request whose block leaves `u`, ports changed or not, and sends no report: the reply is handed to the port as `u`
has it, and the rest of the state after it is `u`. -/
theorem request_handed (c : Instr) (q : Src) (k : Byte) (f : State → Answer) {s u : State} {st : Status}
    {body : List Byte} (h : s.held = false) (hf : f (s.taken c) = (u, st, body)) (hm : u.mail = s.mail.erase c) :
    ∃ t, request c q k f s = .next t ∧ OnlyPorts u t ∧ Replied u t q k st body ∧ Mailed s t c q.port [] := by
  obtain ⟨hreply, honly, hmail⟩ := putReply_eq u q k st body
  refine ⟨_, ?_, honly, hreply, ?_⟩
  · rw [request_of_not_held c q k f h, hf]
  · simpa only [Mailed, hm, List.append_nil] using hmail

/-! ### The latched set after the removal -/

/-- The state with the named kinds out of the latched set and both ATTN lines judged afresh. -/
def State.clearKinds (s : State) (mask : BitVec 16) : State :=
  ({ s with latched := s.latched &&& ~~~(mask.setWidth 10) }.judge .A).judge .B

/-- Both ports have judged: the block's reply meets each port as it was, but for ATTN, which stands by the set left. -/
theorem replied_clearKinds_iff (s t : State) (mask : BitVec 16) (q : Src) (k : Byte) (st : Status) (body : List Byte) :
    Replied (s.clearKinds mask) t q k st body ↔
      Replied
        (s.withPorts { s.ports.a with attn := ((s.clearKinds mask).latched &&& s.ports.a.enabled) != 0 }
          { s.ports.b with attn := ((s.clearKinds mask).latched &&& s.ports.b.enabled) != 0 }) t q k st body :=
  Iff.rfl

/-- A kind stays latched exactly when it was latched and the field does not name it. -/
theorem clearKinds_getLsbD (s : State) (mask : BitVec 16) {i : Nat} (hi : i < 10) :
    (s.clearKinds mask).latched.getLsbD i = (s.latched.getLsbD i && !mask.getLsbD i) := by
  change (s.latched &&& ~~~(mask.setWidth 10)).getLsbD i = _
  simp [hi]

/-! ### The two answers -/

/-- The block's answer to CLEAR_EVENTS: a field with any of bits 10 to 15 set is refused, and otherwise the reply gives
the set that is left. -/
def clearAnswer (mask : BitVec 16) (s : State) : Answer :=
  if 1024 ≤ mask.toNat then s.refuse .badValue
  else (s.clearKinds mask).answer .ok (eventSetBytes (s.clearKinds mask).latched)

theorem exec_clearEvents (q : Src) (mask : BitVec 16) (s : State) :
    exec (.clearEvents q mask) s = request (.clearEvents q mask) q 0x39 (clearAnswer mask) s := rfl

theorem clearAnswer_of_reserved {mask : BitVec 16} (s : State) (hm : 1024 ≤ mask.toNat) :
    clearAnswer mask s = (s, .badValue, []) := if_pos hm

theorem clearAnswer_of_kinds {mask : BitVec 16} (s : State) (hm : ¬1024 ≤ mask.toNat) :
    clearAnswer mask s = (s.clearKinds mask, .ok, beBytes 2 (s.clearKinds mask).latched.toNat) := if_neg hm

/-- Settles O15: by whether the field sets any of bits 10 to 15. A refusal leaves the latch and hands the reply to the
port as it stood; otherwise the reply meets the ports as they have judged their ATTN lines. -/
theorem clearEventsRemovesTheNamedKinds : Obligations.ClearEventsRemovesTheNamedKinds := by
  intro q mask s h
  by_cases hm : 1024 ≤ mask.toNat
  · obtain ⟨t, ht, honly, hreply, hmailed⟩ :=
      request_handed (.clearEvents q mask) q 0x39 (clearAnswer mask) h (clearAnswer_of_reserved _ hm) rfl
    refine ⟨t, (exec_clearEvents q mask s).trans ht, hmailed, ?_, ?_⟩
    · exact honly.latched ▸ honly
    · rw [if_pos hm]
      exact ⟨honly.latched, hreply⟩
  · obtain ⟨t, ht, honly, hreply, hmailed⟩ :=
      request_handed (.clearEvents q mask) q 0x39 (clearAnswer mask) h (clearAnswer_of_kinds _ hm) rfl
    have hlatched : t.latched = (s.clearKinds mask).latched := honly.latched
    refine ⟨t, (exec_clearEvents q mask s).trans ht, hmailed, ?_, ?_⟩
    · rw [hlatched]
      exact honly
    · rw [if_neg hm, hlatched]
      exact ⟨fun i hi => clearKinds_getLsbD s mask hi, (replied_clearKinds_iff ..).mp hreply⟩

end Sys2Proof.Machine

/-! SUPPORT. What the operations of one tier's sequencer leave as it was: beyond that sequencer and its tier's exemption
marks they ask for a pass and send reports, they begin no move and no jog, and they take nothing back that was sent. -/

namespace Sys2Proof.Machine

open Sys2Proof

/-- From `s` to `t` the sequencer of tier `u` has acted on the move or the jog that it holds: it has begun neither, and what
was in flight is in flight still, behind it what the sequencer has sent. -/
structure SeqActs (u : Tier) (s t : State) : Prop where
  touches : TouchesOnlySeq s t u
  slot : (s.seq u).slot = none → (t.seq u).slot = none
  jog : (s.seq u).jog = none → (t.seq u).jog = none
  sent : s.mail <+: t.mail
  pass : s.arb.passRequested = true → t.arb.passRequested = true

theorem TouchesOnlySeq.refl (s : State) (u : Tier) : TouchesOnlySeq s s u := ⟨fun _ _ => ⟨rfl, rfl⟩, rfl⟩

theorem TouchesOnlySeq.trans {s t v : State} {u : Tier} (h : TouchesOnlySeq s t u) (g : TouchesOnlySeq t v u) :
    TouchesOnlySeq s v u := by
  obtain ⟨hkeep, hframe⟩ := h
  obtain ⟨gkeep, gframe⟩ := g
  refine ⟨fun w hw => ?_, ?_⟩
  · exact ⟨(gkeep w hw).1.trans (hkeep w hw).1, (gkeep w hw).2.trans (hkeep w hw).2⟩
  · rw [gframe, hframe]

theorem SeqActs.refl (u : Tier) (s : State) : SeqActs u s s := ⟨.refl s u, id, id, List.prefix_rfl, id⟩

theorem SeqActs.trans {u : Tier} {s t v : State} (h : SeqActs u s t) (g : SeqActs u t v) : SeqActs u s v :=
  ⟨h.touches.trans g.touches, g.slot ∘ h.slot, g.jog ∘ h.jog, h.sent.trans g.sent, g.pass ∘ h.pass⟩

namespace SeqActs

variable {u : Tier} {s t : State}

/-! ### The steps that sequencer operations are made of -/

theorem modSeq (h : SeqActs u s t) (f : Seq → Seq) (hslot : (t.seq u).slot = none → (f (t.seq u)).slot = none)
    (hjog : (t.seq u).jog = none → (f (t.seq u)).jog = none) : SeqActs u s (t.modSeq u f) := by
  refine h.trans ⟨⟨fun v hv => ⟨?_, rfl⟩, rfl⟩, ?_, ?_, List.prefix_rfl, id⟩
  · rw [State.modSeq_seq, if_neg hv]
  · simpa using hslot
  · simpa using hjog

theorem emitAll (h : SeqActs u s t) (l : List Instr) : SeqActs u s (t.emitAll l) :=
  h.trans ⟨⟨fun _ _ => ⟨rfl, rfl⟩, rfl⟩, id, id, List.prefix_append .., id⟩

theorem emit (h : SeqActs u s t) (c : Instr) : SeqActs u s (t.emit c) := h.emitAll [c]

theorem raise (h : SeqActs u s t) (e : Event) : SeqActs u s (t.raise e) := h.emit _

theorem requestPass (h : SeqActs u s t) : SeqActs u s t.requestPass := by
  rw [requestPass_eq]
  refine h.trans ⟨⟨fun _ _ => ⟨rfl, rfl⟩, rfl⟩, id, id, ?_, fun _ => rfl⟩
  dsimp only
  split
  · exact List.prefix_rfl
  · exact List.prefix_append ..

theorem ite {p : Prop} [Decidable p] {x y : State} (hx : p → SeqActs u s x) (hy : ¬p → SeqActs u s y) :
    SeqActs u s (if p then x else y) := by
  split
  · exact hx ‹_›
  · exact hy ‹_›

theorem when (h : SeqActs u s t) (b : Bool) {f : State → State} (hf : ∀ x, SeqActs u s x → SeqActs u s (f x)) :
    SeqActs u s (t.when b f) := .ite (fun _ => hf t h) (fun _ => h)

theorem modActive (h : SeqActs u s t) (f : Active → Active) : SeqActs u s (t.modActive u f) :=
  h.modSeq _ (by simp +contextual) (by simp)

theorem modJog (h : SeqActs u s t) (f : Jog → Jog) : SeqActs u s (t.modJog u f) :=
  h.modSeq _ (by simp) (by simp +contextual)

theorem seqReport (h : SeqActs u s t) : SeqActs u s (t.seqReport u) := by
  simp only [State.seqReport]
  refine modSeq ?_ _ id id
  have report {x : State} (hx : SeqActs u s x) (p : Prop) [Decidable p] (c : Instr) :
      SeqActs u s (if p then x else x.emit c) := .ite (fun _ => hx) (fun _ => hx.emit c)
  exact report (report (report h _ _) _ _) _ _

/-! ### Brakes, ends and causes -/

theorem releaseBrakes (h : SeqActs u s t) (served : Served) : SeqActs u s (t.releaseBrakes u served) := by
  unfold State.releaseBrakes
  exact modSeq (.ite (fun _ => h.emit _) (fun _ => h.emit _)) _ id id

theorem applyBrakes (h : SeqActs u s t) : SeqActs u s (t.applyBrakes u) :=
  .ite (fun _ => h) fun _ => modSeq (.ite (fun _ => h.emit _) (fun _ => h.emit _)) _ id id

theorem orderStop (h : SeqActs u s t) (rate : StopRate) : SeqActs u s (t.orderStop u rate) :=
  .ite (fun _ => h.emit _) (fun _ => h.emit _)

theorem endMove (h : SeqActs u s t) (o : MoveOutcome) (r : Reason) : SeqActs u s (t.endMove u o r) := by
  unfold State.endMove
  split
  · exact h
  · dsimp only
    split
    · exact (h.modSeq _ (fun _ => rfl) id).emitAll _
    · exact ((h.modSeq _ (fun _ => rfl) id).emitAll _).emit _

theorem endJog (h : SeqActs u s t) : SeqActs u s (t.endJog u) := by
  have hman (x : State) : SeqActs u x (x.modMan fun m => { m with exempt := m.exempt.set u ⟨false, false, false⟩ }) := by
    refine ⟨⟨fun v hv => ⟨rfl, ?_⟩, rfl⟩, id, id, List.prefix_rfl, id⟩
    exact (Eight.get_set ..).trans (if_neg hv)
  exact ((h.modSeq _ id fun _ => rfl).trans (hman _)).raise _

theorem tierCause (h : SeqActs u s t) (k : TierCause) : SeqActs u s (t.tierCause u k) :=
  .ite (fun _ => .ite (fun _ => h.emit _) fun _ => ((h.emit _).modSeq _ id id).requestPass.raise _) fun _ => h

theorem losePosture (h : SeqActs u s t) (k : Kind) (r : Reason) : SeqActs u s (t.losePosture u k r) := by
  unfold State.losePosture
  split
  · exact h
  · exact (h.modActive _).emit _

/-! ### LIFT_BRAKE, HALTING and SET_BRAKE -/

theorem enterLift (h : SeqActs u s t) : SeqActs u s (t.enterLift u) := by
  unfold State.enterLift
  split
  · exact h
  · dsimp only
    have h1 := h.modActive fun a => { a with stage := .liftBrake, context := none }
    split <;> exact .ite (fun _ => h1.releaseBrakes _) fun _ => h1.losePosture _ _

theorem jogLift (h : SeqActs u s t) : SeqActs u s (t.jogLift u) := by
  unfold State.jogLift
  split
  · exact h
  · exact .ite (fun _ => h.endJog) fun _ => (h.modJog _).releaseBrakes _

theorem liftDone (h : SeqActs u s t) (turning : Bool) : SeqActs u s (t.liftDone u turning) := by
  refine .ite (fun _ => h) fun _ => ?_
  split
  · refine .ite (fun _ => ?_) fun _ => h
    dsimp only
    split <;> exact (h.modActive _).emit _
  · refine .ite (fun _ => ?_) fun _ => h
    dsimp only
    split <;> exact (h.modJog _).emit _
  · exact h

theorem haltMove (h : SeqActs u s t) (e : MoveOutcome × Reason) : SeqActs u s (t.haltMove u e) :=
  (h.modActive _).orderStop _

theorem jogSetBrake (h : SeqActs u s t) : SeqActs u s (t.jogSetBrake u) :=
  .ite (fun _ => h.endJog) fun _ => (h.modJog _).applyBrakes

theorem haltJog (h : SeqActs u s t) (c : JogEnd) : SeqActs u s (t.haltJog u c) := by
  unfold State.haltJog
  split
  · exact h
  · split
    · exact h.endJog
    · exact (h.modJog _).jogSetBrake
    · exact (h.modJog _).orderStop _
    · exact .ite (fun _ => (h.modJog _).orderStop _) fun _ => h
    · exact h

theorem enterSetBrake (h : SeqActs u s t) : SeqActs u s (t.enterSetBrake u) := (h.modActive _).applyBrakes

/-! ### The lock -/

theorem conflictMove (h : SeqActs u s t) : SeqActs u s (t.conflictMove u) := by
  unfold State.conflictMove
  split
  · exact h
  · split <;> first | exact h | exact h.applyBrakes.endMove _ _ | exact h.haltMove _

theorem withdrawalDone (h : SeqActs u s t) : SeqActs u s (t.withdrawalDone u) := by
  have h1 := h.modSeq (fun q => { q with lockTimer := none }) id id
  exact .ite (fun _ => h1.enterLift) fun _ => .ite (fun _ => h1.jogLift) fun _ => h1

theorem engagementDone (h : SeqActs u s t) : SeqActs u s (t.engagementDone u) := by
  unfold State.engagementDone
  dsimp only
  generalize hf : (fun q : Seq => _) = f
  have h2 := (h.modSeq f (by rw [← hf]; exact id) (by rw [← hf]; exact id)).when (t.tier u).present
    fun _ h => h.requestPass
  exact .ite (fun _ => h2.endMove _ _) fun _ => h2

theorem refindLock (h : SeqActs u s t) : SeqActs u s (t.refindLock u) := by
  unfold State.refindLock
  dsimp only
  have h3 := fun f hs hj b c => ((h.modSeq f hs hj).when b fun _ h => h.requestPass).when c fun _ h =>
    h.losePosture .lockLost .lockLost
  split
  · exact (h3 _ id id _ _).withdrawalDone
  · exact (h3 _ id id _ _).engagementDone
  · exact ((((h3 _ id id _ _).modSeq _ id id).when _ fun _ h => h.tierCause _).when _ fun _ h =>
      h.conflictMove).when _ fun _ h => h.haltJog _
  · exact h3 _ id id _ _

theorem startLock (h : SeqActs u s t) (c : LockCmd) : SeqActs u s (t.startLock u c) :=
  (h.modSeq _ id id).refindLock

theorem enterWithdraw (h : SeqActs u s t) : SeqActs u s (t.enterWithdraw u) := by
  have h1 := (h.modActive fun a => { a with stage := .withdrawLock, context := none }).modJog fun j =>
    { j with stage := .withdrawLock }
  unfold State.enterWithdraw
  dsimp only
  split
  · exact .ite (fun _ => h1.startLock _) fun _ => .ite (fun _ => h1.enterLift) fun _ => h1.jogLift
  · exact h1
  · exact h1.startLock _
  · exact h1.startLock _
  · exact .ite (fun _ => h1.endMove _ _) fun _ => h1.endJog

theorem lockTimedOut (h : SeqActs u s t) : SeqActs u s (t.lockTimedOut u) := by
  unfold State.lockTimedOut
  exact ((((h.modSeq _ id id).tierCause _).when _ fun _ h => h.endMove _ _).when _ fun _ h => h.endJog).refindLock

theorem enterEngage (h : SeqActs u s t) : SeqActs u s (t.enterEngage u) := (h.modActive _).startLock _

/-! ### Reports of the axis or the pair -/

theorem setDone (h : SeqActs u s t) (turning : Bool) : SeqActs u s (t.setDone u turning) := by
  refine .ite (fun _ => h) fun _ => ?_
  split
  · refine .ite (fun _ => h) fun _ => .ite (fun _ => h.modActive _) fun _ => ?_
    split
    · exact h.endMove _ _
    · refine .ite (fun _ => h.endMove _ _) fun _ => ?_
      split
      · exact h.enterEngage
      · exact h.endMove _ _
  · exact .ite (fun _ => h.endJog) fun _ => h
  · exact h

theorem seqRest (h : SeqActs u s t) : SeqActs u s (t.seqRest u) := by
  unfold State.seqRest
  split
  · exact .ite (fun _ => h.enterSetBrake) fun _ => h
  · exact .ite (fun _ => h.jogSetBrake) fun _ => h
  · exact h

theorem seqArrival (h : SeqActs u s t) : SeqActs u s (t.seqArrival u) := by
  unfold State.seqArrival
  split
  · exact .ite (fun _ => h.modActive _) fun _ => h
  · exact .ite (fun _ => h.jogSetBrake) fun _ => h
  · exact h

theorem seqSettleEnd (h : SeqActs u s t) : SeqActs u s (t.seqSettleEnd u) :=
  .ite (fun _ => h.enterSetBrake) fun _ => h.seqRest

theorem seqSettleTimeout (h : SeqActs u s t) : SeqActs u s (t.seqSettleTimeout u) :=
  .ite (fun _ => ((h.tierCause _).modActive _).enterSetBrake) fun _ => h.seqRest

theorem seqStowed (h : SeqActs u s t) (stowed : Bool) : SeqActs u s (t.seqStowed u stowed) := by
  refine .ite (fun _ => h) fun _ => ?_
  split
  · exact .ite (fun _ => h.losePosture _ _) fun _ => h
  · exact .ite (fun _ => h.haltJog _) fun _ => h
  · exact h

/-! ### Orders of the stop manager -/

theorem holdMove (h : SeqActs u s t) : SeqActs u s (t.holdMove u) := by
  unfold State.holdMove
  split
  · exact h
  · split <;>
      first | exact h | exact h.modActive _ | exact h.applyBrakes.modActive _ | exact (h.modActive _).orderStop _

theorem quickMove (h : SeqActs u s t) : SeqActs u s (t.quickMove u) := by
  unfold State.quickMove
  split
  · exact h
  · split <;> first | exact h | exact h.haltMove _ | exact h.applyBrakes.endMove _ _

theorem tripTier (h : SeqActs u s t) : SeqActs u s (t.tripTier u) := by
  unfold State.tripTier
  exact (((h.emitAll _).modSeq _ id id).endMove _ _).when _ fun _ h => h.endJog

theorem resumeMove (h : SeqActs u s t) : SeqActs u s (t.resumeMove u) := by
  unfold State.resumeMove
  split
  · exact h
  · refine .ite (fun _ => h) fun _ => .ite (fun _ => ?_) fun _ => h.enterLift
    split
    · exact h.modActive _
    · exact h.enterLift
    all_goals exact h.enterWithdraw

end SeqActs

end Sys2Proof.Machine

/-! SUPPORT. The operations that keep the mode, the tables and each invariant of O59 and O60: one lemma for each operation,
from the parts of the state that it changes to what follows of a run of operations. -/

namespace Sys2Proof.Machine

open Sys2Proof

/-- From `s` to `t` each invariant is kept, each for itself. -/
structure Keeps (s t : State) : Prop where
  floor : FloorSafe s → FloorSafe t
  power : PowerSafe s → PowerSafe t
  motion : MotionSafe s → MotionSafe t
  drive : DriveSafe s → DriveSafe t
  stop : StopSafe s → StopSafe t
  lists : ListsSafe s → ListsSafe t
  attn : AttnSafe s → AttnSafe t

/-- From `s` to `t` each invariant is kept, and mode, tables and the level of RESET_N are as they were. -/
structure Steady (s t : State) : Prop extends Keeps s t where
  mode : t.auth.mode = s.auth.mode
  tables : t.tables = s.tables
  held : t.held = s.held

/-- From `s` to `t` a block other than a link port has acted steadily: the ports are as they were. -/
structure Inner (s t : State) : Prop extends Steady s t where
  ports : t.ports = s.ports

/-- An axis whose speed reference is in range, and 0 under an applied brake or an open contactor (R101). -/
def AxisSafe (x : AxisCtl) : Prop :=
  -8191 ≤ x.speed ∧ x.speed ≤ 8191 ∧ (x.released = false ∨ x.contactor = false → x.speed = 0)

/-- From `m` to `n` the stop manager keeps what the invariants say of it, the contactor whether RESET_N is low or not. -/
structure ManKept (m n : StopManager) : Prop where
  contactor : (m.contactor = false ↔ m.state = .tripped) → (n.contactor = false ↔ n.state = .tripped)
  record : (m.record = none ↔ m.state = .clear ∨ m.state = .holding ∨ m.state = .held) →
    (n.record = none ↔ n.state = .clear ∨ n.state = .holding ∨ n.state = .held)
  further : m.further ≤ 255 → n.further ≤ 255

theorem Keeps.refl (s : State) : Keeps s s := ⟨id, id, id, id, id, id, id⟩

theorem Keeps.trans {s t v : State} (h : Keeps s t) (g : Keeps t v) : Keeps s v :=
  ⟨g.floor ∘ h.floor, g.power ∘ h.power, g.motion ∘ h.motion, g.drive ∘ h.drive, g.stop ∘ h.stop, g.lists ∘ h.lists,
    g.attn ∘ h.attn⟩

theorem Steady.refl (s : State) : Steady s s := ⟨.refl s, rfl, rfl, rfl⟩

theorem Steady.trans {s t v : State} (h : Steady s t) (g : Steady t v) : Steady s v :=
  ⟨h.toKeeps.trans g.toKeeps, g.mode.trans h.mode, g.tables.trans h.tables, g.held.trans h.held⟩

theorem Inner.refl (s : State) : Inner s s := ⟨.refl s, rfl⟩

theorem Inner.trans {s t v : State} (h : Inner s t) (g : Inner t v) : Inner s v :=
  ⟨h.toSteady.trans g.toSteady, g.ports.trans h.ports⟩

/-- What no invariant reads may change. -/
theorem Inner.of_unread (s : State) (pairs : Eight PairUnit) (mon : LoadMonitor) (plans : Plans) (clock : Clock)
    (mail pending : List Instr) (passRequested armed : Bool) :
    Inner s { s with
      pairs := pairs, mon := mon, plans := plans, clock := clock, mail := mail, pending := pending
      arb := { s.arb with passRequested := passRequested, armed := armed } } :=
  ⟨⟨⟨id, id, id, id, id, id, id⟩, rfl, rfl, rfl⟩, rfl⟩

/-- A sequencer that acts on the move or the jog that it holds keeps every invariant. -/
theorem SeqActs.inner {u : Tier} {s t : State} (h : SeqActs u s t) : Inner s t := by
  obtain ⟨⟨hother, hframe⟩, hslot, hjog, -⟩ := h
  have slot (v : Tier) (e : (s.seq v).slot = none) : (t.seq v).slot = none := by
    obtain rfl | hv := eq_or_ne v u
    · exact hslot e
    · rw [(hother v hv).1, e]
  have jog (v : Tier) (e : (s.seq v).jog = none) : (t.seq v).jog = none := by
    obtain rfl | hv := eq_or_ne v u
    · exact hjog e
    · rw [(hother v hv).1, e]
  have jogs (v : Tier) (e : (t.seq v).jog.isSome = true) : (s.seq v).jog.isSome = true := by
    by_contra hn
    rw [jog v (by simpa using hn)] at e
    cases e
  rw [hframe]
  refine ⟨⟨⟨id, id, fun ⟨hs, hr, hone⟩ => ⟨fun hm => ?_, fun hm v => ?_, fun v w ev ew => ?_⟩, id, id, id, id⟩, rfl, rfl,
    rfl⟩, rfl⟩
  · exact ⟨(hs hm).1, fun v => slot v ((hs hm).2 v)⟩
  · exact jog v (hr hm v)
  · exact hone v w (jogs v ev) (jogs w ew)

namespace Inner

variable {s t : State}

/-! ### The steps that operations are made of -/

theorem ite {p : Prop} [Decidable p] {x y : State} (hx : p → Inner s x) (hy : ¬p → Inner s y) :
    Inner s (if p then x else y) := by
  split
  · exact hx ‹_›
  · exact hy ‹_›

theorem when (h : Inner s t) (b : Bool) {f : State → State} (hf : b = true → ∀ x, Inner s x → Inner s (f x)) :
    Inner s (t.when b f) := .ite (fun hb => hf hb t h) (fun _ => h)

theorem forEach {α : Type} (l : List α) {f : α → State → State} (hf : ∀ a x, Inner s x → Inner s (f a x))
    (h : Inner s t) : Inner s (t.forEach l f) := by
  induction l generalizing t with
  | nil => exact h
  | cons a rest ih => exact ih (hf a t h)

theorem seqActs (h : Inner s t) {u : Tier} {v : State} (g : SeqActs u t v) : Inner s v := h.trans g.inner

theorem emitAll (h : Inner s t) (l : List Instr) : Inner s (t.emitAll l) := h.trans (.of_unread t ..)

theorem emit (h : Inner s t) (c : Instr) : Inner s (t.emit c) := h.trans (.of_unread t ..)

theorem raise (h : Inner s t) (e : Event) : Inner s (t.raise e) := h.emit _

theorem requestPass (h : Inner s t) : Inner s t.requestPass := by
  rw [requestPass_eq]
  exact h.trans (.of_unread t ..)

theorem listChanged (h : Inner s t) : Inner s t.listChanged := by
  rw [listChanged_eq]
  exact h.trans (.of_unread t ..)

theorem seqReport (h : Inner s t) (u : Tier) : Inner s (t.seqReport u) := h.seqActs (SeqActs.refl u t).seqReport

theorem modPair (h : Inner s t) (u : Tier) (f : PairUnit → PairUnit) : Inner s (t.modPair u f) :=
  h.trans (.of_unread t ..)

theorem modLoad (h : Inner s t) (u : Tier) (f : TierLoad → TierLoad) : Inner s (t.modLoad u f) :=
  h.trans (.of_unread t ..)

theorem modMon (h : Inner s t) (f : LoadMonitor → LoadMonitor) : Inner s (t.modMon f) := h.trans (.of_unread t ..)

theorem modPlans (h : Inner s t) (f : Plans → Plans) : Inner s (t.modPlans f) := h.trans (.of_unread t ..)

/-- A sequencer changed in neither its slot nor its jog. -/
theorem modSeq (h : Inner s t) (u : Tier) (f : Seq → Seq) (hslot : (f (t.seq u)).slot = (t.seq u).slot)
    (hjog : (f (t.seq u)).jog = (t.seq u).jog) : Inner s (t.modSeq u f) :=
  h.seqActs ((SeqActs.refl u t).modSeq f (hslot.trans ·) (hjog.trans ·))

theorem modAxis (h : Inner s t) (a : Axis) (f : AxisCtl → AxisCtl) (hf : AxisSafe (t.axis a) → AxisSafe (f (t.axis a))) :
    Inner s (t.modAxis a f) := by
  refine h.trans ⟨⟨⟨id, id, id, fun hd b => ?_, id, id, id⟩, rfl, rfl, rfl⟩, rfl⟩
  have hb : AxisSafe ((t.modAxis a f).axis b) := by
    rw [State.modAxis_axis]
    split
    · exact hf (hd a)
    · exact hd b
  exact hb

theorem modJacks (h : Inner s t) (u : Tier) (f : AxisCtl → AxisCtl) (hf : ∀ x, AxisSafe x → AxisSafe (f x)) :
    Inner s (t.modJacks u f) := (h.modAxis _ f (hf _)).modAxis _ f (hf _)

theorem modMan (h : Inner s t) (f : StopManager → StopManager) (hf : ManKept t.man (f t.man)) : Inner s (t.modMan f) :=
  h.trans ⟨⟨⟨id, id, id, id, fun hs => ⟨fun hh => hf.contactor (hs.1 hh), hf.record hs.2⟩,
    fun hl => ⟨hl.1, hl.2.1, hf.further hl.2.2.1, hl.2.2.2⟩, id⟩, rfl, rfl, rfl⟩, rfl⟩

/-- A change of the stop manager with its reports keeps every invariant when it keeps those of the stop manager. -/
theorem onlyMan (h : Inner s t) {v : State} (g : OnlyMan t v) (hf : ManKept t.man v.man) : Inner s v := by
  rw [g]
  exact (h.modMan (fun _ => v.man) hf).trans (.of_unread _ ..)

theorem modAuth (h : Inner s t) (f : Authority → Authority) (hf : (f t.auth).mode = t.auth.mode) :
    Inner s (t.modAuth f) := by
  refine h.trans ⟨⟨⟨fun ⟨hd, hs⟩ => ⟨hd, fun hm => hs (hf ▸ hm)⟩, fun ⟨hc, hs, ha⟩ => ⟨hc, fun hm => hs (hf ▸ hm), ha⟩,
    fun ⟨hs, hr, hone⟩ => ⟨fun hm => hs (hf ▸ hm), fun hm => hr (hf ▸ hm), hone⟩, id, id, id, id⟩, hf, rfl, rfl⟩, rfl⟩

/-- Admission changed, with nothing pending in SETUP where nothing was. -/
theorem modAdm (h : Inner s t) (f : Admission → Admission)
    (hempty : t.auth.mode = .setup → t.adm.waiting = [] → (f t.adm).waiting = [])
    (hwait : t.adm.waiting.length ≤ 32 → (f t.adm).waiting.length ≤ 32)
    (hout : t.adm.outcomes.length ≤ 16 → (f t.adm).outcomes.length ≤ 16) : Inner s (t.modAdm f) :=
  h.trans ⟨⟨⟨id, id, fun ⟨hs, hr, hone⟩ => ⟨fun hm => ⟨hempty hm (hs hm).1, (hs hm).2⟩, hr, hone⟩, id, id,
    fun hl => ⟨hwait hl.1, hout hl.2.1, hl.2.2⟩, id⟩, rfl, rfl, rfl⟩, rfl⟩

end Inner

/-- A port changed, with its ATTN line and its enable set as they were. -/
theorem Steady.modPort {s t : State} (h : Steady s t) (p : Port) (f : LinkPort → LinkPort) (hattn : (f (t.port p)).attn = (t.port p).attn)
    (hen : (f (t.port p)).enabled = (t.port p).enabled)
    (hin : (t.port p).input.length ≤ 4 → (f (t.port p)).input.length ≤ 4)
    (hnote : (t.port p).notices.length ≤ 8 → (f (t.port p)).notices.length ≤ 8) : Steady s (t.modPort p f) := by
  refine h.trans ⟨⟨id, id, id, id, id, fun hl => ⟨hl.1, hl.2.1, hl.2.2.1, fun r => ?_⟩, fun ha => ⟨ha.1, fun r => ?_⟩⟩,
    rfl, rfl, rfl⟩
  · rw [State.modPort_port]
    split
    · exact ⟨hin (hl.2.2.2 p).1, hnote (hl.2.2.2 p).2⟩
    · exact hl.2.2.2 r
  · have hr := ha.2 r
    rw [State.modPort_port]
    split
    · next e =>
      rw [e] at hr
      rw [hattn, hen]
      exact hr
    · exact hr

end Sys2Proof.Machine

/-! SUPPORT. The stop manager, the axes, the pairs, the load monitor, admission, the plan executor, the ports and the enable
timer keep the mode, the tables and each invariant. -/

namespace Sys2Proof.Machine

open Sys2Proof

/-! ### The stop manager -/

/-- A change of the stop manager in none of the parts that the invariants read, or in the count alone. -/
theorem ManKept.of_same {m n : StopManager} (hc : n.contactor = m.contactor) (hs : n.state = m.state)
    (hr : n.record = m.record) (hf : m.further ≤ 255 → n.further ≤ 255) : ManKept m n :=
  ⟨by rw [hc, hs]; exact id, by rw [hr, hs]; exact id, hf⟩

theorem countCause_man_kept (s : State) (k : Kind) (b : Bool) : ManKept s.man (s.countCause k b).man := by
  refine .of_same rfl rfl rfl fun h => ?_
  show (if _ then _ else _) ≤ 255
  split
  · exact Nat.min_le_left ..
  · exact h

theorem raiseFault_man (s : State) (c : Cause) (b : Bool) : (s.raiseFault c b).man = s.man := by
  unfold State.raiseFault
  split <;> rfl

@[simp] theorem raiseFault_clock (s : State) (c : Cause) (b : Bool) : (s.raiseFault c b).clock = s.clock := by
  unfold State.raiseFault
  split <;> rfl

/-- The stop manager after an entry to a trip: the contactor is open, and the cause is the record unless one stands. -/
theorem enterTrip_man (s : State) (c : Cause) :
    (s.enterTrip c).man = { s.man with
      state := .tripped
      contactor := false
      repower := none
      record := if capturesFrom s.man.state then some (recordOf c s.clock) else s.man.record
      emptying := capturesFrom s.man.state || s.man.emptying } := rfl

theorem takesEffect_trip_iff (st : StopState) : takesEffect st .trip = true ↔ st ≠ .tripped := by
  simp [takesEffect]

theorem takeCause_trip (s : State) {c : Cause} (hcat : categoryOf c.kind = some .trip)
    (he : takesEffect s.man.state .trip = true) :
    s.takeCause c =
      ((s.countCause c.kind (capturesFrom s.man.state)).raiseFault c true).enterTrip c := by
  have hcaptures : (Category.trip != .hold) = true := rfl
  simp [State.takeCause, hcat, he, hcaptures]

theorem takeCause_of_no_category (s : State) {c : Cause} (hcat : categoryOf c.kind = none) :
    s.takeCause c = (s.countCause c.kind false).raiseFault c false := by
  simp [State.takeCause, hcat]

theorem ManKept.trans {m n o : StopManager} (h : ManKept m n) (g : ManKept n o) : ManKept m o :=
  ⟨g.contactor ∘ h.contactor, g.record ∘ h.record, g.further ∘ h.further⟩

/-- A cause taken keeps the contactor and the record in agreement with the stop state, by the cause's category. -/
theorem takeCause_man_kept (s : State) (c : Cause) : ManKept s.man (s.takeCause c).man := by
  have counted (b took : Bool) : ManKept s.man ((s.countCause c.kind b).raiseFault c took).man := by
    rw [raiseFault_man]
    exact countCause_man_kept ..
  rcases hcat : categoryOf c.kind with _ | cat
  · rw [takeCause_of_no_category s hcat]
    exact counted ..
  cases he : takesEffect s.man.state cat
  · rw [takeCause_of_no_effect s hcat he]
    exact counted ..
  cases cat
  case hold =>
    have hst := (takesEffect_hold_iff _).mp he
    have hstate : ((s.countCause c.kind false).raiseFault c true).man.state = .clear := by rw [raiseFault_man]; exact hst
    rw [takeCause_hold s hcat he]
    refine (counted false true).trans ?_
    rw [enterHold_man]
    refine ⟨fun h => ?_, fun h => ?_, id⟩
    · rw [hstate] at h
      split <;> simpa using h
    · rw [hstate] at h
      split <;> simpa using h
  case quick =>
    have hst := (takesEffect_quick_iff _).mp he
    rw [takeCause_quick s hcat he]
    refine (counted true true).trans ?_
    have hstate : ((s.countCause c.kind true).raiseFault c true).man.state = s.man.state := by rw [raiseFault_man]; rfl
    rw [enterQuick_man]
    refine ⟨fun h => ?_, fun h => ?_, id⟩
    · rw [hstate] at h
      rcases hst with e | e | e <;> rw [e] at h <;> split <;> simpa using h
    · split <;> simp
  case trip =>
    rw [takeCause_trip s hcat he]
    refine (counted (capturesFrom s.man.state) true).trans ?_
    rw [enterTrip_man]
    refine ⟨fun _ => by simp, fun h => ?_, id⟩
    have hrec : (if capturesFrom ((s.countCause c.kind (capturesFrom s.man.state)).raiseFault c true).man.state then
        some (recordOf c ((s.countCause c.kind (capturesFrom s.man.state)).raiseFault c true).clock)
        else ((s.countCause c.kind (capturesFrom s.man.state)).raiseFault c true).man.record) ≠ none := by
      split
      · simp
      · next hcap =>
        intro hn
        rcases h.mp hn with e | e | e <;> rw [e] at hcap <;> exact hcap rfl
    simpa using hrec

theorem settleStop_man_kept (s : State) : ManKept s.man s.settleStop.man := by
  cases hst : s.man.state
  case holding =>
    rw [settleStop_man_of_holding hst]
    refine ⟨fun h => ?_, fun h => ?_, id⟩ <;> rw [hst] at h <;> split <;> simpa using h
  case stopping =>
    rw [settleStop_man_of_stopping hst]
    refine ⟨fun h => ?_, fun h => ?_, id⟩ <;> rw [hst] at h <;> split <;> simpa using h
  all_goals
    have e : s.settleStop = s := by simp [State.settleStop, hst]
    rw [e]
    exact .of_same rfl rfl rfl id

namespace Inner

variable {s t : State}

theorem takeCause (h : Inner s t) (c : Cause) : Inner s (t.takeCause c) :=
  h.onlyMan (takeCause_frame t c) (takeCause_man_kept t c)

theorem settleStop (h : Inner s t) : Inner s t.settleStop :=
  h.onlyMan (onlyMan_settleStop t) (settleStop_man_kept t)

theorem setExempt (h : Inner s t) (a : Axis) (b : Bool) : Inner s (t.setExempt a b) :=
  h.modMan _ (.of_same rfl rfl rfl id)

theorem recordTierCause (h : Inner s t) (u : Tier) (k : TierCause) : Inner s (t.recordTierCause u k) :=
  (h.modMan _ (countCause_man_kept t _ false)).raise _

/-- The end of REPOWERING: the contactor is closed, and neither the state nor the record shows a fault any more. -/
theorem testDrives (h : Inner s t) : Inner s t.testDrives := by
  refine .ite (fun hc => ?_) fun _ => h
  refine (requestPass (t := ((t.modMan fun m => { m with repower := none }).clearRecord).setStop .clear none) ?_)
  refine h.onlyMan (by rfl) ⟨fun hk => ?_, fun _ => by simp [State.setStop, State.clearRecord], fun _ => Nat.zero_le _⟩
  rw [hc.1] at hk
  simpa [State.setStop, State.clearRecord] using hk

theorem resumeHall (h : Inner s t) (hheld : t.man.state = .held) : Inner s t.resumeHall := by
  refine emit (emitAll (requestPass (t := t.setStop .clear none) ?_) _) _
  refine h.onlyMan (by rfl) ⟨fun hk => ?_, fun hk => ?_, id⟩
  · rw [hheld] at hk
    simpa [State.setStop] using hk
  · rw [hheld] at hk
    simpa [State.setStop] using hk

/-- Repowering begins from TRIPPED, whose record stands on. -/
theorem repowerHall (h : Inner s t) (htrip : t.man.state = .tripped) : Inner s t.repowerHall := by
  refine testDrives (h.onlyMan (by rfl) ⟨fun hk => ?_, fun hk => ?_, id⟩)
  · simp [State.setStop, State.setContactor]
  · rw [htrip] at hk
    simpa [State.setStop, State.setContactor] using hk

theorem clearStop (h : Inner s t) (hst : t.man.state = .stopped) : Inner s t.clearRecord.toClear := by
  refine requestPass (t := t.clearRecord.setStop .clear none) ?_
  refine h.onlyMan (by rfl) ⟨fun hk => ?_, fun hk => ?_, fun _ => Nat.zero_le _⟩
  · rw [hst] at hk
    simpa [State.setStop, State.clearRecord] using hk
  · simp [State.setStop, State.clearRecord]

theorem resetHall (h : Inner s t) : Inner s t.resetHall.1 := by
  unfold State.resetHall
  split
  iterate 3 exact h.modMan (fun m => { m with seen := 0, further := 0 }) (.of_same rfl rfl rfl fun _ => Nat.zero_le _)
  iterate 2 exact h
  · split
    · exact h
    · exact h.clearStop ‹_›
  · split
    · exact h
    · split
      · exact h
      · exact h.repowerHall ‹_›

theorem repowerFailed (h : Inner s t) (hst : t.man.state = .repowering) : Inner s t.repowerFailed := by
  refine raise (h.onlyMan (by rfl) ⟨fun hk => ?_, fun _ => ?_, fun _ => Nat.zero_le _⟩) _
  · rw [hst] at hk
    simpa [State.setStop] using hk
  · simp [State.setStop]

/-! ### The axes -/

end Inner

theorem axisSafe_of_same {x y : AxisCtl} (hs : y.speed = x.speed) (hr : y.released = x.released)
    (hc : y.contactor = x.contactor) (h : AxisSafe x) : AxisSafe y := by
  unfold AxisSafe at *
  rwa [hs, hr, hc]

/-- A speed reference of 0 is safe whatever the brake and the contactor. -/
theorem axisSafe_of_zero {x : AxisCtl} (h : x.speed = 0) : AxisSafe x := by
  rw [AxisSafe, h]
  exact ⟨by decide, by decide, fun _ => rfl⟩

theorem axisSafe_releaseBrake {x : AxisCtl} (d : Int) (v : Served) (p : Option ReleasePoint) (h : AxisSafe x) :
    AxisSafe (x.releaseBrake d v p) := by
  refine ⟨h.1, h.2.1, fun e => ?_⟩
  obtain e | e := e
  · cases e
  · exact h.2.2 (.inr e)

theorem clampSpeed_range (x : Int) : -8191 ≤ clampSpeed x ∧ clampSpeed x ≤ 8191 := by
  unfold clampSpeed clampInt Config.speedMax
  omega

/-- The speed reference of an update is clamped, and 0 unless brake and contactor allow one (R101). -/
theorem axisSafe_driveAxis (s : State) (a : Axis) (x : AxisCtl) : AxisSafe (s.driveAxis a x) := by
  unfold State.driveAxis
  split
  · next h =>
    simp only [Bool.and_eq_true] at h
    obtain ⟨⟨⟨hr, hc⟩, -⟩, -⟩ := h
    refine ⟨(clampSpeed_range _).1, (clampSpeed_range _).2, fun e => ?_⟩
    rcases e with e | e
    · exact absurd (hr.symm.trans e) (by decide)
    · exact absurd (hc.symm.trans e) (by decide)
  · exact axisSafe_of_zero rfl

/-! #### One update of an axis, part by part -/

/-- Whether a read is a good one. -/
def isGoodRead : EncoderRead → Bool
  | .good _ => true
  | .miss => false

/-- An axis after the read and the advance of an update, with what the advance reports. -/
def State.advanced (s : State) (a : Axis) (e : EncoderRead) : AxisCtl × PhaseReport :=
  s.advance a ((s.axis a).readEncoder (s.axisRec a).zero e)

/-- An axis after the checks of an update, with the kinds that they report. -/
def State.checked (s : State) (a : Axis) (e : EncoderRead) : AxisCtl × List Kind :=
  s.checkAxis a (s.axis a) (isGoodRead e) (s.driveAxis a (s.advanced a e).1)

/-- An axis after an update, its release point still held. -/
def State.beforeRelease (s : State) (a : Axis) (e : EncoderRead) : AxisCtl :=
  { (s.checked a e).1 with
    previous := if isGoodRead e then some (s.checked a e).1.position else (s.checked a e).1.previous }

/-- An axis after an update. -/
def State.updated (s : State) (a : Axis) (e : EncoderRead) : AxisCtl :=
  if (s.beforeRelease a e).releasePassed then { s.beforeRelease a e with release := none } else s.beforeRelease a e

/-- The report of an axis to its pair unit after an update: a rotation axis makes none (R114). -/
def State.positionReport (s : State) (a : Axis) (x : AxisCtl) : State :=
  match a.role with
  | .R => s
  | .A => s.emit (.jackPositionReport a.tier .A x.position x.valid)
  | .B => s.emit (.jackPositionReport a.tier .B x.position x.valid)

/-- An update: the axis, and behind it the reports of the update in their order. -/
theorem updateAxis_eq (s : State) (a : Axis) (e : EncoderRead) :
    s.updateAxis a e =
      (let x := s.updated a e
      let s1 := (s.modAxis a fun _ => x).when (s.axisPresent a && decide ((s.axis a).valid ≠ x.valid)) State.requestPass
      let s2 := s1.when (s.axisPresent a && (s.axis a).valid && !x.valid && x.contactor) fun s =>
        s.emit (.causeReport (s.axisCause a .encoder))
      let s3 := ((s2.positionReport a x).phaseReport a (s.advanced a e).2).when (s.beforeRelease a e).releasePassed
        fun s => s.emit (.bandReleaseReport a.tier x.served x.position)
      s3.emitAll ((s.checked a e).2.map fun k =>
        .causeReport ⟨k, some a.tier, some a, x.served, some x.demand, some x.position, none⟩)) := by
  cases e <;> rfl

theorem checkAxis_output (s : State) (a : Axis) (before : AxisCtl) (good : Bool) (x : AxisCtl) :
    (s.checkAxis a before good x).1 = { x with
      markFollowing := (s.checkAxis a before good x).1.markFollowing
      markOverspeed := (s.checkAxis a before good x).1.markOverspeed
      markSoftLimit := (s.checkAxis a before good x).1.markSoftLimit } := by
  unfold State.checkAxis
  split <;> rfl

theorem axisSafe_updated (s : State) (a : Axis) (e : EncoderRead) : AxisSafe (s.updated a e) := by
  have hchecked : AxisSafe (s.checked a e).1 := by
    unfold State.checked
    rw [checkAxis_output]
    exact axisSafe_of_same rfl rfl rfl (axisSafe_driveAxis ..)
  unfold State.updated
  split <;> exact axisSafe_of_same rfl rfl rfl hchecked

namespace Inner

variable {s t : State}

theorem checkRelease (h : Inner s t) (a : Axis) : Inner s (t.checkRelease a) := by
  refine .ite (fun _ => ?_) fun _ => h
  have h1 : Inner s (if (t.axis a).limit && !t.isExempt a then t.takeCause (t.axisCause a .limitHit) else t) :=
    .ite (fun _ => h.takeCause _) fun _ => h
  exact .ite (fun _ => h1.takeCause _) fun _ => h1

theorem releaseAxis (h : Inner s t) (a : Axis) (served : Served) : Inner s (t.releaseAxis a served) := by
  refine .ite (fun _ => ?_) fun _ => h
  have h1 := (h.modAxis a (fun x => x.releaseBrake (t.clampToTravel a (t.axis a).position) served
    (t.pointAtRelease a served)) (axisSafe_releaseBrake _ _ _)).checkRelease a
  exact .ite (fun _ => h1.emit _) fun _ => h1

theorem applyAxis (h : Inner s t) (a : Axis) : Inner s (t.applyAxis a) := by
  refine .ite (fun _ => h) fun _ => .ite (fun _ => ?_) fun _ => h.modAxis a _ fun _ => axisSafe_of_zero rfl
  have h1 := h.modAxis a (fun x => { x.brake with phase := .idle, served := .none }) fun _ => axisSafe_of_zero rfl
  exact .ite (fun _ => h1.emit _) fun _ => h1

theorem tripAxis (h : Inner s t) (a : Axis) : Inner s (t.tripAxis a) :=
  .ite (fun _ => h) fun _ => h.modAxis a _ fun _ => axisSafe_of_zero rfl

theorem seqArrival (h : Inner s t) (u : Tier) : Inner s ((t.seqArrival u).seqReport u) :=
  h.seqActs (SeqActs.refl u t).seqArrival.seqReport

theorem seqRest (h : Inner s t) (u : Tier) : Inner s ((t.seqRest u).seqReport u) :=
  h.seqActs (SeqActs.refl u t).seqRest.seqReport

theorem phaseReport (h : Inner s t) (a : Axis) (r : PhaseReport) : Inner s (t.phaseReport a r) := by
  cases r
  case none => exact h
  case arrival => exact h.seqArrival _
  case rest => exact h.seqRest _
  all_goals exact h.emit _

theorem positionReport (h : Inner s t) (a : Axis) (x : AxisCtl) : Inner s (t.positionReport a x) := by
  unfold State.positionReport
  split
  · exact h
  · exact h.emit _
  · exact h.emit _

theorem updateAxis (h : Inner s t) (a : Axis) (e : EncoderRead) : Inner s (t.updateAxis a e) := by
  rw [updateAxis_eq]
  have h1 := h.modAxis a (fun _ => t.updated a e) fun _ => axisSafe_updated t a e
  have h3 := (h1.when (t.axisPresent a && decide ((t.axis a).valid ≠ (t.updated a e).valid)) fun _ _ h =>
    h.requestPass).when (t.axisPresent a && (t.axis a).valid && !(t.updated a e).valid && (t.updated a e).contactor)
    (f := fun s => s.emit (.causeReport (s.axisCause a .encoder))) fun _ _ h => h.emit _
  exact (((h3.positionReport a _).phaseReport a _).when _ fun _ _ h => h.emit _).emitAll _

theorem travelAxis (h : Inner s t) (u : Tier) (target : Int) (cls : SpeedClass) :
    Inner s (t.travelAxis u target cls) := by
  refine .ite (fun _ => ?_) fun _ => h.modAxis _ _ (axisSafe_of_same rfl rfl rfl)
  exact (h.modAxis _ _ (axisSafe_of_same rfl rfl rfl)).seqArrival u

theorem stopAxis (h : Inner s t) (u : Tier) (rate : StopRate) : Inner s (t.stopAxis u rate) := by
  unfold State.stopAxis
  dsimp only
  split
  · exact h.modAxis _ _ (axisSafe_of_same rfl rfl rfl)
  · exact (h.modAxis _ _ (axisSafe_of_same rfl rfl rfl)).seqRest u
  · exact h.modAxis _ _ (axisSafe_of_same rfl rfl rfl)
  all_goals exact h

theorem contactorAt (h : Inner s t) (a : Axis) (closed : Bool) : Inner s (t.contactorAt a closed) := by
  refine .ite (fun _ => ?_) fun _ => h.modAxis _ _ fun _ => axisSafe_of_zero rfl
  have h1 : Inner s (t.modAxis a fun x => { x with contactor := true }) := by
    refine h.modAxis _ _ fun hx => ⟨hx.1, hx.2.1, fun e => hx.2.2 ?_⟩
    obtain e | e := e
    · exact .inl e
    · cases e
  exact .ite (fun _ => h1.emit _) fun _ => h1

theorem reportJack (h : Inner s t) (a : Axis) : Inner s (t.reportJack a) := by
  unfold State.reportJack
  dsimp only
  split
  · exact h
  · exact h.emit _
  · exact h.emit _

theorem rezero (h : Inner s t) (a : Axis) (offset : Nat) : Inner s (t.modAxis a fun x => x.rezero offset) := by
  refine h.modAxis _ _ fun hx => ?_
  unfold AxisCtl.rezero
  split
  · exact hx
  · exact axisSafe_of_same rfl rfl rfl hx

theorem limitChanged (h : Inner s t) (a : Axis) (active : Bool) : Inner s (t.limitChanged a active) := by
  unfold State.limitChanged
  refine .ite (fun _ => h) fun _ => ?_
  dsimp only
  have h1 : Inner s (t.modAxis a fun x => { x with limit := active }) := h.modAxis _ _ (axisSafe_of_same rfl rfl rfl)
  have h2 : Inner s (if active = true then t.modAxis a fun x => { x with limit := active }
      else (t.modAxis a fun x => { x with limit := active }).setExempt a false) :=
    .ite (fun _ => h1) fun _ => h1.setExempt _ _
  exact .ite (fun _ => .ite (fun _ => h2.requestPass.takeCause _) fun _ => h2.requestPass) fun _ => h2

theorem readyChanged (h : Inner s t) (a : Axis) (ready : Bool) : Inner s (t.readyChanged a ready) := by
  refine .ite (fun _ => h) fun _ => ?_
  have h1 : Inner s (t.modAxis a fun x => { x with ready := ready }) := h.modAxis _ _ (axisSafe_of_same rfl rfl rfl)
  exact .ite (fun _ => testDrives (.ite (fun _ => h1.requestPass.takeCause _) fun _ => h1.requestPass)) fun _ => h1

/-! ### The pairs -/

theorem releasePair (h : Inner s t) (u : Tier) (served : Served) : Inner s (t.releasePair u served) := by
  refine .ite (fun _ => ?_) fun _ => h
  have h1 := ((h.releaseAxis ⟨u, .A⟩ served).releaseAxis ⟨u, .B⟩ served).modPair u fun p =>
    { p with phase := .lifting, phaseCount := 0, served := served }
  exact .ite (fun _ => h1.emit _) fun _ => h1

theorem applyPair (h : Inner s t) (u : Tier) : Inner s (t.applyPair u) := by
  have h1 := (h.applyAxis ⟨u, .A⟩).applyAxis ⟨u, .B⟩
  exact .ite (fun _ => h) fun _ => .ite (fun _ => (h1.modPair _ _).emit _) fun _ => h1.modPair _ _

theorem tripPair (h : Inner s t) (u : Tier) : Inner s (t.tripPair u) :=
  .ite (fun _ => h) fun _ => ((h.tripAxis _).tripAxis _).modPair _ _

theorem pairArrive (h : Inner s t) (u : Tier) : Inner s (t.pairArrive u) := by
  unfold State.pairArrive
  refine seqArrival (modJacks (modPair h _ _) _ _ ?_) u
  exact fun _ => axisSafe_of_same rfl rfl rfl

theorem pairRest (h : Inner s t) (u : Tier) : Inner s (t.pairRest u) := by
  unfold State.pairRest
  refine seqRest (modJacks (modPair h _ _) _ _ ?_) u
  exact fun _ => axisSafe_of_same rfl rfl rfl

theorem travelPair (h : Inner s t) (u : Tier) (target : Int) (cls : SpeedClass) :
    Inner s (t.travelPair u target cls) := by
  refine .ite (fun _ => ?_) fun _ => h
  unfold State.startTravel
  refine .ite (fun _ => pairArrive ?_ u) fun _ => ?_
  all_goals
    refine modJacks (modPair h _ _) _ _ ?_
    exact fun _ => axisSafe_of_same rfl rfl rfl

theorem stopPair (h : Inner s t) (u : Tier) (rate : StopRate) : Inner s (t.stopPair u rate) := by
  unfold State.stopPair
  dsimp only
  split
  · exact (h.modPair _ _).modJacks _ _ fun _ => axisSafe_of_same rfl rfl rfl
  · exact h.pairRest u
  · exact h.modPair _ _
  all_goals exact h

theorem updatePair (h : Inner s t) (u : Tier) : Inner s (t.updatePair u) := by
  unfold State.updatePair
  dsimp only
  split
  · exact .ite (fun _ => .ite (fun _ => (h.modPair _ _).pairArrive u) fun _ => h.modPair _ _) fun _ => h
  · exact .ite (fun _ => .ite (fun _ => (h.modPair _ _).pairRest u) fun _ => h.modPair _ _) fun _ => h
  · exact .ite (fun _ => (h.modPair _ _).emit _) fun _ => h.modPair _ _
  · exact .ite (fun _ => (h.modPair _ _).emit _) fun _ => h.modPair _ _
  all_goals exact h

theorem jackSettled (h : Inner s t) (u : Tier) (j : Jack) : Inner s (t.jackSettled u j) := by
  refine .ite (fun _ => h) fun _ => .ite (fun _ => ?_) fun _ => h.modPair _ _
  exact ((h.modPair _ _).modPair _ _).seqActs (SeqActs.refl u _).seqSettleEnd.seqReport

theorem jackTimedOut (h : Inner s t) (u : Tier) (j : Jack) : Inner s (t.jackTimedOut u j) :=
  .ite (fun _ => h) fun _ => (h.modPair _ _).seqActs (SeqActs.refl u _).seqSettleTimeout.seqReport

theorem reportStowed (h : Inner s t) (u : Tier) : Inner s (t.reportStowed u) :=
  .ite (fun _ => ((h.modPair _ _).emit _).seqActs ((SeqActs.refl u _).seqStowed _).seqReport) fun _ => h

theorem decideStowed (h : Inner s t) (u : Tier) : Inner s (t.decideStowed u) := (h.modPair _ _).reportStowed u

theorem checkSkew (h : Inner s t) (u : Tier) (g : TiltRec) (k : Int) : Inner s (t.checkSkew u g k) := by
  unfold State.checkSkew
  exact .ite (fun _ => h) fun _ => ((h.modPair _ _).when _ fun _ _ h => h.emit _).when _ fun _ _ h => h.emit _

theorem jackReported (h : Inner s t) (u : Tier) (j : Jack) (r : Reported) : Inner s (t.jackReported u j r) := by
  unfold State.jackReported
  dsimp only
  split
  · exact h.modPair _ _
  · refine decideStowed ?_ u
    split
    · exact (h.modPair _ _).modPair _ _
    · exact ((((h.modPair _ _).modPair _ _).modPair _ _).when _ fun _ _ h => h.raise _).checkSkew _ _ _

/-! ### The load monitor -/

theorem checkOverload (h : Inner s t) (u : Tier) : Inner s (t.checkOverload u) := by
  unfold State.checkOverload
  dsimp only
  split
  · exact h
  · exact (h.modLoad _ _).when _ fun _ _ h => h.emit _

theorem recomputeLoad (h : Inner s t) (u : Tier) : Inner s (t.recomputeLoad u) := by
  unfold State.recomputeLoad
  exact ((h.modLoad _ _).when _ fun _ _ h => h.requestPass.raise _).checkOverload u

theorem updateCell (h : Inner s t) (u : Tier) (i : Nat) (f : LoadCell → LoadCell) : Inner s (t.updateCell u i f) :=
  (h.modLoad _ _).recomputeLoad u

theorem restartCells (h : Inner s t) (u : Tier) (n : Nat) : Inner s (t.restartCells u n) :=
  ((h.modLoad _ _).modMon _).recomputeLoad u

theorem beginSlot (h : Inner s t) : Inner s t.beginSlot := by
  unfold State.beginSlot
  split
  · exact h.modMon _
  · exact (h.modMon _).updateCell _ _ _
  · exact h
  · exact h.modMon _

/-! ### Admission and the plan executor -/

theorem recordEnd (h : Inner s t) (e : MoveEnd) : Inner s (t.recordEnd e) :=
  (h.modAdm _ (fun _ => id) id fun _ => pushOutcome_length ..).raise _

theorem endPending (h : Inner s t) (m : MoveRec) (o : MoveOutcome) (r : Reason) : Inner s (t.endPending m o r) := by
  have h1 := (h.modAdm (fun x => { x with waiting := x.waiting.filter fun y => y.number != m.number })
    (fun _ e => by rw [e]; rfl) (fun e => (List.length_filter_le ..).trans e) id).recordEnd (m.ended o r)
  unfold State.endPending
  dsimp only
  split
  · exact (h1.emit _).listChanged
  · exact ((h1.emit _).emit _).listChanged

theorem admitMove (h : Inner s t) (hrun : t.auth.mode = .run) (u : Tier) (g : Goal) (c : SpeedClass) (tag : Nat)
    (o : Origin) : Inner s (t.admitMove u g c tag o).1 := by
  unfold State.admitMove
  split
  · exact h
  · split
    · exact h
    · next hf =>
      refine (h.modAdm _ (fun hm _ => ?_) (fun _ => ?_) id).listChanged
      · rw [hrun] at hm
        cases hm
      · have hlen : ¬Config.pendingCapacity ≤ t.adm.waiting.length := by
          intro hle
          unfold State.admissionFails at hf
          split_ifs at hf
        unfold Config.pendingCapacity at hlen
        simp only [List.length_append, List.length_singleton]
        omega

theorem submitStep (h : Inner s t) (p : PlanNo) (k : Nat) (x : PlanStep) : Inner s (t.submitStep p k x).1 := by
  unfold State.submitStep
  split
  · exact h
  · next hm =>
    refine h.admitMove ?_ _ _ _ _ _
    simpa [State.inRun] using hm

theorem raisePlan (h : Inner s t) (d : PlanDetail) : Inner s (t.raisePlan d) := by
  unfold State.raisePlan
  split
  · exact h.raise _
  · exact h

theorem cancelPlanMoves (h : Inner s t) : Inner s t.cancelPlanMoves :=
  forEach _ (fun _ _ h => h.endPending _ _ _) h

theorem failPlan (h : Inner s t) (k : Nat) (r : PlanReason) : Inner s (t.failPlan k r) :=
  (h.modPlans _).cancelPlanMoves.raisePlan _

theorem abortPlan (h : Inner s t) : Inner s t.abortPlan := (h.modPlans _).cancelPlanMoves.raisePlan _

theorem stopPlan (h : Inner s t) (r : Reason) : Inner s (t.stopPlan r) :=
  .ite (fun _ => (h.modPlans _).raisePlan _) fun _ => h

theorem runSteps (fuel : Nat) (retry : Bool) (h : Inner s t) : Inner s (State.runSteps fuel retry t) := by
  induction fuel generalizing t with
  | zero => exact h
  | succ fuel ih =>
    unfold State.runSteps
    split
    · next p k _ _ _ =>
      split
      · exact h
      · next x _ =>
        dsimp only
        split
        · exact h
        · have h1 := h.submitStep p k x
          generalize t.submitStep p k x = r at h1
          obtain ⟨s1, sub⟩ := r
          split
          · next e =>
            cases e
            exact ih (((h1.modPlans _).modPlans _).when _ fun _ _ h => h.raisePlan _)
          · next e =>
            cases e
            exact h1.modPlans _
          · next e =>
            cases e
            exact (h1.modPlans _).failPlan _ _
    · exact h

theorem testSteps (h : Inner s t) : Inner s t.testSteps := runSteps _ _ h

theorem retrySteps (h : Inner s t) : Inner s t.retrySteps := runSteps _ _ h

theorem takeStepEnd (h : Inner s t) (n : Nat) (o : MoveOutcome) (r : Reason) : Inner s (t.takeStepEnd n o r) := by
  unfold State.takeStepEnd
  split
  · exact h
  · have h1 := fun k f => (h.modPlans (fun p => { p with steps := p.steps.modify (k - 1) f }))
    refine .ite (fun _ => h1 _ _) fun _ => .ite (fun _ => .ite (fun _ => ?_) fun _ => (h1 _ _).testSteps) fun _ =>
      .ite (fun _ => (h1 _ _).stopPlan _) fun _ => (h1 _ _).failPlan _ _
    exact ((h1 _ _).modPlans _).raisePlan _

/-! ### The ports and the latch -/

theorem kick (h : Inner s t) (p : Port) : Inner s (t.kick p) := .ite (fun _ => h.emit _) fun _ => h

end Inner

namespace Steady

variable {s t : State}

theorem kick (h : Steady s t) (p : Port) : Steady s (t.kick p) := h.trans (Inner.kick (.refl t) p).toSteady

theorem pump (h : Steady s t) (p : Port) : Steady s (t.modPort p LinkPort.pump) := by
  refine h.modPort p _ ?_ ?_ (fun e => ?_) (fun e => ?_) <;> unfold LinkPort.pump <;> split <;> try rfl
  all_goals first | exact e | exact (Nat.le_of_succ_le (by simp_all))

theorem serve (h : Steady s t) (p : Port) : Steady s (t.serve p) := (h.pump p).kick p

theorem putReply (h : Steady s t) (q : Src) (kind : Byte) (st : Status) (body : List Byte) :
    Steady s (t.putReply q kind st body) := (h.modPort q.port _ rfl rfl id id).serve _

end Steady

theorem accept_kept (x : LinkPort) (f : Frame) :
    x.accept f = { x with input := (x.accept f).input } ∧ (x.input.length ≤ 4 → (x.accept f).input.length ≤ 4) := by
  unfold LinkPort.accept Config.inputCapacity
  split
  · exact ⟨rfl, fun _ => by simp only [List.length_append, List.length_singleton]; omega⟩
  · exact ⟨rfl, id⟩

theorem acceptAll_kept (l : List Frame) (x : LinkPort) :
    l.foldl LinkPort.accept x = { x with input := (l.foldl LinkPort.accept x).input } ∧
      (x.input.length ≤ 4 → (l.foldl LinkPort.accept x).input.length ≤ 4) := by
  induction l generalizing x with
  | nil => exact ⟨rfl, id⟩
  | cons f rest ih =>
    obtain ⟨he, hl⟩ := accept_kept x f
    obtain ⟨ie, il⟩ := ih (x.accept f)
    rw [List.foldl_cons]
    exact ⟨by rw [ie, he], il ∘ hl⟩

/-- A receiver's bytes change the receiver and the input queue alone, which holds at most 4 frames still (R183). -/
theorem receive_kept (x : LinkPort) (l : List Byte) (gap : Nat) :
    x.receive l gap = { x with rx := (x.receive l gap).rx, input := (x.receive l gap).input } ∧
      (x.input.length ≤ 4 → (x.receive l gap).input.length ≤ 4) := by
  obtain ⟨he, hl⟩ := acceptAll_kept (scan l.length l).2.2
    { x with rx := ⟨(scan l.length l).1, (scan l.length l).2.1, if (scan l.length l).1 = .hunt then none else some gap⟩ }
  refine ⟨?_, hl⟩
  unfold LinkPort.receive
  dsimp only
  rw [he]

namespace Steady

variable {s t : State}

theorem receive (h : Steady s t) (p : Port) (l : LinkPort → List Byte) (gap : LinkPort → Nat) :
    Steady s (t.modPort p fun x => x.receive (l x) (gap x)) := by
  obtain ⟨he, hl⟩ := receive_kept (t.port p) (l (t.port p)) (gap (t.port p))
  refine h.modPort p _ ?_ ?_ hl fun e => ?_
  · exact (congrArg LinkPort.attn he :)
  · exact (congrArg LinkPort.enabled he :)
  · exact (congrArg LinkPort.notices he).symm ▸ e

theorem gapExpired (h : Steady s t) (p : Port) : Steady s (t.gapExpired p) := by
  unfold State.gapExpired
  have h1 := (h.receive p (fun x => x.rx.buffer) (fun x => x.rx.gap.getD 0)).kick p
  exact h1.trans (Inner.ite (fun _ => Inner.emit (.refl _) _) fun _ => .refl _).toSteady

end Steady

namespace Inner

variable {s t : State}

/-! ### The enable timer -/

theorem watch (h : Inner s t) : Inner s t.watch := h.modAuth _ rfl

theorem setHolder (h : Inner s t) (p : Option Port) : Inner s (t.setHolder p) := (h.modAuth _ rfl).raise _

theorem enableTimer (h : Inner s t) : Inner s t.enableTimer := by
  unfold State.enableTimer
  split
  · exact h
  · exact h.watch
  · exact .ite (fun _ => h.watch) fun _ => h.modAuth _ rfl

theorem takeMotion (h : Inner s t) (u : Tier) (moving : Bool) : Inner s (t.takeMotion u moving) := by
  have h1 := h.modAuth (fun x => { x with moving := x.moving.set u moving }) rfl
  exact .ite (fun _ => .ite (fun _ => h1.watch) fun _ => h1) fun _ => h1.modAuth _ rfl

theorem lapse (h : Inner s t) : Inner s t.lapse := by
  unfold State.lapse
  refine raise (modAuth ?_ _ rfl) _
  split
  · exact h.emit _
  · split
    · next u _ => exact h.seqActs ((SeqActs.refl u t).haltJog _).seqReport
    · exact h

theorem escalate (h : Inner s t) : Inner s t.escalate := ((h.emit _).modAuth _ rfl).raise _

end Inner

end Sys2Proof.Machine

/-! SUPPORT. The grant arbiter and its passes keep the floor and the power safe: what leaves a set, what joins one, and that
a grant takes only what its checks found free. -/

namespace Sys2Proof.Machine

open Sys2Proof

/-! ### Sets of cells -/

/-- No cell is owned by two of eight tiers (R40). -/
def OwnedApart (hs : Eight Holding) : Prop := ∀ t u, t ≠ u → (hs.get t).owns &&& (hs.get u).owns = 0

theorem and_eq_zero_iff (x y : CellSet) : x &&& y = 0 ↔ ∀ c, x.getLsbD c = true → y.getLsbD c = false := by
  constructor
  · intro h c hx
    have hc := congrArg (fun z => BitVec.getLsbD z c) h
    simpa [hx] using hc
  · intro h
    refine BitVec.eq_of_getLsbD_eq fun c _ => ?_
    cases hx : x.getLsbD c
    · simp [hx]
    · simp [hx, h c hx]

theorem ownedApart_iff (hs : Eight Holding) :
    OwnedApart hs ↔ ∀ t u c, t ≠ u → (hs.get t).owns.getLsbD c = true → (hs.get u).owns.getLsbD c = false :=
  ⟨fun h t u c hne => (and_eq_zero_iff ..).mp (h t u hne) c, fun h t u hne => (and_eq_zero_iff ..).mpr fun c => h t u c hne⟩

theorem empty_getLsbD (c : Nat) : (0 : CellSet).getLsbD c = false := by simp

theorem owns_getLsbD (h : Holding) (c : Nat) : h.owns.getLsbD c = (h.standing.getLsbD c || h.reserved.getLsbD c) :=
  BitVec.getLsbD_or

/-- Fewer cells owned are owned apart. -/
theorem OwnedApart.mono {hs gs : Eight Holding} (h : OwnedApart hs)
    (hle : ∀ v c, (gs.get v).owns.getLsbD c = true → (hs.get v).owns.getLsbD c = true) : OwnedApart gs := by
  rw [ownedApart_iff] at *
  intro t u c hne ht
  by_contra hu
  exact absurd (hle u c (by simpa using hu)) (by simp [h t u c hne (hle t c ht)])

/-- The owners of the cells that are handed on stay apart, where none of these cells was owned. -/
theorem OwnedApart.handOver {x : Arbiter} {free : CellSet} (h : OwnedApart x.tiers)
    (hfree : ∀ v c, free.getLsbD c = true → (x.tiers.get v).owns.getLsbD c = false) :
    OwnedApart (x.handOver free).tiers := by
  obtain ⟨-, -, hget⟩ := passOwed_eq x.owed free x.tiers
  have owns (v : Tier) (c : Nat) : ((x.handOver free).tiers.get v).owns.getLsbD c =
      ((x.tiers.get v).owns.getLsbD c || free.getLsbD c && (x.owed.find? fun o => o.cell == c).any fun o => o.tier == v) := by
    obtain ⟨hv, hs⟩ := hget v
    have hres : ((x.handOver free).tiers.get v).reserved = (x.tiers.get v).reserved :=
      (congrArg Holding.reserved hv :)
    rw [owns_getLsbD, owns_getLsbD, hres]
    change (((passOwed x.owed free x.tiers).2.get v).standing.getLsbD c || _) = _
    rw [hs c]
    cases (x.tiers.get v).standing.getLsbD c <;> cases (x.tiers.get v).reserved.getLsbD c <;> simp
  rw [ownedApart_iff] at *
  intro t u c hne ht
  rw [owns] at ht ⊢
  cases hc : free.getLsbD c
  · simp only [hc, Bool.false_and, Bool.or_false] at ht ⊢
    exact h t u c hne ht
  · rw [hfree t c hc] at ht
    rw [hfree u c hc]
    cases hf : x.owed.find? fun o => o.cell == c with
    | none => simp [hf] at ht
    | some o =>
      simp only [hc, hf, Bool.false_or, Bool.true_and, Option.any_some, beq_iff_eq] at ht ⊢
      simpa [ht] using hne

theorem giveUp_owns (x : Arbiter) (t : Tier) (cells : CellSet) (v : Tier) (c : Nat) :
    ((x.giveUp t cells).tiers.get v).owns.getLsbD c =
      ((x.tiers.get v).owns.getLsbD c && !(decide (v = t) && cells.getLsbD c)) := by
  unfold Arbiter.giveUp
  rw [Eight.get_set]
  by_cases hc : c < 64
  · split
    · next e =>
      subst e
      simp only [owns_getLsbD, BitVec.getLsbD_and, BitVec.getLsbD_not, hc]
      cases cells.getLsbD c <;> simp
    · next e => simp [e]
  · simp [BitVec.getLsbD_of_ge _ c (Nat.le_of_not_lt hc)]

/-- Cells released by their owner, in any mode. -/
theorem OwnedApart.release {x : Arbiter} (h : OwnedApart x.tiers) (t : Tier) (cells : CellSet) :
    OwnedApart (x.release t cells).tiers := by
  refine handOver (h.mono fun v c hv => ?_) fun v c hc => ?_
  · rw [giveUp_owns] at hv
    simp only [Bool.and_eq_true] at hv
    exact hv.1
  · rw [giveUp_owns, hc]
    rw [BitVec.getLsbD_and, Bool.and_eq_true] at hc
    obtain rfl | hne := eq_or_ne v t
    · simp
    · simp [(ownedApart_iff _).mp h t v c hne.symm hc.2]

/-- A cell owned by a tier other than `t` is among those owned by others. -/
theorem ownedByOthers_getLsbD (x : Arbiter) (t : Tier) (c : Nat) :
    (x.ownedByOthers t).getLsbD c = Idx8.all.any fun u => u != t && (x.tiers.get u).owns.getLsbD c := by
  unfold Arbiter.ownedByOthers
  suffices h : ∀ (l : List Tier) (acc : CellSet),
      (l.foldl (fun acc u => if u = t then acc else acc ||| (x.tiers.get u).owns) acc).getLsbD c =
        (acc.getLsbD c || l.any fun u => u != t && (x.tiers.get u).owns.getLsbD c) by
    simpa using h Idx8.all 0
  intro l
  induction l with
  | nil => simp
  | cons u rest ih =>
    intro acc
    rw [List.foldl_cons, ih]
    by_cases hu : u = t
    · simp [hu]
    · simp [hu, bne_iff_ne.mpr hu, Bool.or_assoc]

/-- A cell owed to a tier other than `t` is among those owed to others. -/
theorem owedToOthers_getLsbD (x : Arbiter) (t : Tier) {c : Nat} (hc : c < 64) :
    (x.owedToOthers t).getLsbD c = x.owed.any fun o => o.tier != t && o.cell == c := by
  unfold Arbiter.owedToOthers
  suffices h : ∀ (l : List OwedClaim) (acc : CellSet),
      (l.foldl (fun acc o => if o.tier = t then acc else acc ||| cellBit o.cell) acc).getLsbD c =
        (acc.getLsbD c || l.any fun o => o.tier != t && o.cell == c) by
    simpa using h x.owed 0
  intro l
  induction l with
  | nil => simp
  | cons o rest ih =>
    intro acc
    rw [List.foldl_cons, ih]
    by_cases ho : o.tier = t
    · simp [ho]
    · rw [if_neg ho, with_getLsbD, List.any_cons, bne_iff_ne.mpr ho, Bool.true_and, Bool.or_assoc, decide_eq_true hc,
        Bool.true_and, ← beq_eq_decide, Bool.beq_comm]

/-- What a tier may take it owns already, or no other tier owns (R41). -/
theorem takable_apart (x : Arbiter) (t v : Tier) (c : Nat) (hne : v ≠ t) (h : (x.takable t).getLsbD c = true) :
    (x.tiers.get t).owns.getLsbD c = true ∨ (x.tiers.get v).owns.getLsbD c = false := by
  unfold Arbiter.takable at h
  rw [BitVec.getLsbD_or, Bool.or_eq_true] at h
  refine h.imp id fun h => ?_
  rw [BitVec.getLsbD_not, Bool.and_eq_true, BitVec.getLsbD_or, ownedByOthers_getLsbD] at h
  by_contra hv
  have : Idx8.all.any (fun u => u != t && (x.tiers.get u).owns.getLsbD c) = true :=
    List.any_eq_true.mpr ⟨v, Idx8.mem_all v, by simp [hne, hv]⟩
  simp [this] at h

/-- A tier that takes cells which it may take stays apart from the others. -/
theorem OwnedApart.take {x : Arbiter} (h : OwnedApart x.tiers) (t : Tier) (g : Holding)
    (hg : ∀ c, g.owns.getLsbD c = true → (x.tiers.get t).owns.getLsbD c = true ∨ (x.takable t).getLsbD c = true) :
    OwnedApart (x.tiers.set t g) := by
  have apart (v : Tier) (c : Nat) (hv : v ≠ t) (ho : g.owns.getLsbD c = true) : (x.tiers.get v).owns.getLsbD c = false := by
    have hmine := fun e => (ownedApart_iff _).mp h t v c hv.symm e
    obtain e | e := hg c ho
    · exact hmine e
    · exact (takable_apart x t v c hv e).elim hmine id
  rw [ownedApart_iff]
  intro u v c hne hu
  rw [Eight.get_set] at hu ⊢
  split at hu <;> split
  · next e e' => exact absurd (e.trans e'.symm) hne
  · next e => exact apart v c e hu
  · next hut hvt =>
    by_contra hg'
    simp [apart u c hut (by simpa using hg')] at hu
  · exact (ownedApart_iff _).mp h u v c hne hu

/-! ### Power -/

theorem committed_mono {x y : Arbiter} (h : ∀ v, (y.tiers.get v).demand ≤ (x.tiers.get v).demand) :
    y.committed ≤ x.committed := by
  unfold Arbiter.committed
  exact List.sum_le_sum fun v _ => h v

/-- One tier's demand raised from 0 raises the committed power by it. -/
theorem committed_set (x : Arbiter) (t : Tier) (g : Holding) (h : (x.tiers.get t).demand = 0) :
    Arbiter.committed { x with tiers := x.tiers.set t g } = x.committed + g.demand := by
  cases t <;> simp only [Arbiter.committed, Idx8.all, Eight.get, Eight.set, List.map_cons, List.map_nil, List.sum_cons,
    List.sum_nil] at h ⊢ <;> omega

/-- The power stays safe while no demand rises and no tier without an active move has one. -/
theorem PowerSafe.mono {s t : State} (h : PowerSafe s) (hmode : t.auth.mode = s.auth.mode)
    (hcap : t.tables.hall.capacity = s.tables.hall.capacity)
    (hle : ∀ v, (t.holding v).demand ≤ (s.holding v).demand)
    (hact : ∀ v, (t.holding v).active = false → (s.holding v).active = false ∨ (t.holding v).demand = 0) : PowerSafe t := by
  obtain ⟨hc, hs, ha⟩ := h
  have hsum := committed_mono hle
  refine ⟨hcap ▸ hsum.trans hc, fun hm => ?_, fun v hv => ?_⟩
  · exact Nat.le_zero.mp ((hs (hmode ▸ hm)) ▸ hsum)
  · obtain e | e := hact v hv
    · exact Nat.le_zero.mp (ha v e ▸ hle v)
    · exact e

/-! ### Operations of the arbiter -/

/-- A new claim leaves the demands and the marks of active moves, and cells owned stay apart. -/
theorem newClaim_arb (s : State) (t : Tier) (claim kept : CellSet) :
    (∀ v, ((s.newClaim t claim kept).holding v).demand = (s.holding v).demand ∧
      ((s.newClaim t claim kept).holding v).active = (s.holding v).active) ∧
    (OwnedApart s.arb.tiers → OwnedApart (s.newClaim t claim kept).arb.tiers) ∧
    s.newClaim t claim kept =
      { s with arb := (s.newClaim t claim kept).arb, mail := (s.newClaim t claim kept).mail } := by
  obtain ⟨g, hg⟩ : ∃ g : Holding, g = { s.holding t with
    standing := claim &&& s.arb.takable t, reserved := (s.holding t).reserved &&& kept } := ⟨_, rfl⟩
  obtain ⟨x, hx⟩ : ∃ x : Arbiter, x = { s.arb.claim t claim s.clock with tiers := s.arb.tiers.set t g } := ⟨_, rfl⟩
  have harb : (s.newClaim t claim kept).arb = x.handOver ((s.holding t).owns &&& ~~~g.owns) := by
    rw [hx, hg]
    unfold State.newClaim State.raiseOwed State.when
    dsimp only
    rw [apply_ite State.arb]
    simp only [State.raise_arb, State.modArb_arb]
    unfold Arbiter.claim State.holding
    simp
  have hgowns (c : Nat) (h : g.owns.getLsbD c = true) :
      (s.holding t).owns.getLsbD c = true ∨ (s.arb.takable t).getLsbD c = true := by
    rw [hg, owns_getLsbD] at h
    simp only [BitVec.getLsbD_and, Bool.or_eq_true, Bool.and_eq_true] at h
    obtain ⟨-, h⟩ | ⟨h, -⟩ := h
    · exact .inr h
    · exact .inl (by rw [owns_getLsbD, h, Bool.or_true])
  refine ⟨fun v => ?_, fun h => ?_, ?_⟩
  · have hv := ((passOwed_eq x.owed ((s.holding t).owns &&& ~~~g.owns) x.tiers).2.2 v).1
    have hsame : ((s.newClaim t claim kept).holding v).demand = (x.tiers.get v).demand ∧
        ((s.newClaim t claim kept).holding v).active = (x.tiers.get v).active := by
      unfold State.holding
      rw [harb]
      exact ⟨(congrArg Holding.demand hv :), (congrArg Holding.active hv :)⟩
    rw [hsame.1, hsame.2, hx]
    dsimp only
    rw [Eight.get_set]
    split
    · next e => rw [hg, e]; exact ⟨rfl, rfl⟩
    · exact ⟨rfl, rfl⟩
  · rw [harb]
    have hapart : OwnedApart x.tiers := by
      rw [hx]
      exact h.take t g hgowns
    refine hapart.handOver fun v c hc => ?_
    rw [BitVec.getLsbD_and, BitVec.getLsbD_not, Bool.and_eq_true, Bool.and_eq_true] at hc
    obtain ⟨hmine, -, hnot⟩ := hc
    rw [hx]
    dsimp only
    rw [Eight.get_set]
    split
    · simpa using hnot
    · next hne => exact (ownedApart_iff _).mp h t v c (Ne.symm hne) hmine
  · unfold State.newClaim State.raiseOwed State.when
    dsimp only
    split <;> rfl

namespace Inner

variable {s t : State}

/-- The arbiter's sets changed, in a way that keeps floor and power safe. -/
theorem modArb (h : Inner s t) (f : Arbiter → Arbiter) (hfloor : FloorSafe t → FloorSafe (t.modArb f))
    (hpower : PowerSafe t → PowerSafe (t.modArb f)) : Inner s (t.modArb f) :=
  h.trans ⟨⟨⟨hfloor, hpower, id, id, id, id, id⟩, rfl, rfl, rfl⟩, rfl⟩

/-- A tier's holdings changed so that it owns no more cells than before, has no higher demand, and none without an active
move. -/
theorem modHolding (h : Inner s t) (u : Tier) (f : Holding → Holding)
    (howns : ∀ c, (f (t.holding u)).owns.getLsbD c = true → (t.holding u).owns.getLsbD c = true)
    (hdemand : (f (t.holding u)).demand ≤ (t.holding u).demand)
    (hactive : (f (t.holding u)).active = false → (t.holding u).active = false ∨ (f (t.holding u)).demand = 0) :
    Inner s (t.modHolding u f) := by
  have hle (v : Tier) (c : Nat) : ((t.modHolding u f).holding v).owns.getLsbD c = true →
      (t.holding v).owns.getLsbD c = true := by
    rw [State.modHolding_holding]
    split
    · next e => rw [e]; exact howns c
    · exact id
  refine h.modArb (fun x => { x with tiers := x.tiers.set u (f (x.tiers.get u)) }) (fun ⟨hd, hs⟩ => ⟨?_, fun hm => ⟨fun v => ?_, (hs hm).2⟩⟩) fun hp =>
    hp.mono rfl rfl (fun v => ?_) fun v => ?_
  · exact OwnedApart.mono hd hle
  · refine BitVec.eq_of_getLsbD_eq fun c _ => ?_
    rw [empty_getLsbD]
    refine Bool.eq_false_iff.mpr fun hc => ?_
    have := hle v c hc
    rw [(hs hm).1 v] at this
    simp at this
  · change ((t.modHolding u f).holding v).demand ≤ _
    rw [State.modHolding_holding]
    split
    · next e => rw [e]; exact hdemand
    · exact le_rfl
  · change ((t.modHolding u f).holding v).active = false → _ ∨ ((t.modHolding u f).holding v).demand = 0
    rw [State.modHolding_holding]
    split
    · next e => rw [e]; exact hactive
    · exact .inl

theorem newClaim (h : Inner s t) (hrun : t.auth.mode = .run) (u : Tier) (claim kept : CellSet) :
    Inner s (t.newClaim u claim kept) := by
  obtain ⟨hdemand, hapart, hframe⟩ := newClaim_arb t u claim kept
  rw [hframe]
  refine h.trans ⟨⟨⟨fun hf => ⟨hapart hf.1, fun hm => ?_⟩, fun hp => ?_, id, id, id, id, id⟩, rfl, rfl, rfl⟩, rfl⟩
  · exact absurd (hrun.symm.trans hm) (by decide)
  · exact hp.mono rfl rfl (fun v => (hdemand v).1.le) fun v hv => .inl ((hdemand v).2.symm.trans hv)

theorem stowedAtArbiter (h : Inner s t) (u : Tier) (stowed : Bool) : Inner s (t.stowedAtArbiter u stowed) := by
  have h1 : Inner s (t.modHolding u fun h => { h with stowed := stowed }) := h.modHolding u _ (fun _ => id) le_rfl .inl
  refine .ite (fun _ => h1.requestPass) fun hrun => .ite (fun _ => requestPass ?_) fun _ => h
  exact h1.newClaim (by simpa [State.inRun] using hrun) _ _ _

theorem release (h : Inner s t) (u : Tier) (cells : CellSet) : Inner s (t.modArb fun x => x.release u cells) := by
  obtain ⟨hsub, -, hget⟩ := passOwed_eq t.arb.owed (cells &&& (t.holding u).owns)
    (t.arb.giveUp u (cells &&& (t.holding u).owns)).tiers
  have hgive (v : Tier) : ((t.arb.giveUp u (cells &&& (t.holding u).owns)).tiers.get v).demand = (t.holding v).demand ∧
      ((t.arb.giveUp u (cells &&& (t.holding u).owns)).tiers.get v).active = (t.holding v).active := by
    unfold Arbiter.giveUp
    rw [Eight.get_set]
    split
    · next e => rw [e]; exact ⟨rfl, rfl⟩
    · exact ⟨rfl, rfl⟩
  have hsame (v : Tier) : ((t.modArb fun x => x.release u cells).holding v).demand = (t.holding v).demand ∧
      ((t.modArb fun x => x.release u cells).holding v).active = (t.holding v).active :=
    ⟨(congrArg Holding.demand (hget v).1).trans (hgive v).1, (congrArg Holding.active (hget v).1).trans (hgive v).2⟩
  refine h.modArb _ (fun ⟨hd, hs⟩ => ⟨OwnedApart.release hd u cells, fun hm => ?_⟩) fun hp =>
    hp.mono rfl rfl (fun v => (hsame v).1.le) fun v hv => .inl ((hsame v).2.symm.trans hv)
  obtain ⟨hfree, howed⟩ := hs hm
  have hnone : (t.arb.release u cells).owed = [] := List.sublist_nil.mp (howed ▸ hsub)
  refine ⟨fun v => ?_, hnone⟩
  have e : ((t.arb.release u cells).tiers.get v) = (t.arb.giveUp u (cells &&& (t.holding u).owns)).tiers.get v := by
    unfold Arbiter.release
    rw [handOver_eq]
    change ((passOwed (t.arb.giveUp u _).owed _ _).2.get v) = _
    rw [show (t.arb.giveUp u (cells &&& (t.arb.tiers.get u).owns)).owed = [] from howed]
    rfl
  refine BitVec.eq_of_getLsbD_eq fun c _ => ?_
  change ((t.arb.release u cells).tiers.get v).owns.getLsbD c = _
  rw [e, giveUp_owns, show (t.arb.tiers.get v).owns = 0 from hfree v]
  simp

theorem releaseBands (h : Inner s t) (u : Tier) (p : Path) (position : Int) : Inner s (t.releaseBands u p position) := by
  unfold State.releaseBands
  refine (modAxis (modHolding (h.release u _) u _ ?_ ?_ ?_) _ _ (axisSafe_of_same rfl rfl rfl)).when _ fun _ _ h =>
    h.requestPass
  exacts [fun _ => id, le_rfl, .inl]

theorem settleEndOfMove (h : Inner s t) (u : Tier) (o : MoveOutcome) (entered : Bool) (position : Int) :
    Inner s (t.settleEndOfMove u o entered position) := by
  have finish {x : State} (hx : Inner s x) : Inner s (((x.modHolding u fun h =>
      { h with reserved := 0, demand := 0, active := false, path := none }).modAxis ⟨u, .R⟩
      fun x => { x with release := none }).requestPass) := by
    refine (modAxis (hx.modHolding u _ (fun c hc => ?_) (Nat.zero_le _) fun _ => .inr rfl) _ _
      (axisSafe_of_same rfl rfl rfl)).requestPass
    rw [owns_getLsbD] at hc
    change ((x.holding u).standing.getLsbD c || (0 : CellSet).getLsbD c) = true at hc
    rw [empty_getLsbD, Bool.or_false] at hc
    exact (owns_getLsbD ..).trans ((Bool.or_eq_true ..).mpr (.inl hc))
  refine .ite (fun hc => finish (newClaim ?_ ?_ _ _ _)) fun _ => finish h
  · exact h.modHolding u _ (fun _ => id) le_rfl .inl
  · simp only [State.inRun, Bool.and_eq_true, beq_iff_eq] at hc
    exact hc.1

theorem tripArbiter (h : Inner s t) : Inner s t.tripArbiter := by
  refine when (h.modArb _ ?_ ?_) _ fun _ _ h => h.requestPass
  · refine fun ⟨hd, hs⟩ => ⟨fun v w hvw => ?_, fun hm => ⟨fun v => ?_, (hs hm).2⟩⟩
    · simpa [State.holding, Holding.owns] using hd v w hvw
    · simpa [State.holding, Holding.owns] using (hs hm).1 v
  · refine fun hp => hp.mono rfl rfl (fun v => ?_) fun v _ => .inr ?_
    · simp [State.holding]
    · simp [State.holding]

/-! ### Grants -/

/-- The sequencer takes a granted move in RUN, where no jog runs and slots may be full. -/
theorem seqTake (h : Inner s t) (hrun : t.auth.mode = .run) (m : MoveRec) : Inner s (t.seqTake m) := by
  have put (g : Active) : Inner s (t.modSeq m.tier fun q => { q with slot := some g }) := by
    have hjog (v : Tier) : ((t.modSeq m.tier fun q => { q with slot := some g }).seq v).jog = (t.seq v).jog := by
      rw [State.modSeq_seq]
      split
      · next e => rw [e]
      · rfl
    refine h.trans ⟨⟨⟨id, id, fun ⟨_, hr, hone⟩ => ⟨fun hm => ?_, fun hm v => ?_, fun v w => ?_⟩, id, id, id,
      id⟩, rfl, rfl, rfl⟩, rfl⟩
    · exact absurd (hrun.symm.trans hm) (by decide)
    · exact (hjog v).trans (hr hm v)
    · rw [hjog, hjog]
      exact hone v w
  unfold State.seqTake
  dsimp only
  refine seqReport ?_ _
  split
  · exact .ite (fun _ => (put _).seqActs ((SeqActs.refl _ _).endMove _ _)) fun _ =>
      (put _).seqActs (SeqActs.refl _ _).enterWithdraw
  · exact (put _).seqActs (SeqActs.refl _ _).enterLift

end Inner

/-- The checks whose passing a grant shows, as far as floor and power rest on them (R50). -/
theorem findMove_grant {s : State} {m : MoveRec} {blocked : List Tier} {cells : CellSet} {power : Nat}
    (h : s.findMove m blocked cells power = .grant) :
    s.busyTier m.tier = false ∧ s.cellsFit m = true ∧ s.fitsPower (s.demandOf m) = true := by
  unfold State.findMove at h
  dsimp only at h
  split_ifs at h with h1 h2 h3 h4 h5 h6 h7 h8 h9
  simp only [Bool.not_eq_true', Bool.not_eq_false] at *
  exact ⟨by simpa using h2, by simpa using h7, by simpa using h8⟩

theorem cellsFit_takable {s : State} {m : MoveRec} (h : s.cellsFit m = true) (c : Nat)
    (hc : (s.reservedFor m).getLsbD c = true) : (s.arb.takable m.tier).getLsbD c = true := by
  unfold State.cellsFit at h
  have h0 := congrArg (fun z => BitVec.getLsbD z c) (beq_iff_eq.mp h)
  have hlt : c < 64 := Nat.lt_of_not_le fun hge => by rw [BitVec.getLsbD_of_ge _ _ hge] at hc; cases hc
  simpa [hc, hlt] using h0

namespace Inner

variable {s t : State}

/-- A move that the checks found grantable is granted: its cells were its tier's or nobody's, and its demand fits. -/
theorem grantMove (h : Inner s t) (hrun : t.auth.mode = .run) (m : MoveRec) (hbusy : t.busyTier m.tier = false)
    (hcells : t.cellsFit m = true) (hpower : t.fitsPower (t.demandOf m) = true) : Inner s (t.grantMove m) := by
  unfold State.grantMove
  refine seqTake (listChanged (modAxis ?_ _ _ (axisSafe_of_same rfl rfl rfl))) ?_ m
  · have h1 := h.modAdm (fun x => { x with waiting := x.waiting.filter fun y => y.number != m.number })
      (fun _ e => by rw [e]; rfl) (fun e => (List.length_filter_le ..).trans e) id
    refine h1.modArb (fun x => { x with tiers := x.tiers.set m.tier { x.tiers.get m.tier with
      reserved := t.reservedFor m, demand := t.demandOf m, active := true, path := some (t.pathOf m) } }) ?_ ?_
    · refine fun ⟨hd, _⟩ => ⟨OwnedApart.take hd m.tier _ fun c hc => ?_, fun hm => ?_⟩
      · rw [owns_getLsbD, Bool.or_eq_true] at hc
        obtain hc | hc := hc
        · exact .inl (by rw [owns_getLsbD]; exact (Bool.or_eq_true ..).mpr (.inl hc))
        · exact .inr (cellsFit_takable hcells c hc)
      · exact absurd (hrun.symm.trans hm) (by decide)
    · intro ⟨hc, _, ha⟩
      simp only [State.busyTier, Bool.or_eq_false_iff] at hbusy
      have hsum := committed_set t.arb m.tier { t.arb.tiers.get m.tier with
        reserved := t.reservedFor m, demand := t.demandOf m, active := true, path := some (t.pathOf m) }
        (ha m.tier hbusy.2)
      refine ⟨?_, fun hm => ?_, fun v hv => ?_⟩
      · exact hsum.le.trans (of_decide_eq_true hpower)
      · exact absurd (hrun.symm.trans hm) (by decide)
      · simp only [State.holding, State.modArb_arb, Eight.get_set] at hv ⊢
        split at hv
        · cases hv
        · next hne => rw [if_neg hne]; exact ha v hv
  · rw [listChanged_eq]
    exact hrun

theorem modPending (h : Inner s t) (n : Nat) (f : MoveRec → MoveRec) : Inner s (t.modPending n f) := by
  refine h.modAdm _ (fun _ e => ?_) (fun e => ?_) ?_
  · simp [e]
  · simpa using e
  · exact id

theorem visit {w : Walk} (h : Inner s w.state) (hrun : s.auth.mode = .run) (m : MoveRec) :
    Inner s (w.visit m).state := by
  have hmode : w.state.auth.mode = .run := h.mode.trans hrun
  unfold Walk.visit
  dsimp only
  split
  · exact h.endPending _ _ _
  · next hg =>
    obtain ⟨hbusy, hcells, hpower⟩ := findMove_grant hg
    refine grantMove (h.modAdm _ (fun _ e => ?_) (fun e => ?_) ?_) hmode m hbusy hcells hpower
    · simp [e]
    · simpa using e
    · exact id
  · exact h.modPending _ _

theorem testStalemate (h : Inner s t) : Inner s t.testStalemate :=
  .ite (fun _ => (h.trans (.of_unread t ..)).raise _) fun _ => h

theorem runPass (h : Inner s t) : Inner s t.runPass := by
  have h1 : Inner s (t.modArb fun x => { x with passRequested := false }) := h.trans (.of_unread t ..)
  refine .ite (fun hc => testStalemate ?_) fun _ => h1
  simp only [State.inRun, Bool.and_eq_true, beq_iff_eq] at hc
  have hrun : s.auth.mode = .run := h.mode.symm.trans hc.1
  suffices walk : ∀ (l : List MoveRec) (w : Walk), Inner s w.state → Inner s (l.foldl Walk.visit w).state from
    walk _ _ h1
  intro l
  induction l with
  | nil => exact fun _ h => h
  | cons m rest ih => exact fun w hw => ih _ (hw.visit hrun m)

end Inner

end Sys2Proof.Machine

/-! SUPPORT. The requests: what the block that owns one makes of it keeps every invariant, and nothing changes under a
refusal. -/

namespace Sys2Proof.Machine

open Sys2Proof

/-- From `s` to `t` the owner of a request has acted: each invariant is kept, no transmission is touched, and in RUN no
table. -/
structure Acts (s t : State) : Prop extends Keeps s t where
  sending : ∀ p, (t.port p).sending = (s.port p).sending
  tables : s.auth.mode = .run → t.tables = s.tables
  held : t.held = s.held

/-- The owner of a request has acted, and the mode is as it was. -/
structure Writes (s t : State) : Prop extends Acts s t where
  mode : t.auth.mode = s.auth.mode

theorem Inner.writes {s t : State} (h : Inner s t) : Writes s t :=
  ⟨⟨h.toKeeps, fun p => by unfold State.port; rw [h.ports], fun _ => h.tables, h.held⟩, h.mode⟩

theorem Writes.inner {s t v : State} (h : Writes s t) (g : Inner t v) : Writes s v :=
  ⟨⟨h.toKeeps.trans g.toKeeps, fun p => (g.writes.sending p).trans (h.sending p),
    fun hm => g.tables.trans (h.tables hm), g.held.trans h.held⟩, g.mode.trans h.mode⟩

/-- An answer to a request whose owner acts as `P` says, and changes nothing where it refuses (R185). -/
def AnswersBy (P : State → State → Prop) (s : State) (r : Answer) : Prop := P s r.1 ∧ (isRefusal r.2.1 = true → r.1 = s)

theorem AnswersBy.mono {P Q : State → State → Prop} {s : State} {r : Answer} (h : AnswersBy P s r)
    (hpq : ∀ t, P s t → Q s t) : AnswersBy Q s r := ⟨hpq _ h.1, h.2⟩

theorem AnswersBy.ite {P : State → State → Prop} {s : State} {p : Prop} [Decidable p] {x y : Answer}
    (hx : p → AnswersBy P s x) (hy : ¬p → AnswersBy P s y) : AnswersBy P s (if p then x else y) := by
  split
  · exact hx ‹_›
  · exact hy ‹_›

/-- An answer that changes nothing. -/
theorem AnswersBy.same {P : State → State → Prop} {s : State} (hp : P s s) (st : Status) (body : List Byte) :
    AnswersBy P s (s, st, body) := ⟨hp, fun _ => rfl⟩

/-- An answer that takes the request. -/
theorem AnswersBy.taken {P : State → State → Prop} {s t : State} (hp : P s t) {st : Status} (hst : isRefusal st = false)
    (body : List Byte) : AnswersBy P s (t, st, body) :=
  ⟨hp, fun h => absurd (hst.symm.trans h) (by decide)⟩

/-- A refusal, or the same state answered, of a block that otherwise acts inside. -/
theorem answersBy_unchanged (s : State) (st : Status) (body : List Byte) : AnswersBy Inner s (s, st, body) :=
  .same (.refl s) st body

theorem answersBy_written (s : State) (st : Status) (body : List Byte) : AnswersBy Writes s (s, st, body) :=
  .same (Inner.refl s).writes st body

theorem writeStatus_not_refusal (b : Bool) : isRefusal (writeStatus b) = false := by cases b <;> rfl

/-! ### Queries -/

theorem moveStatus_answersBy (s : State) (n : Nat) : AnswersBy Inner s (s.moveStatusAnswer n) := by
  refine .ite (fun _ => answersBy_unchanged ..) fun _ => ?_
  split
  · exact answersBy_unchanged ..
  · split
    · exact answersBy_unchanged ..
    · split <;> exact answersBy_unchanged ..

theorem tableAnswer_answersBy (s : State) (sel i j : Nat) : AnswersBy Inner s (s.tableAnswer sel i j) := by
  unfold State.tableAnswer
  split
  · exact answersBy_unchanged ..
  · split <;> exact answersBy_unchanged ..
  · split <;> exact answersBy_unchanged ..
  · split
    · exact .ite (fun _ => answersBy_unchanged ..) fun _ => answersBy_unchanged ..
    · exact answersBy_unchanged ..
  · split <;> exact answersBy_unchanged ..
  · exact answersBy_unchanged ..

/-! ### Requests of the holder -/

theorem moveAnswer_answersBy (s : State) (q : Src) (tier kind target cls tag : Nat) :
    AnswersBy Inner s (s.moveAnswer q tier kind target cls tag) := by
  refine .ite (fun _ => answersBy_unchanged ..) fun hrun => .ite (fun _ => answersBy_unchanged ..) fun _ =>
    .ite (fun _ => answersBy_unchanged ..) fun _ => ?_
  have hmode : s.auth.mode = .run := by simpa [State.inRun] using hrun
  split
  · next t g c _ _ _ =>
    have h := (Inner.refl s).admitMove hmode t g c tag .direct
    have hsame : ∀ st, (s.admitMove t g c tag .direct).2 = .refused st → (s.admitMove t g c tag .direct).1 = s := by
      unfold State.admitMove
      intro st
      split
      · exact fun _ => rfl
      · split
        · exact fun _ => rfl
        · intro e
          cases e
    generalize s.admitMove t g c tag .direct = r at h hsame
    obtain ⟨s1, sub⟩ := r
    cases sub with
    | refused st =>
      obtain rfl := hsame st rfl
      exact answersBy_unchanged ..
    | admitted m adjusted => exact .taken h (by cases adjusted <;> rfl) _
  · exact answersBy_unchanged ..

theorem cancelAnswer_answersBy (s : State) (q : Src) (n : Nat) : AnswersBy Inner s (s.cancelAnswer q n) := by
  refine .ite (fun _ => answersBy_unchanged ..) fun _ => .ite (fun _ => answersBy_unchanged ..) fun _ => ?_
  split
  · exact .taken ((Inner.refl s).endPending _ _ _) rfl _
  · exact .ite (fun _ => answersBy_unchanged ..) fun _ => answersBy_unchanged ..

theorem jogRuns_eq_false_iff (s : State) : s.jogRuns = false ↔ ∀ u, (s.seq u).jog = none := by
  simp [State.jogRuns, Seq.jogging, Idx8.mem_all]

/-- A jog starts in SETUP, where none runs. -/
theorem startJog_inner (s : State) (hm : s.auth.mode = .setup) (hnone : s.jogRuns = false) (u : Tier) (g : JogTarget)
    (d : Dir) : Inner s (s.startJog u g d) := by
  rw [jogRuns_eq_false_iff] at hnone
  have put (j : Jog) : Inner s (s.modSeq u fun q => { q with jog := some j }) := by
    have hslot (v : Tier) : ((s.modSeq u fun q => { q with jog := some j }).seq v).slot = (s.seq v).slot := by
      rw [State.modSeq_seq]
      split
      · next e => rw [e]
      · rfl
    have hjog (v : Tier) (h : ((s.modSeq u fun q => { q with jog := some j }).seq v).jog.isSome = true) : v = u := by
      by_contra hne
      rw [State.modSeq_seq, if_neg hne, hnone v] at h
      cases h
    refine ⟨⟨⟨id, id, fun ⟨hs, _, _⟩ => ⟨fun _ => ⟨(hs hm).1, fun v => (hslot v).trans ((hs hm).2 v)⟩, fun hr => ?_,
      fun v w hv hw => (hjog v hv).trans (hjog w hw).symm⟩, id, id, id, id⟩, rfl, rfl, rfl⟩, rfl⟩
    exact absurd (hm.symm.trans hr) (by decide)
  unfold State.startJog
  refine Inner.seqReport ?_ u
  have h1 := fun j limits => (put j).modMan (fun m => { m with exempt := m.exempt.set u limits })
    (.of_same rfl rfl rfl id)
  split
  · exact (h1 _ _).seqActs (SeqActs.refl u _).enterWithdraw
  · exact (h1 _ _).seqActs (SeqActs.refl u _).jogLift

theorem jogAnswer_answersBy (s : State) (q : Src) (tier target dir : Nat) :
    AnswersBy Inner s (s.jogAnswer q tier target dir) := by
  refine .ite (fun _ => answersBy_unchanged ..) fun hsetup => .ite (fun _ => answersBy_unchanged ..) fun _ => ?_
  have hmode : s.auth.mode = .setup := by simpa [State.inSetup] using hsetup
  split
  · refine .ite (fun _ => answersBy_unchanged ..) fun _ => .ite (fun _ => answersBy_unchanged ..) fun _ =>
      .ite (fun _ => answersBy_unchanged ..) fun hjog => .ite (fun _ => answersBy_unchanged ..) fun _ =>
      .ite (fun _ => answersBy_unchanged ..) fun _ => .ite (fun _ => answersBy_unchanged ..) fun _ =>
      .ite (fun _ => answersBy_unchanged ..) fun _ => ?_
    exact .taken (startJog_inner s hmode (by simpa using hjog) _ _ _) rfl _
  · exact answersBy_unchanged ..

theorem resetTier_answersBy (s : State) (u : Tier) : AnswersBy Inner s (s.resetTier u) := by
  refine .ite (fun _ => answersBy_unchanged ..) fun _ => .ite (fun _ => answersBy_unchanged ..) fun _ =>
    .ite (fun _ => answersBy_unchanged ..) fun _ => .taken (((Inner.refl s).modSeq u _ ?_ ?_).requestPass.raise _) rfl _
  · rfl
  · rfl

theorem resetHall_answersBy (s : State) : AnswersBy Inner s s.resetHall := by
  refine ⟨(Inner.refl s).resetHall, ?_⟩
  unfold State.resetHall
  split
  iterate 3 exact fun h => by cases h
  iterate 2 exact fun _ => rfl
  · split
    · exact fun _ => rfl
    · exact fun h => by cases h
  · split
    · exact fun _ => rfl
    · split
      · exact fun _ => rfl
      · exact fun h => by cases h

theorem tareAnswer_answersBy (s : State) (q : Src) (tier : Nat) : AnswersBy Inner s (s.tareAnswer q tier) := by
  refine .ite (fun _ => answersBy_unchanged ..) fun _ => .ite (fun _ => answersBy_unchanged ..) fun _ => ?_
  split
  · exact answersBy_unchanged ..
  · exact .ite (fun _ => answersBy_unchanged ..) fun _ => .ite (fun _ => answersBy_unchanged ..) fun _ =>
      .taken (((Inner.refl s).modLoad _ _).recomputeLoad _) rfl _

theorem planStartAnswer_answersBy (s : State) (q : Src) (plan : Nat) : AnswersBy Inner s (s.planStartAnswer q plan) := by
  refine .ite (fun _ => answersBy_unchanged ..) fun _ => .ite (fun _ => answersBy_unchanged ..) fun _ => ?_
  split
  · exact answersBy_unchanged ..
  · refine .ite (fun _ => answersBy_unchanged ..) fun _ => .ite (fun _ => answersBy_unchanged ..) fun _ =>
      .ite (fun _ => answersBy_unchanged ..) fun _ => ?_
    split
    · exact answersBy_unchanged ..
    · exact .taken (((Inner.refl s).modPlans _).raisePlan _).testSteps rfl _

theorem planAbortAnswer_answersBy (s : State) (q : Src) : AnswersBy Inner s (s.planAbortAnswer q) :=
  .ite (fun _ => answersBy_unchanged ..) fun _ => .ite (fun _ => .taken (Inner.refl s).abortPlan rfl _) fun _ =>
    answersBy_unchanged ..

/-! ### Table writes -/

/-- Tables other than the hall record written in SETUP. -/
theorem writes_modTables (s : State) (hm : s.auth.mode = .setup) (f : Tables → Tables)
    (hhall : (f s.tables).hall = s.tables.hall) : Writes s (s.modTables f) := by
  refine ⟨⟨⟨id, fun hp => hp.mono rfl (congrArg HallRec.capacity hhall) (fun _ => le_rfl) fun _ => .inl, id, id, id, id,
    id⟩, fun _ => rfl, fun hr => ?_, rfl⟩, rfl⟩
  exact absurd (hm.symm.trans hr) (by decide)

/-- The hall record written in SETUP, where no power is committed. -/
theorem writes_hall (s : State) (hm : s.auth.mode = .setup) (w : HallRec) :
    Writes s (s.modTables fun x => { x with hall := w }) := by
  refine ⟨⟨⟨id, fun ⟨_, hs, ha⟩ => ⟨?_, hs, ha⟩, id, id, id, id, id⟩, fun _ => rfl, fun hr => ?_, rfl⟩, rfl⟩
  · exact (hs hm).le.trans (Nat.zero_le _)
  · exact absurd (hm.symm.trans hr) (by decide)

theorem madePresent_inner {s t : State} (h : Inner s t) (u : Tier) : Inner s (t.madePresent u) :=
  (h.when _ fun _ x h => h.seqActs ((SeqActs.refl u x).tierCause _)).requestPass

theorem pairMeets_inner {s t : State} (h : Inner s t) (u : Tier) (old new : TierRec) : Inner s (t.pairMeets u old new) := by
  unfold State.pairMeets
  split
  · exact (h.modPair _ _).reportStowed u
  · exact (h.modPair _ _).decideStowed u
  · exact .ite (fun _ => h.decideStowed u) fun _ => h

theorem storeTier_writes (s : State) (hm : s.auth.mode = .setup) (u : Tier) (new : TierRec) :
    Writes s (s.storeTier u new) := by
  unfold State.storeTier
  refine Writes.inner (writes_modTables s hm (fun x => { x with tiers := x.tiers.set u new }) rfl) ?_
  refine Inner.seqReport (Inner.when (pairMeets_inner ?_ u _ _) _ fun _ x h => madePresent_inner h u) u
  exact (Inner.refl _).when _ fun _ _ h => h.restartCells _ _

theorem storeAxis_writes (s : State) (hm : s.auth.mode = .setup) (a : Axis) (r : AxisRec) :
    Writes s (s.storeAxis a r) := by
  have h1 := writes_modTables s hm
    (fun x => { x with axes := x.axes.set a.tier ((x.axes.get a.tier).set a.role r) }) rfl
  unfold State.storeAxis
  dsimp only
  split
  · exact h1
  · exact h1.inner (((Inner.refl _).rezero a _).reportJack a)

theorem storeStation_writes (s : State) (hm : s.auth.mode = .setup) (u : Tier) (n : Station) (x : Option Int) :
    Writes s (s.storeStation u n x) := by
  refine (writes_modTables s hm
    (fun y => { y with stations := y.stations.set u ((y.stations.get u).set n x) }) rfl).inner ?_
  refine (Inner.refl _).when _ fun _ _ h => (h.modSeq u _ ?_ ?_).when _ fun _ _ h => h.requestPass
  · rfl
  · rfl

theorem writeGuard_answersBy (s : State) (q : Src) (f : Answer) (hf : s.auth.mode = .setup → AnswersBy Writes s f) :
    AnswersBy Writes s (s.writeGuard q f) :=
  .ite (fun _ => answersBy_written ..) fun hm => .ite (fun _ => answersBy_written ..) fun _ =>
    hf (by simpa [State.inSetup] using hm)

theorem teachHere_answersBy (s : State) (hm : s.auth.mode = .setup) (tier station : Nat) :
    AnswersBy Writes s (s.teachHere tier station) := by
  unfold State.teachHere
  split
  · exact .ite (fun _ => answersBy_written ..) fun _ => .ite (fun _ => answersBy_written ..) fun _ =>
      .ite (fun _ => .taken (storeStation_writes s hm _ _ _) rfl _) fun _ => answersBy_written ..
  · exact answersBy_written ..

theorem teachPosition_answersBy (s : State) (hm : s.auth.mode = .setup) (a : Axis) (c : Count) (v : Int) :
    AnswersBy Writes s (s.teachPosition a c v) := by
  refine .taken ?_ (writeStatus_not_refusal _) _
  exact (writes_modTables s hm _ rfl).inner (((Inner.refl _).rezero a _).reportJack a)

/-! ### SET_MODE, RESTART and the latch -/

theorem mem_pairsOf {l : List Tier} {t u : Tier} (ht : t ∈ l) (hu : u ∈ l) (hne : t ≠ u) :
    (t, u) ∈ pairsOf l ∨ (u, t) ∈ pairsOf l := by
  induction l with
  | nil => cases ht
  | cons v rest ih =>
    simp only [pairsOf, List.mem_append, List.mem_map, Prod.mk.injEq]
    obtain ht | ht := List.mem_cons.mp ht <;> obtain hu | hu := List.mem_cons.mp hu
    · exact absurd (ht.trans hu.symm) hne
    · exact .inl (.inl ⟨u, hu, ht.symm, rfl⟩)
    · exact .inr (.inl ⟨t, ht, hu.symm, rfl⟩)
    · exact (ih ht hu).imp .inr .inr

theorem eq_zero_of_cellList_nil {x : CellSet} (h : cellList x = []) : x = 0 := by
  refine BitVec.eq_of_getLsbD_eq fun c hc => ?_
  have := List.filter_eq_nil_iff.mp h c (List.mem_range.mpr hc)
  simpa using this

/-- A validation without a finding found every two present tiers' standing sets disjoint (R169, check 6). -/
theorem standing_apart_of_no_finding {s : State} (h : s.runFinding = none) {t u : Tier} (ht : (s.tier t).present = true)
    (hu : (s.tier u).present = true) (hne : t ≠ u) : s.standingAtEntry t &&& s.standingAtEntry u = 0 := by
  have h6 : s.check6 = none := by
    unfold State.runFinding at h
    cases h1 : s.check1 <;> cases h2 : s.check2 <;> cases h3 : s.check3 <;> cases h4 : s.check4 <;>
      cases h5 : s.check5 <;> simp_all
  have hmem {v : Tier} (hv : (s.tier v).present = true) : v ∈ s.presentTiers :=
    List.mem_filter.mpr ⟨Idx8.mem_all v, hv⟩
  have hpair {v w : Tier} (hvw : (v, w) ∈ pairsOf s.presentTiers) :
      s.standingAtEntry v &&& s.standingAtEntry w = 0 := by
    have := List.findSome?_eq_none_iff.mp h6 (v, w) hvw
    exact eq_zero_of_cellList_nil (by simpa using this)
  obtain e | e := mem_pairsOf (hmem ht) (hmem hu) hne
  · exact hpair e
  · rw [BitVec.and_comm]
    exact hpair e

/-- What the map is built with for one tier (R44). -/
theorem buildMap_holding (s : State) (u : Tier) : (s.buildMap).holding u =
    if (s.tier u).present then
      { band := some (bandOf (s.axis ⟨u, .R⟩).position), standing := s.standingAtEntry u, reserved := 0, demand := 0
        active := false, path := none, stowed := (s.pair u).stowed }
    else { Holding.initial with stowed := (s.pair u).stowed } := by
  unfold State.buildMap
  rw [requestPass_eq]
  cases u <;> rfl

theorem buildMap_frame (s : State) : s.buildMap = { s with arb := s.buildMap.arb, mail := s.buildMap.mail } := by
  unfold State.buildMap
  rw [requestPass_eq]
  rfl

theorem owns_of_standing (h : Holding) (hres : h.reserved = 0) : h.owns = h.standing := by simp [Holding.owns, hres]

theorem committed_zero {x : Arbiter} (h : ∀ v, (x.tiers.get v).demand = 0) : x.committed = 0 := by
  unfold Arbiter.committed
  simp [h]

theorem inSetup_iff (s : State) : s.inSetup = true ↔ s.auth.mode = .setup := by simp [State.inSetup]
theorem inRun_iff (s : State) : s.inRun = true ↔ s.auth.mode = .run := by simp [State.inRun]

theorem runAnswer_answersBy (s : State) : AnswersBy Acts s s.runAnswer := by
  have same (st : Status) (body : List Byte) : AnswersBy Acts s (s, st, body) := .same (Inner.refl s).writes.toActs st body
  refine .ite (fun _ => same ..) fun hm => .ite (fun _ => same ..) fun _ => .ite (fun _ => same ..) fun hj => ?_
  rw [Bool.not_eq_true, Bool.not_eq_false', inSetup_iff] at hm
  have hnojog := (jogRuns_eq_false_iff s).mp (by simpa using hj)
  split
  · exact same ..
  · next hfind =>
    refine .taken ?_ rfl _
    have hholding (v : Tier) := buildMap_holding (s.modAuth fun x => { x with mode := .run }) v
    have hdemand (v : Tier) : (((s.modAuth fun x => { x with mode := .run }).buildMap).holding v).demand = 0 := by
      rw [hholding]
      split <;> rfl
    have hframe := buildMap_frame (s.modAuth fun x => { x with mode := .run })
    have hfloor : FloorSafe (((s.modAuth fun x => { x with mode := .run }).buildMap).raise (.mode .run)) := by
      refine ⟨fun t u hne => ?_, fun hr => ?_⟩
      · rw [State.raise_holding, State.raise_holding, hholding, hholding]
        split <;> split
        · next ht hu =>
          rw [owns_of_standing _ rfl, owns_of_standing _ rfl]
          exact standing_apart_of_no_finding hfind ht hu hne
        all_goals simp [Holding.owns, Holding.initial]
      · rw [hframe] at hr
        cases hr
    have hpower : PowerSafe (((s.modAuth fun x => { x with mode := .run }).buildMap).raise (.mode .run)) :=
      ⟨(committed_zero hdemand).le.trans (Nat.zero_le _), fun _ => committed_zero hdemand, fun v _ => hdemand v⟩
    refine ⟨⟨fun _ => hfloor, fun _ => hpower, fun _ => ?_, ?_, ?_, ?_, ?_⟩, ?_, ?_, ?_⟩
    · rw [hframe]
      refine ⟨fun hr => ?_, fun _ => hnojog, fun v w hv => ?_⟩
      · cases hr
      · rw [show (((({ (s.modAuth fun x => { x with mode := .run }) with arb := _, mail := _ } : State)).raise
          (.mode .run)).seq v).jog = none from hnojog v] at hv
        cases hv
    all_goals
      rw [hframe]
      first | exact id | exact fun _ => rfl | rfl

theorem setupAnswer_answersBy (s : State) : AnswersBy Acts s s.setupAnswer := by
  have same (st : Status) (body : List Byte) : AnswersBy Acts s (s, st, body) := .same (Inner.refl s).writes.toActs st body
  refine .ite (fun _ => same ..) fun _ => .ite (fun _ => same ..) fun hfree => .taken ?_ rfl _
  simp only [Bool.or_eq_true, Bool.not_eq_true', not_or, Bool.not_eq_false, Bool.not_eq_true] at hfree
  obtain ⟨⟨hwait, hactive⟩, -⟩ := hfree
  have hholding (v : Tier) : ((((s.modAuth fun x => { x with mode := .setup }).clearMap).raise (.mode .setup)).holding v) =
      (s.holding v).clear := by
    simp [State.holding, State.clearMap]
  refine ⟨⟨fun _ => ⟨fun t u _ => ?_, fun _ => ⟨fun t => ?_, rfl⟩⟩, fun _ => ?_, fun ⟨_, _, hone⟩ => ⟨fun _ => ⟨?_, fun u => ?_⟩, fun hr => ?_,
    hone⟩, id, id, id, id⟩, fun _ => rfl, fun _ => rfl, rfl⟩
  · rw [hholding, hholding]
    simp [Holding.clear, Holding.owns, Holding.initial]
  · rw [hholding]
    simp [Holding.clear, Holding.owns, Holding.initial]
  · have hdemand (v : Tier) : ((((s.modAuth fun x => { x with mode := .setup }).clearMap).raise
        (.mode .setup)).holding v).demand = 0 := by
      rw [hholding]
      rfl
    exact ⟨(committed_zero hdemand).le.trans (Nat.zero_le _), fun _ => committed_zero hdemand, fun v _ => hdemand v⟩
  · exact List.isEmpty_iff.mp hwait
  · have := List.any_eq_false.mp hactive u (Idx8.mem_all u)
    change (s.seq u).slot = none
    simpa using this
  · cases hr

end Sys2Proof.Machine

/-! SUPPORT. Every command keeps every invariant (O59, O60); the mode and the tables change by their own commands alone
(O23); every request is answered, and a refused one changes nothing (O24). -/

namespace Sys2Proof.Machine

open Sys2Proof

/-! ### Requests that act on the ports, or on every block -/

/-- Both ports, or one, have judged ATTN by the set latched now. -/
theorem attnSafe_judge {s : State} (p : Port) (hlow : s.held = true → s.latched = 0)
    (hother : ∀ r, r ≠ p → (s.port r).attn = ((s.latched &&& (s.port r).enabled) != 0)) : AttnSafe (s.judge p) := by
  refine ⟨hlow, fun r => ?_⟩
  unfold State.judge
  rw [State.modPort_port]
  split
  · rfl
  · exact hother r ‹_›

theorem judge_lists (s : State) (p : Port) : ListsSafe s → ListsSafe (s.judge p) := by
  refine fun h => ⟨h.1, h.2.1, h.2.2.1, fun r => ?_⟩
  unfold State.judge
  rw [State.modPort_port]
  split
  · exact h.2.2.2 p
  · exact h.2.2.2 r

theorem judge_sending (s : State) (p r : Port) : ((s.judge p).port r).sending = (s.port r).sending := by
  unfold State.judge
  rw [State.modPort_port]
  split
  · next e => rw [e]
  · rfl

theorem setNotices_writes (s : State) (p : Port) (e : EventSet) :
    Writes s ((s.modPort p fun x => { x with enabled := e }).judge p) := by
  refine ⟨⟨⟨id, id, id, id, id, fun h => judge_lists _ p ⟨h.1, h.2.1, h.2.2.1, fun r => ?_⟩, fun h =>
    attnSafe_judge p h.1 fun r hr => ?_⟩, fun r => ?_, fun _ => rfl, rfl⟩, rfl⟩
  · rw [State.modPort_port]
    split
    · exact h.2.2.2 p
    · exact h.2.2.2 r
  · rw [State.modPort_port, if_neg hr]
    exact h.2 r
  · rw [judge_sending, State.modPort_port]
    split
    · next e => rw [e]
    · rfl

theorem clearKinds_writes (s : State) (mask : BitVec 16) : Writes s (s.clearKinds mask) := by
  refine ⟨⟨⟨id, id, id, id, id, fun h => judge_lists _ _ (judge_lists _ _ h), fun h => ?_⟩, fun r => ?_, fun _ => rfl,
    rfl⟩, rfl⟩
  · refine attnSafe_judge .B (fun hh => ?_) fun r hr => ?_
    · change s.latched &&& ~~~(mask.setWidth 10) = 0
      rw [h.1 hh]
      simp
    · cases r
      · rfl
      · exact absurd rfl hr
  · exact (judge_sending _ _ _).trans (judge_sending _ _ _)

/-- RESTART leaves every invariant, whatever stood before (R179). -/
theorem State.restart_acts (s : State) : Acts s s.restart := by
  have hholding (v : Tier) : s.restart.holding v = { Holding.initial with stowed := (s.pair v).toldStowed } := by
    cases v <;> rfl
  have hseq (v : Tier) : (s.restart.seq v).slot = none ∧ (s.restart.seq v).jog = none := by cases v <;> exact ⟨rfl, rfl⟩
  have haxis (a : Axis) : (s.restart.axis a).speed = 0 := by
    obtain ⟨t, r⟩ := a
    cases t <;> cases r <;> rfl
  have hdemand (v : Tier) : (s.restart.holding v).demand = 0 := by rw [hholding]; rfl
  have howns (v : Tier) : (s.restart.holding v).owns = 0 := by rw [hholding]; simp [Holding.owns, Holding.initial]
  refine ⟨⟨fun _ => ⟨fun t u _ => ?_, fun _ => ⟨howns, rfl⟩⟩, fun _ => ?_, fun _ => ⟨fun _ => ⟨rfl, fun u => (hseq u).1⟩,
    fun h => (by cases h), fun t u h => ?_⟩, fun _ a => axisSafe_of_zero (haxis a), fun _ => ⟨fun _ => ?_, ?_⟩,
    fun h => ?_, fun _ => ?_⟩, fun p => ?_, fun _ => rfl, rfl⟩
  · rw [howns, howns]
    simp
  · exact ⟨(committed_zero hdemand).le.trans (Nat.zero_le _), fun _ => committed_zero hdemand, fun v _ => hdemand v⟩
  · rw [(hseq t).2] at h
    cases h
  · exact ⟨fun _ => rfl, fun _ => rfl⟩
  · exact ⟨fun h => (by cases h), fun h => (by rcases h with h | h | h <;> cases h)⟩
  · exact judge_lists _ _ (judge_lists _ _ ⟨Nat.zero_le _, Nat.zero_le _, Nat.zero_le _, h.2.2.2⟩)
  · refine attnSafe_judge .B (fun _ => rfl) fun r hr => ?_
    cases r
    · rfl
    · exact absurd rfl hr
  · exact (judge_sending _ _ _).trans (judge_sending _ _ _)

/-! ### Every request -/

/-- The requests that set the mode: SET_MODE and RESTART. -/
def setsMode : Instr → Bool
  | .setModeRun _ | .setModeSetup _ _ | .restart _ => true
  | _ => false

/-- What the answer of a request does to the state: it writes, and sets the mode if the request is one that does. -/
def ActsFor (c : Instr) (s t : State) : Prop := Acts s t ∧ (setsMode c = false → t.auth.mode = s.auth.mode)

theorem AnswersBy.actsFor {c : Instr} {s : State} {r : Answer} (h : AnswersBy Writes s r) : AnswersBy (ActsFor c) s r :=
  h.mono fun _ h => ⟨h.toActs, fun _ => h.mode⟩

theorem AnswersBy.inner {c : Instr} {s : State} {r : Answer} (h : AnswersBy Inner s r) : AnswersBy (ActsFor c) s r :=
  (h.mono fun _ h => h.writes).actsFor

theorem AnswersBy.mode {c : Instr} {s : State} {r : Answer} (h : AnswersBy Acts s r) (hc : setsMode c = true) :
    AnswersBy (ActsFor c) s r := h.mono fun _ h => ⟨h, fun e => absurd (hc.symm.trans e) (by decide)⟩

theorem acts_unchanged (s : State) (st : Status) (body : List Byte) : AnswersBy Acts s (s, st, body) :=
  .same (Inner.refl s).writes.toActs st body

/-- A request that port `q` is answered by one function, which acts as the request may and changes nothing where it
refuses. -/
def RequestActs (c : Instr) (q : Src) (k : Byte) : Prop :=
  ∃ f : State → Answer, (∀ s, exec c s = request c q k f s) ∧ ∀ s, AnswersBy (ActsFor c) s (f s)

theorem hallStatus_acts (q : Src) : RequestActs (.hallStatus q) q 0x01 :=
  ⟨_, fun _ => execHallStatus.eq_1 .., fun _ => (answersBy_unchanged ..).inner⟩

theorem readCells_acts (q : Src) : RequestActs (.readCells q) q 0x04 :=
  ⟨_, fun _ => execReadCells.eq_1 .., fun _ => (answersBy_unchanged ..).inner⟩

theorem readFault_acts (q : Src) : RequestActs (.readFault q) q 0x07 :=
  ⟨_, fun _ => execReadFault.eq_1 .., fun _ => (answersBy_unchanged ..).inner⟩

theorem tierStatus_acts (q : Src) (tier : Nat) : RequestActs (.tierStatus q tier) q 0x02 := by
  refine ⟨_, fun s => execTierStatus.eq_1 .., fun s => ?_⟩
  refine AnswersBy.inner ?_
  split <;> exact answersBy_unchanged ..

theorem moveStatus_acts (q : Src) (n : Nat) : RequestActs (.moveStatus q n) q 0x03 :=
  ⟨_, fun _ => execMoveStatus.eq_1 .., fun _ => (moveStatus_answersBy ..).inner⟩

theorem readTable_acts (q : Src) (selector first second : Nat) : RequestActs (.readTable q selector first second) q 0x05 :=
  ⟨_, fun _ => execReadTable.eq_1 .., fun _ => (tableAnswer_answersBy ..).inner⟩

theorem planStatus_acts (q : Src) (plan : Nat) : RequestActs (.planStatus q plan) q 0x06 :=
  ⟨_, fun _ => execPlanStatus.eq_1 .., fun _ => AnswersBy.inner (.ite (fun _ => answersBy_unchanged ..) fun _ => answersBy_unchanged ..)⟩

theorem takeAuthority_acts (q : Src) : RequestActs (.takeAuthority q) q 0x10 := by
  refine ⟨_, fun s => execTakeAuthority.eq_1 .., fun s => ?_⟩
  refine AnswersBy.inner ?_
  split
  · exact .taken ((Inner.refl s).setHolder _) rfl _
  · exact .ite (fun _ => answersBy_unchanged ..) fun _ => answersBy_unchanged ..

theorem forceAuthority_acts (q : Src) : RequestActs (.forceAuthority q) q 0x11 :=
  ⟨_, fun _ => execForceAuthority.eq_1 .., fun s => AnswersBy.inner (.ite (fun _ => answersBy_unchanged ..) fun _ => .ite (fun _ => answersBy_unchanged ..)
    fun _ => .taken ((Inner.refl s).setHolder _) rfl _)⟩

theorem giveAuthority_acts (q : Src) : RequestActs (.giveAuthority q) q 0x12 :=
  ⟨_, fun _ => execGiveAuthority.eq_1 .., fun s => AnswersBy.inner (.ite (fun _ => answersBy_unchanged ..) fun _ => .ite (fun _ => answersBy_unchanged ..)
    fun _ => .taken ((Inner.refl s).setHolder _) rfl _)⟩

theorem enable_acts (q : Src) : RequestActs (.enable q) q 0x13 :=
  ⟨_, fun _ => execEnable.eq_1 .., fun s => AnswersBy.inner (.ite (fun _ => answersBy_unchanged ..) fun _ => .taken (Inner.refl s).enableTimer rfl _)⟩

theorem setModeRun_acts (q : Src) : RequestActs (.setModeRun q) q 0x14 :=
  ⟨_, fun _ => execSetModeRun.eq_1 .., fun s => AnswersBy.mode (.ite (fun _ => runAnswer_answersBy s) fun _ => acts_unchanged ..) rfl⟩

theorem setModeSetup_acts (q : Src) (mode : Nat) : RequestActs (.setModeSetup q mode) q 0x14 := by
  refine ⟨_, fun s => execSetModeSetup.eq_1 .., fun s => ?_⟩
  refine AnswersBy.mode (.ite (fun _ => acts_unchanged ..) fun _ => ?_) rfl
  split
  · exact setupAnswer_answersBy s
  · exact runAnswer_answersBy s
  · exact acts_unchanged ..

theorem restart_acts (q : Src) : RequestActs (.restart q) q 0x15 :=
  ⟨_, fun _ => execRestart.eq_1 .., fun s => AnswersBy.mode (.ite (fun _ => acts_unchanged ..) fun _ => .ite (fun _ => acts_unchanged ..) fun _ =>
    .taken s.restart_acts rfl _) rfl⟩

theorem hold_acts (q : Src) : RequestActs (.hold q) q 0x18 :=
  ⟨_, fun _ => execHold.eq_1 .., fun s => AnswersBy.inner (.taken ((Inner.refl s).takeCause _) rfl _)⟩

theorem stop_acts (q : Src) : RequestActs (.stop q) q 0x1A :=
  ⟨_, fun _ => execStop.eq_1 .., fun s => AnswersBy.inner (.taken ((Inner.refl s).takeCause _) rfl _)⟩

theorem resume_acts (q : Src) : RequestActs (.resume q) q 0x19 := by
  refine ⟨_, fun s => execResume.eq_1 .., fun s => ?_⟩
  refine AnswersBy.inner (.ite (fun _ => answersBy_unchanged ..) fun _ => ?_)
  split
  · exact .taken ((Inner.refl s).resumeHall ‹_›) rfl _
  all_goals exact answersBy_unchanged ..

theorem resetFaultHall_acts (q : Src) : RequestActs (.resetFaultHall q) q 0x1B :=
  ⟨_, fun _ => execResetFaultHall.eq_1 .., fun s => AnswersBy.inner (.ite (fun _ => resetHall_answersBy s) fun _ => answersBy_unchanged ..)⟩

theorem resetFaultTier_acts (q : Src) (tier : Nat) : RequestActs (.resetFaultTier q tier) q 0x1B := by
  refine ⟨_, fun s => execResetFaultTier.eq_1 .., fun s => ?_⟩
  refine AnswersBy.inner (.ite (fun _ => answersBy_unchanged ..) fun _ => ?_)
  split
  · exact answersBy_unchanged ..
  · exact resetTier_answersBy ..

theorem move_acts (q : Src) (tier kind target cls hostTag : Nat) : RequestActs (.move q tier kind target cls hostTag) q 0x20 :=
  ⟨_, fun _ => execMove.eq_1 .., fun _ => (moveAnswer_answersBy ..).inner⟩

theorem cancel_acts (q : Src) (n : Nat) : RequestActs (.cancel q n) q 0x21 :=
  ⟨_, fun _ => execCancel.eq_1 .., fun _ => (cancelAnswer_answersBy ..).inner⟩

theorem jog_acts (q : Src) (tier target dir : Nat) : RequestActs (.jog q tier target dir) q 0x22 :=
  ⟨_, fun _ => execJog.eq_1 .., fun _ => (jogAnswer_answersBy ..).inner⟩

theorem jogStop_acts (q : Src) : RequestActs (.jogStop q) q 0x23 := by
  refine ⟨_, fun s => execJogStop.eq_1 .., fun s => ?_⟩
  refine AnswersBy.inner ?_
  split
  · next u _ => exact .taken ((Inner.refl s).seqActs ((SeqActs.refl u s).haltJog _).seqReport) rfl _
  · exact answersBy_unchanged ..

theorem setHall_acts (q : Src) (w : HallRec) : RequestActs (.setHall q w) q 0x28 :=
  ⟨_, fun _ => execSetHall.eq_1 .., fun s => (writeGuard_answersBy s _ _ fun hm =>
    .taken (writes_hall s hm _) (writeStatus_not_refusal _) _).actsFor⟩

theorem setTier_acts (q : Src) (tier : Nat) (w : TierWrite) : RequestActs (.setTier q tier w) q 0x29 := by
  refine ⟨_, fun s => execSetTier.eq_1 .., fun s => ?_⟩
  refine (writeGuard_answersBy s _ _ fun hm => ?_).actsFor
  split
  · exact answersBy_written ..
  · exact .ite (fun _ => answersBy_written ..) fun _ => .ite (fun _ => answersBy_written ..) fun _ =>
      .taken (storeTier_writes s hm _ _) (writeStatus_not_refusal _) _

theorem setAxis_acts (q : Src) (axis : Nat) (w : AxisRec) : RequestActs (.setAxis q axis w) q 0x2A := by
  refine ⟨_, fun s => execSetAxis.eq_1 .., fun s => ?_⟩
  refine (writeGuard_answersBy s _ _ fun hm => ?_).actsFor
  split
  · exact answersBy_written ..
  · exact .ite (fun _ => answersBy_written ..) fun _ =>
      .taken (storeAxis_writes s hm _ _) (writeStatus_not_refusal _) _

theorem setBand_acts (q : Src) (tier band : Nat) (cells : List Nat) : RequestActs (.setBand q tier band cells) q 0x2B := by
  refine ⟨_, fun s => execSetBand.eq_1 .., fun s => ?_⟩
  refine (writeGuard_answersBy s _ _ fun hm => ?_).actsFor
  split
  · exact answersBy_written ..
  · exact .ite (fun _ => answersBy_written ..) fun _ => .ite (fun _ => answersBy_written ..) fun _ =>
      .taken (writes_modTables s hm _ rfl) rfl _

theorem setStation_acts (q : Src) (tier station form : Nat) (angle : Int) : RequestActs (.setStation q tier station form angle) q 0x2C := by
  refine ⟨_, fun s => execSetStation.eq_1 .., fun s => ?_⟩
  refine (writeGuard_answersBy s _ _ fun hm => ?_).actsFor
  split
  · exact .ite (fun _ => answersBy_written ..) fun _ => .ite (fun _ => answersBy_written ..) fun _ =>
      .taken (storeStation_writes s hm _ _ _) rfl _
  · exact teachHere_answersBy s hm _ _
  · exact .ite (fun _ => answersBy_written ..) fun _ => .taken (storeStation_writes s hm _ _ _) rfl _
  · exact answersBy_written ..

theorem setStationHere_acts (q : Src) (tier station : Nat) : RequestActs (.setStationHere q tier station) q 0x2C :=
  ⟨_, fun _ => execSetStationHere.eq_1 .., fun s => (writeGuard_answersBy s _ _ fun hm => teachHere_answersBy s hm _ _).actsFor⟩

theorem setPosition_acts (q : Src) (axis : Nat) (value : Int) : RequestActs (.setPosition q axis value) q 0x2D := by
  refine ⟨_, fun s => execSetPosition.eq_1 .., fun s => ?_⟩
  refine (writeGuard_answersBy s _ _ fun hm => ?_).actsFor
  split
  · exact answersBy_written ..
  · refine .ite (fun _ => answersBy_written ..) fun _ => ?_
    split
    · exact teachPosition_answersBy s hm _ _ _
    · exact answersBy_written ..

theorem tare_acts (q : Src) (tier : Nat) : RequestActs (.tare q tier) q 0x2E :=
  ⟨_, fun _ => execTare.eq_1 .., fun _ => (tareAnswer_answersBy ..).inner⟩

theorem planWrite_acts (q : Src) (plan : Nat) (steps : List RawStep) : RequestActs (.planWrite q plan steps) q 0x30 := by
  refine ⟨_, fun s => execPlanWrite.eq_1 .., fun s => ?_⟩
  refine AnswersBy.inner (.ite (fun _ => answersBy_unchanged ..) fun _ => ?_)
  split
  · exact .ite (fun _ => answersBy_unchanged ..) fun _ => .ite (fun _ => answersBy_unchanged ..) fun _ =>
      .taken ((Inner.refl s).modPlans _) rfl _
  · exact answersBy_unchanged ..

theorem planClear_acts (q : Src) (plan : Nat) : RequestActs (.planClear q plan) q 0x31 := by
  refine ⟨_, fun s => execPlanClear.eq_1 .., fun s => ?_⟩
  refine AnswersBy.inner (.ite (fun _ => answersBy_unchanged ..) fun _ => ?_)
  split
  · exact .ite (fun _ => answersBy_unchanged ..) fun _ => .taken ((Inner.refl s).modPlans _) rfl _
  · exact answersBy_unchanged ..

theorem planStart_acts (q : Src) (plan : Nat) : RequestActs (.planStart q plan) q 0x32 :=
  ⟨_, fun _ => execPlanStart.eq_1 .., fun _ => (planStartAnswer_answersBy ..).inner⟩

theorem planAbort_acts (q : Src) : RequestActs (.planAbort q) q 0x33 :=
  ⟨_, fun _ => execPlanAbort.eq_1 .., fun _ => (planAbortAnswer_answersBy ..).inner⟩

theorem setNotices_acts (q : Src) (mask : BitVec 16) : RequestActs (.setNotices q mask) q 0x38 :=
  ⟨_, fun _ => execSetNotices.eq_1 .., fun s => AnswersBy.actsFor (.ite (fun _ => answersBy_written ..) fun _ =>
    .taken (setNotices_writes s _ _) rfl _)⟩

theorem clearEvents_acts (q : Src) (mask : BitVec 16) : RequestActs (.clearEvents q mask) q 0x39 :=
  ⟨_, fun _ => execClearEvents.eq_1 .., fun s => AnswersBy.actsFor (.ite (fun _ => answersBy_written ..) fun _ => .taken (clearKinds_writes s _) rfl _)⟩

/-- Every request is answered by its owner: each owner acts as its request may, and changes nothing where it refuses. -/
theorem request_acts {c : Instr} {q : Src} {k : Byte} (hq : requestSrc c = some q) (hk : requestKind c = some k) :
    RequestActs c q k := by
  cases c <;> try (cases hq; done)
  all_goals
    obtain rfl := Option.some.inj hq
    obtain rfl := Option.some.inj hk
  case hallStatus => exact hallStatus_acts ..
  case readCells => exact readCells_acts ..
  case readFault => exact readFault_acts ..
  case tierStatus => exact tierStatus_acts ..
  case moveStatus => exact moveStatus_acts ..
  case readTable => exact readTable_acts ..
  case planStatus => exact planStatus_acts ..
  case takeAuthority => exact takeAuthority_acts ..
  case forceAuthority => exact forceAuthority_acts ..
  case giveAuthority => exact giveAuthority_acts ..
  case enable => exact enable_acts ..
  case setModeRun => exact setModeRun_acts ..
  case setModeSetup => exact setModeSetup_acts ..
  case restart => exact restart_acts ..
  case hold => exact hold_acts ..
  case stop => exact stop_acts ..
  case resume => exact resume_acts ..
  case resetFaultHall => exact resetFaultHall_acts ..
  case resetFaultTier => exact resetFaultTier_acts ..
  case move => exact move_acts ..
  case cancel => exact cancel_acts ..
  case jog => exact jog_acts ..
  case jogStop => exact jogStop_acts ..
  case setHall => exact setHall_acts ..
  case setTier => exact setTier_acts ..
  case setAxis => exact setAxis_acts ..
  case setBand => exact setBand_acts ..
  case setStation => exact setStation_acts ..
  case setStationHere => exact setStationHere_acts ..
  case setPosition => exact setPosition_acts ..
  case tare => exact tare_acts ..
  case planWrite => exact planWrite_acts ..
  case planClear => exact planClear_acts ..
  case planStart => exact planStart_acts ..
  case planAbort => exact planAbort_acts ..
  case setNotices => exact setNotices_acts ..
  case clearEvents => exact clearEvents_acts ..

end Sys2Proof.Machine

/-! SUPPORT. Every command keeps every invariant (O58 to O60); the mode and the tables change by their own commands alone
(O23); every request is answered, and a refused one changes nothing (O24). -/

namespace Sys2Proof.Machine

open Sys2Proof

/-! ### The event latch -/

/-- Pumping a port leaves its ATTN line, its enable set and its input queue, and takes a notice at most. -/
theorem pump_kept (x : LinkPort) : x.pump.attn = x.attn ∧ x.pump.enabled = x.enabled ∧ x.pump.input = x.input ∧
    x.pump.notices.length ≤ x.notices.length := by
  unfold LinkPort.pump
  split
  · exact ⟨rfl, rfl, rfl, le_rfl⟩
  · exact ⟨rfl, rfl, rfl, le_rfl⟩
  · next hn => exact ⟨rfl, rfl, rfl, by simp [hn]⟩
  · exact ⟨rfl, rfl, rfl, le_rfl⟩

theorem notify_kept (x : LinkPort) (k : EventKind) (f : Frame) : (x.notify k f).attn = x.attn ∧
    (x.notify k f).enabled = x.enabled ∧ (x.notify k f).input = x.input ∧
    (x.notices.length ≤ 8 → (x.notify k f).notices.length ≤ 8) := by
  unfold LinkPort.notify
  split
  · next h =>
    rw [Bool.and_eq_true] at h
    exact ⟨rfl, rfl, rfl, fun _ => by
      rw [List.length_append]
      exact of_decide_eq_true h.2⟩
  · exact ⟨rfl, rfl, rfl, id⟩

/-- A port with its ATTN line judged by a latched set. -/
def LinkPort.judgedBy (x : LinkPort) (latched : EventSet) : LinkPort := { x with attn := (latched &&& x.enabled) != 0 }

/-- What the latch makes of a port: the notice joins its queue, ATTN is judged, and the transmitter is pumped. -/
def LinkPort.latches (x : LinkPort) (latched : EventSet) (k : EventKind) (f : Frame) : LinkPort :=
  ((x.notify k f).judgedBy latched).pump

/-- The latch handing a notice to one port and judging its ATTN line. -/
def State.handNotice (s : State) (p : Port) (k : EventKind) (f : Frame) : State :=
  ((s.modPort p fun x => x.notify k f).judge p).serve p

theorem handNotice_eq (s : State) (p : Port) (k : EventKind) (f : Frame) :
    s.handNotice p k f = (s.modPort p fun x => x.latches s.latched k f).kick p := by
  unfold State.handNotice State.serve State.judge LinkPort.latches LinkPort.judgedBy
  simp only [State.modPort, Both.port_setPort_self, Both.setPort_setPort]

theorem latch_eq (s : State) (e : Event) :
    s.latch e = ({ s with latched := s.latched ||| eventSet (eventKind e) }.handNotice .A (eventKind e)
      (noticeOf s e)).handNotice .B (eventKind e) (noticeOf s e) := rfl

/-- The latch taking an event: its kind is latched, each port takes the notice by itself, and nothing else changes but the
reports in flight. -/
theorem latch_frame (s : State) (e : Event) :
    (s.latch e).latched = s.latched ||| eventSet (eventKind e) ∧
      (∀ p, (s.latch e).port p =
        (s.port p).latches (s.latched ||| eventSet (eventKind e)) (eventKind e) (noticeOf s e)) ∧
      s.latch e = { s with latched := (s.latch e).latched, ports := (s.latch e).ports, mail := (s.latch e).mail } := by
  have kick (x : State) (p : Port) :
      (x.kick p).latched = x.latched ∧ (x.kick p).ports = x.ports ∧ x.kick p = { x with mail := (x.kick p).mail } := by
    rcases kick_eq x p with e | e <;> rw [e] <;> exact ⟨rfl, rfl, rfl⟩
  rw [latch_eq, handNotice_eq, handNotice_eq]
  generalize hx : ({ s with latched := s.latched ||| eventSet (eventKind e) } : State) = x
  obtain ⟨al, ap, af⟩ := kick (x.modPort .A fun y => y.latches x.latched (eventKind e) (noticeOf s e)) .A
  generalize (x.modPort .A fun y => y.latches x.latched (eventKind e) (noticeOf s e)).kick .A = y at al ap af ⊢
  obtain ⟨bl, bp, bf⟩ := kick (y.modPort .B fun z => z.latches y.latched (eventKind e) (noticeOf s e)) .B
  generalize (y.modPort .B fun z => z.latches y.latched (eventKind e) (noticeOf s e)).kick .B = z at bl bp bf ⊢
  subst hx
  refine ⟨bl.trans al, fun p => ?_, ?_⟩
  · unfold State.port at *
    rw [bp, State.modPort_ports, al, State.port, ap, State.modPort_ports]
    cases p <;> rfl
  · rw [bf]
    simp only [State.modPort] at bp ⊢
    rw [af]
    rfl

theorem latch_steady (s : State) (e : Event) (hs : s.held = false) : Steady s (s.latch e) := by
  obtain ⟨hl, hp, hf⟩ := latch_frame s e
  have hport (p : Port) : ((s.latch e).port p).input = (s.port p).input ∧
      ((s.port p).notices.length ≤ 8 → ((s.latch e).port p).notices.length ≤ 8) := by
    rw [hp]
    obtain ⟨-, -, hin, hnote⟩ := notify_kept (s.port p) (eventKind e) (noticeOf s e)
    obtain ⟨-, -, pin, pnote⟩ := pump_kept (((s.port p).notify (eventKind e) (noticeOf s e)).judgedBy
      (s.latched ||| eventSet (eventKind e)))
    exact ⟨pin.trans hin, fun h => pnote.trans (hnote h)⟩
  have hattn (p : Port) : ((s.latch e).port p).attn =
      (((s.latch e).latched &&& ((s.latch e).port p).enabled) != 0) := by
    rw [hp, hl]
    unfold LinkPort.latches
    obtain ⟨hattn, hen, -⟩ := pump_kept (((s.port p).notify (eventKind e) (noticeOf s e)).judgedBy
      (s.latched ||| eventSet (eventKind e)))
    rw [hattn, hen]
    rfl
  generalize s.latch e = t at hf hport hattn
  rw [hf]
  refine ⟨⟨id, id, id, id, id, fun h => ⟨h.1, h.2.1, h.2.2.1, fun p => ⟨?_, ?_⟩⟩, fun _ => ⟨fun hh => ?_, hattn⟩⟩,
    rfl, rfl, rfl⟩
  · exact (hport p).1 ▸ (h.2.2.2 p).1
  · exact (hport p).2 (h.2.2.2 p).2
  · exact absurd (hs.symm.trans hh) (by decide)

/-! ### Commands that act while RESET_N is high -/

theorem Inner.dropEnding {s t : State} (h : Inner s t) (u : Tier) (n : Nat) : Inner s (t.dropEnding u n) :=
  h.modSeq u (fun q => { q with ending := q.ending.filter fun e => e.move.number != n }) rfl rfl

theorem Inner.taken (s : State) (c : Instr) : Inner s (s.taken c) := .of_unread s ..

/-- A command that changes every block steadily, and does nothing while RESET_N is low but to be taken. -/
def ActsSteadily (c : Instr) : Prop := ∃ f, (∀ s, exec c s = live c f s) ∧ ∀ s, s.held = false → Steady s (f s)

theorem ActsSteadily.of_inner {c : Instr} {f : State → State} (he : ∀ s, exec c s = live c f s)
    (hf : ∀ s, Inner s (f s)) : ActsSteadily c := ⟨f, he, fun s _ => (hf s).toSteady⟩

theorem ActsSteadily.steady {c : Instr} (h : ActsSteadily c) {s t : State} (he : exec c s = .next t) : Steady s t := by
  obtain ⟨f, hc, hf⟩ := h
  rw [hc] at he
  by_cases hs : s.held = true
  · rw [live_of_held _ _ hs] at he
    obtain rfl := Host.Outcome.next.inj he
    exact (Inner.taken s c).toSteady
  · have hs : s.held = false := by simpa using hs
    rw [live_of_not_held _ _ hs] at he
    obtain rfl := Host.Outcome.next.inj he
    exact (Inner.taken s c).toSteady.trans (hf _ hs)

/-! ### Commands of the blocks inside the part -/

theorem motionReport_steadily (t : Tier) (moving : Bool) : ActsSteadily (.motionReport t moving) :=
  .of_inner (fun _ => execMotionReport.eq_1 ..) fun s => (Inner.refl s).takeMotion ..

theorem enableExpiry_steadily : ActsSteadily (.enableExpiry) :=
  .of_inner (fun _ => execEnableExpiry.eq_1 ..) fun s => by
    split
    · exact .ite (fun _ => (Inner.refl s).lapse) fun _ => .refl s
    all_goals exact .refl s

theorem escalationExpiry_steadily : ActsSteadily (.escalationExpiry) :=
  .of_inner (fun _ => execEscalationExpiry.eq_1 ..) fun s => by
    split
    · exact .ite (fun _ => (Inner.refl s).escalate) fun _ => .refl s
    all_goals exact .refl s

theorem moveEndReport_steadily (e : MoveEnd) : ActsSteadily (.moveEndReport e) :=
  .of_inner (fun _ => execMoveEndReport.eq_1 ..) fun s => ((Inner.refl s).dropEnding ..).recordEnd e

theorem emptyPendingList_steadily (r : Reason) : ActsSteadily (.emptyPendingList r) :=
  .of_inner (fun _ => execEmptyPendingList.eq_1 ..) fun s => ((Inner.refl s).modMan (fun m => { m with emptying := false }) (.of_same rfl rfl rfl id)).forEach _
      fun m _ hx => hx.endPending m .cancelled r

theorem axisUpdate_steadily (a : Axis) (e : EncoderRead) : ActsSteadily (.axisUpdate a e) :=
  .of_inner (fun _ => execAxisUpdate.eq_1 ..) fun s => (Inner.refl s).updateAxis a e

theorem brakeReleaseOrder_steadily (a : Axis) (v : Served) : ActsSteadily (.brakeReleaseOrder a v) :=
  .of_inner (fun _ => execBrakeReleaseOrder.eq_1 ..) fun s => (Inner.refl s).releaseAxis a v

theorem travelOrder_steadily (t : Tier) (x : Int) (c : SpeedClass) : ActsSteadily (.travelOrder t x c) :=
  .of_inner (fun _ => execTravelOrder.eq_1 ..) fun s => (Inner.refl s).travelAxis t x c

theorem stopOrder_steadily (t : Tier) (r : StopRate) : ActsSteadily (.stopOrder t r) :=
  .of_inner (fun _ => execStopOrder.eq_1 ..) fun s => (Inner.refl s).stopAxis t r

theorem brakeApplyOrder_steadily (a : Axis) : ActsSteadily (.brakeApplyOrder a) :=
  .of_inner (fun _ => execBrakeApplyOrder.eq_1 ..) fun s => (Inner.refl s).applyAxis a

theorem axisTripOrder_steadily (a : Axis) : ActsSteadily (.axisTripOrder a) :=
  .of_inner (fun _ => execAxisTripOrder.eq_1 ..) fun s => (Inner.refl s).tripAxis a

theorem contactorReport_steadily (a : Axis) (b : Bool) : ActsSteadily (.contactorReport a b) :=
  .of_inner (fun _ => execContactorReport.eq_1 ..) fun s => (Inner.refl s).contactorAt a b

theorem grantPass_steadily : ActsSteadily (.grantPass) :=
  .of_inner (fun _ => execGrantPass.eq_1 ..) fun s => .ite (fun _ => (Inner.refl s).runPass) fun _ => .refl s

theorem bandReleaseReport_steadily (t : Tier) (v : Served) (x : Int) : ActsSteadily (.bandReleaseReport t v x) :=
  .of_inner (fun _ => execBandReleaseReport.eq_1 ..) fun s => by
    split
    · exact .ite (fun _ => (Inner.refl s).releaseBands ..) fun _ => .refl s
    · exact .refl s

theorem stowedChangeReport_steadily (t : Tier) (b : Bool) : ActsSteadily (.stowedChangeReport t b) :=
  .of_inner (fun _ => execStowedChangeReport.eq_1 ..) fun s => (Inner.refl s).stowedAtArbiter t b

theorem moveEndAtArbiter_steadily (t : Tier) (o : MoveOutcome) (b : Bool) (x : Int) : ActsSteadily (.moveEndAtArbiter t o b x) :=
  .of_inner (fun _ => execMoveEndAtArbiter.eq_1 ..) fun s => (Inner.refl s).settleEndOfMove t o b x

theorem arbiterTripReport_steadily : ActsSteadily (.arbiterTripReport) :=
  .of_inner (fun _ => execArbiterTripReport.eq_1 ..) fun s => (Inner.refl s).tripArbiter

theorem pollSlot_steadily : ActsSteadily (.pollSlot) :=
  .of_inner (fun _ => execPollSlot.eq_1 ..) fun s => (Inner.refl s).beginSlot

theorem pollEnd_steadily (r : PollResult) : ActsSteadily (.pollEnd r) :=
  .of_inner (fun _ => execPollEnd.eq_1 ..) fun s => by
    split
    · exact ((Inner.refl s).modMon _).updateCell ..
    · exact (Inner.refl s).modMon _
    all_goals exact .refl s

theorem busHeldLow_steadily : ActsSteadily (.busHeldLow) :=
  .of_inner (fun _ => execBusHeldLow.eq_1 ..) fun s => by
    split
    · exact (((Inner.refl s).modMon _).modMon _).updateCell ..
    · exact ((Inner.refl s).modMon _).modMon _
    all_goals exact .refl s

theorem busRecoveryEnd_steadily (b : Bool) : ActsSteadily (.busRecoveryEnd b) :=
  .of_inner (fun _ => execBusRecoveryEnd.eq_1 ..) fun s => by
    split
    · exact ((Inner.refl s).modMon _).modMon _
    all_goals exact .refl s

theorem travelMarkReport_steadily (t : Tier) (n : Option Nat) : ActsSteadily (.travelMarkReport t n) :=
  .of_inner (fun _ => execTravelMarkReport.eq_1 ..) fun s => by
    split
    · exact ((Inner.refl s).modLoad ..).checkOverload t
    · exact (Inner.refl s).modLoad ..

theorem pairUpdate_steadily (t : Tier) : ActsSteadily (.pairUpdate t) :=
  .of_inner (fun _ => execPairUpdate.eq_1 ..) fun s => (Inner.refl s).updatePair t

theorem pairReleaseOrder_steadily (t : Tier) (v : Served) : ActsSteadily (.pairReleaseOrder t v) :=
  .of_inner (fun _ => execPairReleaseOrder.eq_1 ..) fun s => (Inner.refl s).releasePair t v

theorem pairTravelOrder_steadily (t : Tier) (x : Int) (c : SpeedClass) : ActsSteadily (.pairTravelOrder t x c) :=
  .of_inner (fun _ => execPairTravelOrder.eq_1 ..) fun s => (Inner.refl s).travelPair t x c

theorem pairStopOrder_steadily (t : Tier) (r : StopRate) : ActsSteadily (.pairStopOrder t r) :=
  .of_inner (fun _ => execPairStopOrder.eq_1 ..) fun s => (Inner.refl s).stopPair t r

theorem pairApplyOrder_steadily (t : Tier) : ActsSteadily (.pairApplyOrder t) :=
  .of_inner (fun _ => execPairApplyOrder.eq_1 ..) fun s => (Inner.refl s).applyPair t

theorem pairTripOrder_steadily (t : Tier) : ActsSteadily (.pairTripOrder t) :=
  .of_inner (fun _ => execPairTripOrder.eq_1 ..) fun s => (Inner.refl s).tripPair t

theorem pairLiftComplete_steadily (t : Tier) : ActsSteadily (.pairLiftComplete t) :=
  .of_inner (fun _ => execPairLiftComplete.eq_1 ..) fun s => (Inner.refl s).seqActs (((SeqActs.refl t s).liftDone false).seqReport)

theorem pairSetComplete_steadily (t : Tier) : ActsSteadily (.pairSetComplete t) :=
  .of_inner (fun _ => execPairSetComplete.eq_1 ..) fun s => (Inner.refl s).seqActs (((SeqActs.refl t s).setDone false).seqReport)

theorem liftComplete_steadily (t : Tier) : ActsSteadily (.liftComplete t) :=
  .of_inner (fun _ => execLiftComplete.eq_1 ..) fun s => (Inner.refl s).seqActs (((SeqActs.refl t s).liftDone true).seqReport)

theorem setComplete_steadily (t : Tier) : ActsSteadily (.setComplete t) :=
  .of_inner (fun _ => execSetComplete.eq_1 ..) fun s => (Inner.refl s).seqActs (((SeqActs.refl t s).setDone true).seqReport)

theorem jackPositionReport_steadily (t : Tier) (j : Jack) (x : Int) (b : Bool) : ActsSteadily (.jackPositionReport t j x b) :=
  .of_inner (fun _ => execJackPositionReport.eq_1 ..) fun s => (Inner.refl s).jackReported ..

theorem settleEnd_steadily (a : Axis) : ActsSteadily (.settleEnd a) :=
  .of_inner (fun _ => execSettleEnd.eq_1 ..) fun s => by
    split
    · exact (Inner.refl s).seqActs (SeqActs.refl a.tier s).seqSettleEnd.seqReport
    all_goals exact (Inner.refl s).jackSettled ..

theorem settleTimeout_steadily (a : Axis) : ActsSteadily (.settleTimeout a) :=
  .of_inner (fun _ => execSettleTimeout.eq_1 ..) fun s => by
    split
    · exact (Inner.refl s).seqActs (SeqActs.refl a.tier s).seqSettleTimeout.seqReport
    all_goals exact (Inner.refl s).jackTimedOut ..

theorem stepEnd_steadily (n : Nat) (o : MoveOutcome) (r : Reason) : ActsSteadily (.stepEnd n o r) :=
  .of_inner (fun _ => execStepEnd.eq_1 ..) fun s => (Inner.refl s).takeStepEnd n o r

theorem freedEntry_steadily : ActsSteadily (.freedEntry) :=
  .of_inner (fun _ => execFreedEntry.eq_1 ..) fun s => by
    split
    · exact .ite (fun _ => (Inner.refl s).retrySteps) fun _ => .refl s
    · exact .refl s

theorem planHoldOrder_steadily : ActsSteadily (.planHoldOrder) :=
  .of_inner (fun _ => execPlanHoldOrder.eq_1 ..) fun s => .ite (fun _ => ((Inner.refl s).modPlans _).raisePlan _) fun _ => .refl s

theorem planResumeOrder_steadily : ActsSteadily (.planResumeOrder) :=
  .of_inner (fun _ => execPlanResumeOrder.eq_1 ..) fun s => .ite (fun _ => (((Inner.refl s).modPlans _).raisePlan _).retrySteps) fun _ => .refl s

theorem planStopOrder_steadily (r : Reason) : ActsSteadily (.planStopOrder r) :=
  .of_inner (fun _ => execPlanStopOrder.eq_1 ..) fun s => (Inner.refl s).stopPlan r

theorem causeReport_steadily (c : Cause) : ActsSteadily (.causeReport c) :=
  .of_inner (fun _ => execCauseReport.eq_1 ..) fun s => (Inner.refl s).takeCause c

theorem tierCauseReport_steadily (t : Tier) (k : TierCause) (n : Option Nat) : ActsSteadily (.tierCauseReport t k n) :=
  .of_inner (fun _ => execTierCauseReport.eq_1 ..) fun s => (Inner.refl s).recordTierCause t k

theorem brakedReport_steadily (t : Tier) (b : Bool) : ActsSteadily (.brakedReport t b) :=
  .of_inner (fun _ => execBrakedReport.eq_1 ..) fun s => ((Inner.refl s).modMan (fun m => { m with braked := m.braked.set t b })
      (.of_same rfl rfl rfl id)).settleStop

theorem repoweringTimeout_steadily : ActsSteadily (.repoweringTimeout) :=
  .of_inner (fun _ => execRepoweringTimeout.eq_1 ..) fun s => .ite (fun h => (Inner.refl s).repowerFailed h.1) fun _ => .refl s

theorem lockTimerExpiry_steadily (t : Tier) : ActsSteadily (.lockTimerExpiry t) :=
  .of_inner (fun _ => execLockTimerExpiry.eq_1 ..) fun s => .ite (fun _ => (Inner.refl s).seqActs (SeqActs.refl t s).lockTimedOut.seqReport) fun _ => .refl s

theorem holdOrder_steadily (t : Tier) : ActsSteadily (.holdOrder t) :=
  .of_inner (fun _ => execHoldOrder.eq_1 ..) fun s => (Inner.refl s).seqActs (((SeqActs.refl t s).holdMove.haltJog _).seqReport)

theorem quickStopOrder_steadily (t : Tier) : ActsSteadily (.quickStopOrder t) :=
  .of_inner (fun _ => execQuickStopOrder.eq_1 ..) fun s => (Inner.refl s).seqActs (((SeqActs.refl t s).quickMove.haltJog _).seqReport)

theorem tripOrder_steadily (t : Tier) : ActsSteadily (.tripOrder t) :=
  .of_inner (fun _ => execTripOrder.eq_1 ..) fun s => (Inner.refl s).seqActs ((SeqActs.refl t s).tripTier.seqReport)

theorem resumeOrder_steadily (t : Tier) : ActsSteadily (.resumeOrder t) :=
  .of_inner (fun _ => execResumeOrder.eq_1 ..) fun s => (Inner.refl s).seqActs (((SeqActs.refl t s).modActive Active.markResumed).resumeMove.seqReport)

/-! ### Commands of the link ports and the latch -/

theorem byteReceived_steadily (p : Port) (b : Byte) (e : Bool) : ActsSteadily (.byteReceived p b e) := by
  refine ⟨_, fun _ => execByteReceived.eq_1 .., fun s _ => ?_⟩
  split
  · exact (Steady.refl s).modPort p _ rfl rfl id id
  · exact ((Steady.refl s).receive p _ _).kick p

theorem gapTimerExpiry_steadily (p : Port) : ActsSteadily (.gapTimerExpiry p) := by
  refine ⟨_, fun _ => execGapTimerExpiry.eq_1 .., fun s _ => ?_⟩
  split
  · exact (Steady.refl s).gapExpired p
  · exact .refl s

theorem frameDispatch_steadily (p : Port) : ActsSteadily (.frameDispatch p) := by
  refine ⟨_, fun _ => execFrameDispatch.eq_1 .., fun s _ => ?_⟩
  split
  · exact .refl s
  · next f rest h =>
    split
    · have hin : Steady s (s.modPort p fun x => { x with input := rest }) :=
        (Steady.refl s).modPort p _ rfl rfl (fun hl => by rw [h, List.length_cons] at hl; exact Nat.le_of_succ_le hl) id
      dsimp only
      split
      · exact hin.putReply ..
      · exact hin.putReply ..
      · exact hin.trans ((Inner.refl _).emit _).toSteady
    · exact .refl s

theorem transmitDone_steadily (p : Port) : ActsSteadily (.transmitDone p) :=
  ⟨_, fun _ => execTransmitDone.eq_1 .., fun s _ => ((Steady.refl s).modPort p _ rfl rfl id id).serve p⟩

theorem latchEvent_steadily (e : Event) : ActsSteadily (.latchEvent e) :=
  ⟨_, fun _ => execLatchEvent.eq_1 .., fun s hs => latch_steady s e hs⟩

/-! ### Field inputs -/

/-- A field input's change: with RESET_N low its level is kept, with RESET_N high its block acts. -/
theorem inputChange_steady {c : Instr} {g f : State → State} {s t : State} (ht : exec c s = .next t)
    (he : exec c s = inputChange c g f s) (hg : ∀ s, Inner s (g s)) (hf : ∀ s, Inner s (f s)) : Steady s t := by
  rw [he] at ht
  by_cases hs : s.held = true
  · rw [inputChange_of_held _ _ _ hs] at ht
    obtain rfl := Host.Outcome.next.inj ht
    exact ((Inner.taken s c).trans (hg _)).toSteady
  · have hs : s.held = false := by simpa using hs
    rw [inputChange_of_not_held _ _ _ hs] at ht
    obtain rfl := Host.Outcome.next.inj ht
    exact ((Inner.taken s c).trans (hf _)).toSteady

theorem Inner.lockInputs {s t : State} (h : Inner s t) (u : Tier) (x y : Bool) : Inner s (t.lockInputs u x y) :=
  h.modSeq u _ rfl rfl

theorem lockInputChange_steady {u : Tier} {x y : Bool} {s t : State} (h : exec (.lockInputChange u x y) s = .next t) :
    Steady s t :=
  inputChange_steady h (execLockInputChange.eq_1 ..) (fun s => (Inner.refl s).lockInputs ..) (fun s =>
    .ite (fun _ => .refl s) fun _ => ((Inner.refl s).lockInputs u x y).seqActs (SeqActs.refl u _).refindLock.seqReport)

theorem limitInputChange_steady {a : Axis} {b : Bool} {s t : State} (h : exec (.limitInputChange a b) s = .next t) :
    Steady s t :=
  inputChange_steady h (execLimitInputChange.eq_1 ..)
    (fun s => (Inner.refl s).modAxis a _ (axisSafe_of_same rfl rfl rfl)) (fun s => (Inner.refl s).limitChanged a b)

theorem driveReadyChange_steady {a : Axis} {b : Bool} {s t : State} (h : exec (.driveReadyChange a b) s = .next t) :
    Steady s t :=
  inputChange_steady h (execDriveReadyChange.eq_1 ..)
    (fun s => (Inner.refl s).modAxis a _ (axisSafe_of_same rfl rfl rfl)) (fun s => (Inner.refl s).readyChanged a b)

theorem estopInputChange_steady {b : Bool} {s t : State} (h : exec (.estopInputChange b) s = .next t) : Steady s t := by
  have level (s : State) : Inner s (s.modMan fun m => { m with estop := b }) :=
    (Inner.refl s).modMan _ (.of_same rfl rfl rfl id)
  exact inputChange_steady h (execEstopInputChange.eq_1 ..) level
    (fun s => .ite (fun _ => (level s).takeCause _) fun _ => level s)

/-! ### Power-on and RESET_N -/

/-- Power-on leaves every invariant, whatever stood before (R178). -/
theorem powerUp_safe (s : State) : FloorSafe s.powerUp ∧ PowerSafe s.powerUp ∧ DriveSafe s.powerUp ∧
    StopSafe s.powerUp ∧ MotionSafe s.powerUp ∧ ListsSafe s.powerUp ∧ AttnSafe s.powerUp := by
  have hholding (v : Tier) : s.powerUp.holding v = Holding.initial := by cases v <;> rfl
  have hseq (v : Tier) : (s.powerUp.seq v).slot = none ∧ (s.powerUp.seq v).jog = none := by cases v <;> exact ⟨rfl, rfl⟩
  have haxis (a : Axis) : (s.powerUp.axis a).speed = 0 := by
    obtain ⟨t, r⟩ := a
    cases t <;> cases r <;> rfl
  have hdemand (v : Tier) : (s.powerUp.holding v).demand = 0 := by rw [hholding]; rfl
  have howns (v : Tier) : (s.powerUp.holding v).owns = 0 := by rw [hholding]; simp [Holding.owns, Holding.initial]
  have hport (p : Port) : s.powerUp.port p = LinkPort.initial := by cases p <;> rfl
  refine ⟨⟨fun t u _ => ?_, fun _ => ⟨howns, rfl⟩⟩,
    ⟨(committed_zero hdemand).le.trans (Nat.zero_le _), fun _ => committed_zero hdemand, fun v _ => hdemand v⟩,
    fun a => axisSafe_of_zero (haxis a),
    ⟨fun _ => ⟨fun _ => rfl, fun _ => rfl⟩, fun h => (by cases h), fun h => (by rcases h with h | h | h <;> cases h)⟩,
    ⟨fun _ => ⟨rfl, fun u => (hseq u).1⟩, fun h => (by cases h), fun t u h => ?_⟩,
    ⟨Nat.zero_le _, Nat.zero_le _, Nat.zero_le _, fun p => ?_⟩, fun _ => rfl, fun p => ?_⟩
  · rw [howns, howns]
    simp
  · rw [(hseq t).2] at h
    cases h
  · rw [hport]
    exact ⟨Nat.zero_le _, Nat.zero_le _⟩
  · rw [hport]
    simp [State.powerUp, State.reset, LinkPort.initial]

theorem powerUp_keeps (s : State) : Keeps s s.powerUp := by
  obtain ⟨floor, power, drive, stop, motion, lists, attn⟩ := powerUp_safe s
  exact ⟨fun _ => floor, fun _ => power, fun _ => motion, fun _ => drive, fun _ => stop, fun _ => lists, fun _ => attn⟩

/-- RESET_N going low keeps every invariant (R178, R194). -/
theorem cut_keeps (s : State) : Keeps s s.cut := by
  have hseq (v : Tier) : s.cut.seq v = { s.seq v with lockCmd := .engage } := by cases v <;> rfl
  have haxis (a : Axis) : (s.cut.axis a).speed = 0 := by
    obtain ⟨t, r⟩ := a
    cases t <;> cases r <;> rfl
  have hport (p : Port) : s.cut.port p = (s.port p).cut := by cases p <;> rfl
  refine ⟨id, id, fun h => ⟨fun hm => ⟨(h.1 hm).1, fun u => ?_⟩, fun hm u => ?_, fun t u ht hu => h.2.2 t u ?_ ?_⟩,
    fun _ a => axisSafe_of_zero (haxis a), fun h => ⟨fun hh => (by cases hh), h.2⟩,
    fun h => ⟨h.1, h.2.1, h.2.2.1, fun p => ?_⟩, fun _ => ⟨fun _ => rfl, fun p => ?_⟩⟩
  · rw [hseq]
    exact (h.1 hm).2 u
  · rw [hseq]
    exact h.2.1 hm u
  · rwa [hseq] at ht
  · rwa [hseq] at hu
  · rw [hport]
    exact h.2.2.2 p
  · rw [hport]
    simp [State.cut, LinkPort.cut]

/-! ### Every command -/

/-- What a command does: each invariant is kept, no table changes in RUN, and the mode changes only under a request that
sets it. -/
structure Runs (c : Instr) (s t : State) : Prop extends Keeps s t where
  mode : setsMode c = false → t.auth.mode = s.auth.mode
  tables : s.auth.mode = .run → t.tables = s.tables

theorem Steady.runs {c : Instr} {s t : State} (h : Steady s t) : Runs c s t := ⟨h.toKeeps, fun _ => h.mode, fun _ => h.tables⟩

theorem request_runs {c : Instr} {q : Src} {k : Byte} {s t : State} (hq : requestSrc c = some q)
    (hk : requestKind c = some k) (he : exec c s = .next t) : Runs c s t := by
  obtain ⟨f, hc, hf⟩ := request_acts hq hk
  rw [hc] at he
  by_cases hs : s.held = true
  · rw [request, live_of_held _ _ hs] at he
    obtain rfl := Host.Outcome.next.inj he
    exact (Inner.taken s c).toSteady.runs
  · have hs : s.held = false := by simpa using hs
    rw [request_of_not_held _ _ _ _ hs] at he
    obtain rfl := Host.Outcome.next.inj he
    have htaken := (Inner.taken s c).toSteady
    obtain ⟨hacts, hmode⟩ := (hf (s.taken c)).1
    have hreply := (Steady.refl (f (s.taken c)).1).putReply q (k + 0x80) (f (s.taken c)).2.1 (f (s.taken c)).2.2
    exact ⟨(htaken.toKeeps.trans hacts.toKeeps).trans hreply.toKeeps, fun hm => hreply.mode.trans (hmode hm),
      fun hr => hreply.tables.trans (hacts.tables hr)⟩

/-- The changes of the field inputs, which are kept while RESET_N is low. -/
def isFieldInput : Instr → Bool
  | .lockInputChange .. | .limitInputChange .. | .driveReadyChange .. | .estopInputChange _ => true
  | _ => false

theorem actsSteadily {c : Instr} (hstart : startsAfresh c = false) (hcut : c ≠ .resetNAssert)
    (hin : isFieldInput c = false) (hq : requestSrc c = none) : ActsSteadily c := by
  cases c
  case powerOn | resetNRelease => cases hstart
  case resetNAssert => exact absurd rfl hcut
  case lockInputChange | limitInputChange | driveReadyChange | estopInputChange => cases hin
  case byteReceived => exact byteReceived_steadily ..
  case gapTimerExpiry => exact gapTimerExpiry_steadily ..
  case frameDispatch => exact frameDispatch_steadily ..
  case transmitDone => exact transmitDone_steadily ..
  case axisUpdate => exact axisUpdate_steadily ..
  case liftComplete => exact liftComplete_steadily ..
  case setComplete => exact setComplete_steadily ..
  case settleEnd => exact settleEnd_steadily ..
  case settleTimeout => exact settleTimeout_steadily ..
  case pairUpdate => exact pairUpdate_steadily ..
  case pairLiftComplete => exact pairLiftComplete_steadily ..
  case pairSetComplete => exact pairSetComplete_steadily ..
  case jackPositionReport => exact jackPositionReport_steadily ..
  case pollSlot => exact pollSlot_steadily ..
  case pollEnd => exact pollEnd_steadily ..
  case busHeldLow => exact busHeldLow_steadily ..
  case busRecoveryEnd => exact busRecoveryEnd_steadily ..
  case lockTimerExpiry => exact lockTimerExpiry_steadily ..
  case repoweringTimeout => exact repoweringTimeout_steadily ..
  case enableExpiry => exact enableExpiry_steadily ..
  case escalationExpiry => exact escalationExpiry_steadily ..
  case grantPass => exact grantPass_steadily ..
  case bandReleaseReport => exact bandReleaseReport_steadily ..
  case stowedChangeReport => exact stowedChangeReport_steadily ..
  case moveEndAtArbiter => exact moveEndAtArbiter_steadily ..
  case moveEndReport => exact moveEndReport_steadily ..
  case stepEnd => exact stepEnd_steadily ..
  case freedEntry => exact freedEntry_steadily ..
  case emptyPendingList => exact emptyPendingList_steadily ..
  case causeReport => exact causeReport_steadily ..
  case tierCauseReport => exact tierCauseReport_steadily ..
  case brakedReport => exact brakedReport_steadily ..
  case motionReport => exact motionReport_steadily ..
  case travelMarkReport => exact travelMarkReport_steadily ..
  case arbiterTripReport => exact arbiterTripReport_steadily ..
  case holdOrder => exact holdOrder_steadily ..
  case quickStopOrder => exact quickStopOrder_steadily ..
  case tripOrder => exact tripOrder_steadily ..
  case resumeOrder => exact resumeOrder_steadily ..
  case planHoldOrder => exact planHoldOrder_steadily ..
  case planResumeOrder => exact planResumeOrder_steadily ..
  case planStopOrder => exact planStopOrder_steadily ..
  case brakeReleaseOrder => exact brakeReleaseOrder_steadily ..
  case travelOrder => exact travelOrder_steadily ..
  case stopOrder => exact stopOrder_steadily ..
  case brakeApplyOrder => exact brakeApplyOrder_steadily ..
  case axisTripOrder => exact axisTripOrder_steadily ..
  case pairReleaseOrder => exact pairReleaseOrder_steadily ..
  case pairTravelOrder => exact pairTravelOrder_steadily ..
  case pairStopOrder => exact pairStopOrder_steadily ..
  case pairApplyOrder => exact pairApplyOrder_steadily ..
  case pairTripOrder => exact pairTripOrder_steadily ..
  case contactorReport => exact contactorReport_steadily ..
  case latchEvent => exact latchEvent_steadily ..
  all_goals cases hq

theorem fieldInput_steady {c : Instr} {s t : State} (hin : isFieldInput c = true) (he : exec c s = .next t) :
    Steady s t := by
  cases c
  case lockInputChange => exact lockInputChange_steady he
  case limitInputChange => exact limitInputChange_steady he
  case driveReadyChange => exact driveReadyChange_steady he
  case estopInputChange => exact estopInputChange_steady he
  all_goals cases hin

theorem requestKind_of_src {c : Instr} {q : Src} (h : requestSrc c = some q) : ∃ k, requestKind c = some k := by
  cases c <;> cases h <;> exact ⟨_, rfl⟩

/-- Every command but a start and RESET_N going low. -/
theorem exec_runs {c : Instr} {s t : State} (hstart : startsAfresh c = false) (hcut : c ≠ .resetNAssert)
    (he : exec c s = .next t) : Runs c s t := by
  by_cases hin : isFieldInput c = true
  · exact (fieldInput_steady hin he).runs
  · cases hq : requestSrc c with
    | none => exact ((actsSteadily hstart hcut (by simpa using hin) hq).steady he).runs
    | some q =>
      obtain ⟨k, hk⟩ := requestKind_of_src hq
      exact request_runs hq hk he

/-- Every command keeps every invariant. -/
theorem exec_keeps {c : Instr} {s t : State} (he : exec c s = .next t) : Keeps s t := by
  by_cases hstart : startsAfresh c = true
  · cases c <;> cases hstart <;> obtain rfl := Host.Outcome.next.inj he
    · exact powerUp_keeps s
    · have h := powerUp_keeps s
      exact ⟨h.floor, h.power, h.motion, h.drive, fun hs => ⟨fun _ => ⟨fun _ => rfl, fun _ => rfl⟩, (h.stop hs).2⟩, h.lists,
        fun ha => ⟨fun _ => rfl, (h.attn ha).2⟩⟩
  · by_cases hcut : c = .resetNAssert
    · obtain rfl := hcut
      obtain rfl := Host.Outcome.next.inj he
      exact cut_keeps s
    · exact (exec_runs (by simpa using hstart) hcut he).toKeeps

/-- A millisecond keeps every invariant. -/
theorem tick_keeps (s : State) : Keeps s s.tick := by
  unfold State.tick
  split
  · exact .refl s
  · have htick (x : LinkPort) : x.tick.input = x.input ∧ x.tick.notices = x.notices := ⟨rfl, rfl⟩
    have h : Keeps s { s with clock := s.clock + 1, ports := ⟨s.ports.a.tick, s.ports.b.tick⟩ } :=
      ⟨id, id, id, id, id, fun h => ⟨h.1, h.2.1, h.2.2.1, fun p => by cases p; exacts [h.2.2.2 .A, h.2.2.2 .B]⟩,
        fun h => ⟨h.1, fun p => by cases p; exacts [h.2 .A, h.2 .B]⟩⟩
    exact h.trans ((Inner.refl _).emitAll _).toKeeps

/-- Every step keeps every invariant: it runs a command, or lets a millisecond pass. -/
theorem step_keeps {s t : State} (h : step s = .next t) : Keeps s t := by
  unfold step at h
  split at h
  · next c rest _ => exact (Inner.of_unread s s.pairs s.mon s.plans s.clock s.mail rest ..).toKeeps.trans (exec_keeps h)
  · split at h
    · exact exec_keeps h
    · obtain rfl := Host.Outcome.next.inj h
      exact tick_keeps s

/-! ### The obligations -/

/-- Settles O59: every step keeps every invariant, and these three among them. -/
theorem everyStepKeepsFloorPowerAndMotion : Obligations.EveryStepKeepsFloorPowerAndMotion :=
  fun _ _ h => ⟨(step_keeps h).floor, (step_keeps h).power, (step_keeps h).motion⟩

/-- Settles O60: every step keeps every invariant, and these four among them. -/
theorem everyStepKeepsDrivesStopsListsAndAttn : Obligations.EveryStepKeepsDrivesStopsListsAndAttn :=
  fun _ _ h => ⟨(step_keeps h).drive, (step_keeps h).stop, (step_keeps h).lists, (step_keeps h).attn⟩

/-- Settles O58: the state after reset is a start of the part, which leaves every invariant. -/
theorem resetIsSafe : Obligations.ResetIsSafe := by
  have h : State.reset.powerUp = State.reset := rfl
  have hs := powerUp_safe State.reset
  rw [h] at hs
  exact hs

/-- Settles O23: of all commands SET_MODE alone, a start and RESTART apart, sets the mode, and in RUN no table is written. -/
theorem modeAndTablesChangeByTheirOwnCommandsAlone : Obligations.ModeAndTablesChangeByTheirOwnCommandsAlone := by
  refine ⟨fun c s t he hstart hrestart hrun hsetup => ?_, fun c s t he hstart hm => ?_⟩
  · by_cases hcut : c = .resetNAssert
    · obtain rfl := hcut
      obtain rfl := Host.Outcome.next.inj he
      rfl
    · refine (exec_runs hstart hcut he).mode ?_
      cases c
      case restart q => exact absurd rfl (hrestart q)
      case setModeRun q => exact absurd rfl (hrun q)
      case setModeSetup q m => exact absurd rfl (hsetup q m)
      all_goals rfl
  · by_cases hcut : c = .resetNAssert
    · obtain rfl := hcut
      obtain rfl := Host.Outcome.next.inj he
      rfl
    · exact (exec_runs hstart hcut he).tables hm

/-- A request whose owner changes nothing, as under a refusal: it is answered, and that is all. -/
theorem request_unchanged (c : Instr) (q : Src) (k : Byte) (f : State → Answer) {s : State} (hs : s.held = false)
    {st : Status} {body : List Byte} (hf : f (s.taken c) = (s.taken c, st, body)) :
    ∃ t, request c q k f s = .next t ∧ OnlyPorts s t ∧ Answered s t c q k st body [] := by
  obtain ⟨t, he, ho, ha⟩ := request_answered c q k f [] hs (by rw [hf]; rfl) (by rw [hf]; simp)
  rw [hf] at ho ha
  exact ⟨t, he, ho, ha⟩

/-- Settles O24: the reply that a request leaves at its port, and by `request_acts` nothing else under a refusal. -/
theorem everyRequestIsAnsweredAndARefusedOneChangesNothing :
    Obligations.EveryRequestIsAnsweredAndARefusedOneChangesNothing := by
  intro c kind q s hs hk hq
  obtain ⟨f, hc, hf⟩ := request_acts hq hk
  obtain ⟨⟨hacts, -⟩, hunchanged⟩ := hf (s.taken c)
  by_cases hst : isRefusal (f (s.taken c)).2.1 = true
  · obtain ⟨t, he, ho, ha⟩ := request_unchanged c q kind f hs (Prod.ext (hunchanged hst) rfl)
    refine ⟨t, _, _, (hc s).trans he, fun hn => ?_, fun hn => ?_, fun _ => ⟨ho, ha⟩⟩
    all_goals
      rw [State.port, ha.1, Both.port_setPort_self]
      simp [hn]
  · refine ⟨_, _, (f (s.taken c)).2.2, (hc s).trans (request_of_not_held c q kind f hs), fun hn => ?_, fun hn => ?_, fun h => absurd h hst⟩
    all_goals
      rw [State.port, (putReply_eq ..).1, Both.port_setPort_self]
      rw [← show (s.taken c).port q.port = s.port q.port from rfl, ← hacts.sending] at hn
      simp [hn]

end Sys2Proof.Machine

/-! SUPPORT. Steps, start-up and RESET_N (O1 to O6). -/

namespace Sys2Proof.Machine

open Sys2Proof

/-! ### Steps -/

/-- Settles O1: `step` looks at the queue first. -/
theorem stepTakesTheFrontCommand : Obligations.StepTakesTheFrontCommand := by
  intro s c rest h
  simp [step, h]

/-- The expiries that a millisecond sends, timer by timer. -/
theorem mem_expiries (s : State) (c : Instr) :
    c ∈ s.expiries ↔ (∃ u, dueTimer (s.seq u).lockTimer s.clock = true ∧ c = .lockTimerExpiry u) ∨
      (dueTimer s.man.repower s.clock = true ∧ c = .repoweringTimeout) ∨
      (∃ tm, s.auth.timer = .watching tm ∧ tm.due s.clock = true ∧ c = .enableExpiry) ∨
      (∃ tm, s.auth.timer = .lapsed (some tm) ∧ tm.due s.clock = true ∧ s.someMoving = true ∧ c = .escalationExpiry) ∨
      ∃ p, (s.port p).rx.gapOut = true ∧ c = .gapTimerExpiry p := by
  have hport (p : Port) : p ∈ [Port.A, Port.B] := by cases p <;> decide
  unfold State.expiries
  simp only [List.mem_append, List.mem_map, List.mem_filter, Idx8.mem_all, true_and, hport, eq_comm (b := c), or_assoc]
  refine or_congr Iff.rfl (or_congr (by simp) ?_)
  rw [← or_assoc]
  refine or_congr ?_ Iff.rfl
  rcases s.auth.timer with _ | tm | _ | tm <;> simp [and_assoc]

theorem someMoving_iff (s : State) : s.someMoving = true ↔ ∃ u, s.auth.moving.get u = true := by
  simp [State.someMoving, ← Bool.not_eq_true, Eight.all_iff]

theorem gapOut_iff (r : Receiver) : r.gapOut = true ↔ ∃ g, r.gap = some g ∧ 20 ≤ g := by
  unfold Receiver.gapOut
  cases r.gap with
  | none => simp
  | some g => exact decide_eq_true_iff.trans ⟨fun h => ⟨g, rfl, h⟩, fun ⟨_, e, h⟩ => by cases e; exact h⟩

/-- The state of a millisecond: the clock and the gap timers are one on. -/
def State.ticked (s : State) : State := { s with clock := s.clock + 1, ports := ⟨s.ports.a.tick, s.ports.b.tick⟩ }

theorem ticked_gap (s : State) (p : Port) : (s.ticked.port p).rx.gap = (s.port p).rx.gap.map (· + 1) := by cases p <;> rfl

/-- Settles O2: the mail is looked at behind the queue, and a millisecond sends the expiries of `mem_expiries`. -/
theorem anIdleStepDeliversOrCounts : Obligations.AnIdleStepDeliversOrCounts := by
  refine ⟨fun s m rest hp hm => by simp [step, hp, hm], fun s hp hm hs => ⟨s.tick, by simp [step, hp, hm], ?_⟩⟩
  have htick : s.tick = { s.ticked with mail := s.ticked.expiries } := by
    simp [State.tick, hs, State.emitAll, State.ticked, hm]
  rw [htick]
  have hgap (p : Port) := gapOut_iff (s.ticked.port p).rx
  simp only [mem_expiries]
  refine ⟨rfl, ticked_gap s, fun u => ?_, ?_, ?_, ?_, fun p => ?_, rfl⟩
  · simp [State.ticked, State.seq]
  · simp [State.ticked]
  · simp [State.ticked]
  · simp [State.ticked, someMoving_iff]
  · simpa [State.port] using hgap p

/-! ### Start-up -/

/-- Settles O3: the fields of the reset state. -/
theorem resetLeavesTheStatedValues : Obligations.ResetLeavesTheStatedValues := by
  refine ⟨rfl, rfl, rfl, rfl, rfl, rfl, rfl, rfl, fun t => ?_, fun a => ?_, fun t b => ?_, fun t n => ?_, rfl, rfl, rfl, rfl,
    fun t => ?_, fun t => ?_, fun a => ?_, fun t => ?_, fun t => ?_, fun p => ?_, rfl, rfl, fun p => ?_, rfl⟩
  · cases t <;> rfl
  · obtain ⟨t, r⟩ := a
    cases t <;> cases r <;> rfl
  · have h : (Vector.replicate 36 (0 : CellSet)).getD b 0 = 0 := by
      simp only [Vector.getD, Vector.toArray_replicate, Array.getD_eq_getD_getElem?, Array.getElem?_replicate]
      split <;> rfl
    cases t <;> exact h
  · cases t <;> cases n <;> rfl
  · cases t <;> exact ⟨by decide, rfl, rfl⟩
  · cases t <;> exact ⟨rfl, rfl, rfl, rfl, rfl, rfl⟩
  · obtain ⟨t, r⟩ := a
    cases t <;> cases r <;> exact ⟨rfl, rfl, rfl, rfl, rfl⟩
  · cases t <;> exact ⟨rfl, rfl, rfl⟩
  · cases t <;> exact ⟨rfl, rfl, rfl⟩
  · cases p <;> rfl
  · cases p <;> exact ⟨rfl, rfl, rfl, rfl, rfl, rfl⟩

/-- Settles O4: `powerUp` block by block. -/
theorem powerOnAndResetReleaseStartThePart : Obligations.PowerOnAndResetReleaseStartThePart := by
  have hseq (s : State) (u : Tier) : s.powerUp.seq u = (s.seq u).started := by cases u <;> rfl
  have haxis (s : State) (a : Axis) : s.powerUp.axis a = (s.axis a).started := by
    obtain ⟨t, r⟩ := a
    cases t <;> cases r <;> rfl
  have hseen (s : State) : seenAtStart .powerOn s.man.estop =
      if s.man.estop then kindSet .powerOn ||| kindSet .estop else kindSet .powerOn := by
    cases s.man.estop <;> decide
  intro c s hc
  have hman : s.powerUp.man = { StopManager.initial with
      seen := if s.man.estop then kindSet .powerOn ||| kindSet .estop else kindSet .powerOn, estop := s.man.estop } := by
    rw [← hseen]
    rfl
  cases c
  case powerOn => exact ⟨_, rfl, rfl, hseq s, haxis s, hman, rfl⟩
  case resetNRelease => exact ⟨_, rfl, rfl, hseq s, haxis s, hman, rfl⟩
  all_goals cases hc

/-- Settles O5: `cut` block by block. -/
theorem resetAssertedCutsEveryOutput : Obligations.ResetAssertedCutsEveryOutput := by
  refine fun s => ⟨_, rfl, fun a => ?_, fun u => ?_, fun p => ?_, rfl⟩
  · obtain ⟨t, r⟩ := a
    cases t <;> cases r <;> rfl
  · cases u <;> rfl
  · cases p <;> rfl

/-! ### While RESET_N is low -/

/-- While RESET_N is low a command that is no start and no field input is taken, and that is all. -/
theorem exec_of_held {c : Instr} {s : State} (hs : s.held = true) (hstart : startsAfresh c = false)
    (hcut : c ≠ .resetNAssert) (hin : isFieldInput c = false) : exec c s = .next (s.taken c) := by
  cases hq : requestSrc c with
  | none =>
    obtain ⟨f, hc, -⟩ := actsSteadily hstart hcut hin hq
    rw [hc, live_of_held _ _ hs]
  | some q =>
    obtain ⟨k, hk⟩ := requestKind_of_src hq
    obtain ⟨f, hc, -⟩ := request_acts hq hk
    rw [hc, request, live_of_held _ _ hs]

/-- Settles O6: what is no field input is taken only, and a field input has its level kept. -/
theorem nothingRunsWhileResetIsHeld : Obligations.NothingRunsWhileResetIsHeld := by
  intro c s hs hstart hcut
  by_cases hin : isFieldInput c = true
  · cases c
    case lockInputChange u x y =>
      refine ⟨_, (execLockInputChange.eq_1 ..).trans (inputChange_of_held _ _ _ hs), rfl, fun _ => rfl, fun v => ?_, rfl, rfl⟩
      rw [State.lockInputs, State.modSeq_seq]
      split
      · next e => rw [e]; rfl
      · rfl
    case limitInputChange a b =>
      refine ⟨_, (execLimitInputChange.eq_1 ..).trans (inputChange_of_held _ _ _ hs), rfl, fun x => ?_, fun _ => rfl, rfl, rfl⟩
      rw [State.modAxis_axis]
      split
      · next e => rw [e]; rfl
      · rfl
    case driveReadyChange a b =>
      refine ⟨_, (execDriveReadyChange.eq_1 ..).trans (inputChange_of_held _ _ _ hs), rfl, fun x => ?_, fun _ => rfl, rfl, rfl⟩
      rw [State.modAxis_axis]
      split
      · next e => rw [e]; rfl
      · rfl
    case estopInputChange b =>
      exact ⟨_, (execEstopInputChange.eq_1 ..).trans (inputChange_of_held _ _ _ hs), rfl, fun _ => rfl, fun _ => rfl, rfl, rfl⟩
    all_goals cases hin
  · exact ⟨_, exec_of_held hs hstart hcut (by simpa using hin), rfl, fun _ => rfl, fun _ => rfl, rfl, rfl⟩

/-! ### Requests, by what their owner makes of them -/

/-- A request that its owner answers without acting. -/
theorem exec_unchanged (c : Instr) {q : Src} {k : Byte} {f : State → Answer} {s : State} {st : Status} {body : List Byte}
    (he : exec c s = request c q k f s) (hs : s.held = false) (hf : f (s.taken c) = (s.taken c, st, body)) :
    ∃ t, exec c s = .next t ∧ OnlyPorts s t ∧ Answered s t c q k st body [] := by
  rw [he]
  exact request_unchanged c q k f hs hf

/-- A request whose owner leaves the ports and sends `sent`. -/
theorem exec_answered (c : Instr) {q : Src} {k : Byte} {f : State → Answer} {s t' : State} {st : Status}
    {body : List Byte} (sent : List Instr) (he : exec c s = request c q k f s) (hs : s.held = false)
    (hf : f (s.taken c) = (t', st, body)) (hp : t'.ports = s.ports) (hm : t'.mail = s.mail.erase c ++ sent) :
    ∃ t, exec c s = .next t ∧ OnlyPorts t' t ∧ Answered s t c q k st body sent := by
  have h := request_answered c q k f sent hs (by rw [hf]; exact hp) (by rw [hf]; exact hm)
  rw [hf] at h
  rw [he]
  exact h

/-- A request whose owner leaves the ports: what it sends is in flight after it. -/
theorem exec_replied (c : Instr) {q : Src} {k : Byte} {f : State → Answer} {s t' : State} {st : Status}
    {body : List Byte} (he : exec c s = request c q k f s) (hs : s.held = false)
    (hf : f (s.taken c) = (t', st, body)) (hp : t'.ports = s.ports) :
    ∃ t, exec c s = .next t ∧ OnlyPorts t' t ∧ Replied s t q k st body ∧ ∀ m ∈ t'.mail, m ∈ t.mail := by
  have h := request_replied c q k f hs (by rw [hf]; exact hp)
  rw [hf] at h
  rw [he]
  exact h

/-- A request whose owner sends no report, and may change the ports: the reply is handed to the port as the owner leaves
it. -/
theorem exec_handed (c : Instr) {q : Src} {k : Byte} {f : State → Answer} {s u : State} {st : Status} {body : List Byte}
    (he : exec c s = request c q k f s) (hs : s.held = false) (hf : f (s.taken c) = (u, st, body))
    (hm : u.mail = s.mail.erase c) :
    ∃ t, exec c s = .next t ∧ OnlyPorts u t ∧ Replied u t q k st body ∧ Mailed s t c q.port [] := by
  rw [he]
  exact request_handed c q k f hs hf hm

/-! ### Authority -/

theorem isHolder_iff (s : State) (q : Src) : s.isHolder q = true ↔ s.auth.holder = some q.port := by
  simp [State.isHolder]

@[simp] theorem taken_isHolder (s : State) (c : Instr) (q : Src) : (s.taken c).isHolder q = s.isHolder q := rfl
@[simp] theorem taken_holderOrNone (s : State) (c : Instr) (q : Src) : (s.taken c).holderOrNone q = s.holderOrNone q := rfl
@[simp] theorem taken_handsFull (s : State) (c : Instr) : (s.taken c).handsFull = s.handsFull := rfl
@[simp] theorem taken_inSetup (s : State) (c : Instr) : (s.taken c).inSetup = s.inSetup := rfl
@[simp] theorem taken_inRun (s : State) (c : Instr) : (s.taken c).inRun = s.inRun := rfl
@[simp] theorem taken_isClear (s : State) (c : Instr) : (s.taken c).isClear = s.isClear := rfl
@[simp] theorem taken_jogRuns (s : State) (c : Instr) : (s.taken c).jogRuns = s.jogRuns := rfl

/-- Settles O20: the three requests by the holder and by whether the hall's hands are full. -/
theorem authorityChangesHands : Obligations.AuthorityChangesHands := by
  intro q s hs
  refine ⟨?_, ?_, fun h => ?_, fun h => ?_⟩
  · cases hh : s.auth.holder with
    | none =>
      exact exec_answered (.takeAuthority q) [.latchEvent (.authority (some q.port))] (execTakeAuthority.eq_1 ..) hs
        (by rw [taken_auth, hh]) (by rfl) (by rfl)
    | some p =>
      refine exec_unchanged (.takeAuthority q) (execTakeAuthority.eq_1 ..) hs ?_
      rw [taken_auth, hh]
      dsimp only
      split
      · rfl
      · rw [State.refuseAuthority, taken_auth, hh]
  · split
    · next h =>
      exact exec_unchanged (.forceAuthority q) (execForceAuthority.eq_1 ..) hs (if_pos ((isHolder_iff ..).2 h))
    · next h =>
      split
      · next hf =>
        exact exec_unchanged (.forceAuthority q) (execForceAuthority.eq_1 ..) hs
          (by simp [isHolder_iff, h, hf, State.refuse])
      · next hf =>
        exact exec_answered (.forceAuthority q) [.latchEvent (.authority (some q.port))] (execForceAuthority.eq_1 ..) hs
          (by simp only [taken_isHolder, isHolder_iff, h, taken_handsFull, hf, if_false]; rfl) (by rfl) (by rfl)
  · split
    · next hf =>
      exact exec_unchanged (.giveAuthority q) (execGiveAuthority.eq_1 ..) hs (by simp [isHolder_iff, h, hf, State.refuse])
    · next hf =>
      exact exec_answered (.giveAuthority q) [.latchEvent (.authority none)] (execGiveAuthority.eq_1 ..) hs
        (by rw [if_neg (by simpa [isHolder_iff] using h), taken_handsFull, if_neg hf]) (by rfl) (by rfl)
  · exact exec_unchanged (.giveAuthority q) (execGiveAuthority.eq_1 ..) hs (if_pos (by simpa [← isHolder_iff] using h))

/-- An answer that refuses for the mode or for the holder, and changes nothing. -/
def RefusesOther (s : State) (r : Answer) : Prop := r = s.refuseAuthority ∨ r = s.refuse .mode

theorem refusesOther_holder {s : State} {q : Src} (h : s.auth.holder ≠ some q.port) (x : Answer) :
    RefusesOther s (if !s.isHolder q then s.refuseAuthority else x) :=
  .inl (if_pos (by simpa [← isHolder_iff] using h))

/-- A request whose owner checks the mode first. -/
theorem refusesOther_mode {s : State} {q : Src} (h : s.auth.holder ≠ some q.port) (b : Bool) (x : Answer) :
    RefusesOther s (if !b then s.refuse .mode else if !s.isHolder q then s.refuseAuthority else x) := by
  cases b
  · exact .inr rfl
  · exact refusesOther_holder h x

/-- A request that is refused for the mode or for the holder is answered so, and that is all. -/
theorem exec_refusesOther {c : Instr} {q : Src} {k : Byte} {f : State → Answer} {s : State}
    (he : exec c s = request c q k f s) (hs : s.held = false) (hf : RefusesOther (s.taken c) (f (s.taken c))) :
    ∃ t st, exec c s = .next t ∧ OnlyPorts s t ∧ (st = .authority ∨ st = .mode) ∧
      Answered s t c q k st (if st = .authority then [holderCode s.auth.holder] else []) [] := by
  rcases hf with hf | hf
  · obtain ⟨t, ht, ho, ha⟩ := exec_unchanged c he hs hf
    exact ⟨t, .authority, ht, ho, .inl rfl, ha⟩
  · obtain ⟨t, ht, ho, ha⟩ := exec_unchanged c he hs hf
    exact ⟨t, .mode, ht, ho, .inr rfl, ha⟩

/-- Settles O19: each request of the holder checks the holder first, or the mode and then the holder. -/
theorem onlyTheHolderMayAct : Obligations.OnlyTheHolderMayAct := by
  intro c kind q s hs hk hq h
  have hn : ∀ c, (s.taken c).auth.holder ≠ some q.port := fun _ => h
  cases c <;> try (cases hk; done)
  all_goals
    obtain rfl := Option.some.inj hk
    obtain rfl := Option.some.inj hq
  case setModeRun =>
    exact exec_refusesOther (execSetModeRun.eq_1 ..) hs (.inl (if_neg (by simpa [isHolder_iff] using h)))
  case cancel => exact exec_refusesOther (execCancel.eq_1 ..) hs (refusesOther_holder (hn _) _)
  case enable => exact exec_refusesOther (execEnable.eq_1 ..) hs (refusesOther_holder (hn _) _)
  case resume => exact exec_refusesOther (execResume.eq_1 ..) hs (refusesOther_holder (hn _) _)
  case setModeSetup => exact exec_refusesOther (execSetModeSetup.eq_1 ..) hs (refusesOther_holder (hn _) _)
  case planWrite => exact exec_refusesOther (execPlanWrite.eq_1 ..) hs (refusesOther_holder (hn _) _)
  case planClear => exact exec_refusesOther (execPlanClear.eq_1 ..) hs (refusesOther_holder (hn _) _)
  case planAbort => exact exec_refusesOther (execPlanAbort.eq_1 ..) hs (refusesOther_holder (hn _) _)
  case move => exact exec_refusesOther (execMove.eq_1 ..) hs (refusesOther_mode (hn _) _ _)
  case jog => exact exec_refusesOther (execJog.eq_1 ..) hs (refusesOther_mode (hn _) _ _)
  case setHall => exact exec_refusesOther (execSetHall.eq_1 ..) hs (refusesOther_mode (hn _) _ _)
  case setTier => exact exec_refusesOther (execSetTier.eq_1 ..) hs (refusesOther_mode (hn _) _ _)
  case setAxis => exact exec_refusesOther (execSetAxis.eq_1 ..) hs (refusesOther_mode (hn _) _ _)
  case setBand => exact exec_refusesOther (execSetBand.eq_1 ..) hs (refusesOther_mode (hn _) _ _)
  case setStation => exact exec_refusesOther (execSetStation.eq_1 ..) hs (refusesOther_mode (hn _) _ _)
  case setStationHere => exact exec_refusesOther (execSetStationHere.eq_1 ..) hs (refusesOther_mode (hn _) _ _)
  case setPosition => exact exec_refusesOther (execSetPosition.eq_1 ..) hs (refusesOther_mode (hn _) _ _)
  case tare => exact exec_refusesOther (execTare.eq_1 ..) hs (refusesOther_mode (hn _) _ _)
  case planStart => exact exec_refusesOther (execPlanStart.eq_1 ..) hs (refusesOther_mode (hn _) _ _)

/-! ### SET_NOTICES -/

/-- Settles O14. -/
theorem setNoticesReplacesOnePortsSet : Obligations.SetNoticesReplacesOnePortsSet := by
  intro q mask s hs
  split
  · next h =>
    obtain ⟨t, he, ho, hr, hm⟩ := exec_unchanged (.setNotices q mask) (execSetNotices.eq_1 ..) hs (if_pos h)
    exact ⟨t, he, ho, hm, hr⟩
  · next h =>
    have hlatched (x : State) : (x.modPort q.port fun y => { y with enabled := mask.setWidth 10 }).judge q.port =
        x.modPort q.port fun y =>
          { y with enabled := mask.setWidth 10, attn := (x.latched &&& mask.setWidth 10) != 0 } := by
      simp [State.judge, State.modPort]
    obtain ⟨t, he, ho, hr, hm⟩ := exec_handed (.setNotices q mask) (u := (s.taken (.setNotices q mask)).modPort q.port
      fun y => { y with enabled := mask.setWidth 10, attn := (s.latched &&& mask.setWidth 10) != 0 })
      (body := beBytes 2 (mask.setWidth 10 : EventSet).toNat ++ beBytes 2 s.latched.toNat)
      (execSetNotices.eq_1 ..) hs (by
        rw [if_neg h, hlatched]
        simp only [State.answer, eventSetBytes, State.modPort_port, if_true]
        rfl) (by rfl)
    exact ⟨t, he, ho, hm, hr⟩

end Sys2Proof.Machine

/-! SUPPORT. Stops and faults: RESUME, RESET_FAULT(HALL), causes, braked reports, field inputs and repowering (O27 to
O32). -/

namespace Sys2Proof.Machine

open Sys2Proof

/-- A command that acts while RESET_N is high. -/
theorem exec_live (c : Instr) {f : State → State} {s : State} (he : exec c s = live c f s) (hs : s.held = false) :
    exec c s = .next (f (s.taken c)) := he.trans (live_of_not_held c f hs)

/-! ### RESUME -/

/-- From `s` to `t` nothing differs but the stop manager, the flag of a pass asked for and the reports in flight. -/
def OnlyHall (s t : State) : Prop :=
  t = { s with man := t.man, arb := { s.arb with passRequested := t.arb.passRequested }, mail := t.mail }

theorem OnlyMan.onlyHall {s t : State} (h : OnlyMan s t) : OnlyHall s t := by
  unfold OnlyMan at h
  unfold OnlyHall
  rw [h]

theorem OnlyHall.refl (s : State) : OnlyHall s s := rfl

theorem OnlyHall.trans {s t u : State} (h : OnlyHall s t) (g : OnlyHall t u) : OnlyHall s u := by
  unfold OnlyHall at *
  rw [g, h]

theorem onlyHall_requestPass (s : State) : OnlyHall s s.requestPass := by
  rw [requestPass_eq]
  rfl

theorem requestPass_passRequested (s : State) : s.requestPass.arb.passRequested = true := by rw [requestPass_eq]

theorem requestPass_man (s : State) : s.requestPass.man = s.man := by rw [requestPass_eq]

theorem onlyHall_toClear (s : State) : OnlyHall s s.toClear :=
  (onlyMan_setStop ..).onlyHall.trans (onlyHall_requestPass _)

theorem toClear_man (s : State) : s.toClear.man = { s.man with state := .clear } := requestPass_man _

theorem toClear_passRequested (s : State) : s.toClear.arb.passRequested = true := requestPass_passRequested _

theorem OnlyHall.ports {s t : State} (h : OnlyHall s t) : t.ports = s.ports := by
  unfold OnlyHall at h
  rw [h]

/-- A hall request answered: what its owner leaves, but for the reply. -/
theorem OnlyHall.replied {s u t : State} {c : Instr} (h : OnlyHall (s.taken c) u) (ho : OnlyPorts u t) :
    t = { s with man := t.man, arb := { s.arb with passRequested := t.arb.passRequested }, ports := t.ports
                 mail := t.mail } ∧ t.man = u.man ∧ t.arb.passRequested = u.arb.passRequested := by
  unfold OnlyHall at h
  unfold OnlyPorts at ho
  refine ⟨?_, by rw [ho], by rw [ho]⟩
  rw [ho, h]
  rfl

theorem mem_requestPass_mail {s : State} {m : Instr} (h : m ∈ s.mail) : m ∈ s.requestPass.mail := by
  rw [requestPass_eq]
  dsimp only
  split
  · exact h
  · exact List.mem_append_left _ h

theorem stopEvent_mem_toClear (s : State) : Instr.latchEvent (.stop .clear none) ∈ s.toClear.mail :=
  mem_requestPass_mail (by simp [State.setStop])

theorem onlyHall_resumeHall (s : State) : OnlyHall s s.resumeHall :=
  ((onlyHall_toClear s).trans (onlyMan_emitAll ..).onlyHall).trans (onlyMan_emit ..).onlyHall

theorem resumeHall_man (s : State) : s.resumeHall.man = { s.man with state := .clear } := toClear_man s

theorem resumeHall_passRequested (s : State) : s.resumeHall.arb.passRequested = true := toClear_passRequested s

/-- Settles O27: by the stop state. -/
theorem resumeReleasesAHold : Obligations.ResumeReleasesAHold := by
  intro q s hs hq
  have hholder : ¬(!(s.taken (.resume q)).isHolder q) = true := by simpa [isHolder_iff] using hq
  cases hst : s.man.state
  case held =>
    obtain ⟨t, he, ho, hr, hsent⟩ := exec_replied (.resume q) (t' := (s.taken (.resume q)).resumeHall) (st := .ok)
      (body := []) (execResume.eq_1 ..) hs (by rw [if_neg hholder, taken_man, hst]; rfl) (onlyHall_resumeHall _).ports
    refine ⟨t, he, ?_, hr, fun u => hsent _ ?_, hsent _ ?_, hsent _ ?_⟩
    · obtain ⟨hframe, hman, hpass⟩ := (onlyHall_resumeHall _).replied ho
      rw [hman, hpass, resumeHall_man, resumeHall_passRequested] at hframe
      exact hframe
    · simp [State.resumeHall, Idx8.mem_all]
    · simp [State.resumeHall]
    · simp [State.resumeHall, stopEvent_mem_toClear]
  all_goals exact exec_unchanged (.resume q) (execResume.eq_1 ..) hs (by rw [if_neg hholder, taken_man, hst]; rfl)

/-! ### Braked reports, tier causes and the repowering timeout -/

theorem settleStop_man (s : State) : s.settleStop.man = { s.man with
    state := if s.allBraked then
        match s.man.state with
        | .holding => .held
        | .stopping => .stopped
        | x => x
      else s.man.state } := by
  unfold State.settleStop
  split
  · cases h : s.man.state <;> simp [State.setStop] <;> simp [← h]
  · rfl

/-- Settles O30: `settleStop` by the stop state. -/
theorem tierCausesAndBrakedReports : Obligations.TierCausesAndBrakedReports := by
  refine ⟨fun u k n s hs => ⟨_, exec_live (.tierCauseReport u k n) (execTierCauseReport.eq_1 ..) hs, ?_⟩,
    fun u b s hs => ⟨_, exec_live (.brakedReport u b) (execBrakedReport.eq_1 ..) hs, ?_⟩⟩
  · have hman := countCause_further_man (s.taken (.tierCauseReport u k n)) (tierCauseKind k)
    unfold State.recordTierCause State.raise State.emit
    rw [hman]
    rfl
  · refine ⟨?_, settleStop_man _⟩
    exact onlyMan_settleStop _

/-- Settles O32: by whether the timer of REPOWERING has run out. -/
theorem repoweringRunsOutToStopped : Obligations.RepoweringRunsOutToStopped := by
  intro s hs
  have hexec := exec_live .repoweringTimeout (execRepoweringTimeout.eq_1 s) hs
  refine ⟨fun hst hdue => ⟨_, hexec, ?_⟩, fun h => hexec.trans (congrArg _ (if_neg ?_))⟩
  · rw [if_pos ⟨hst, hdue⟩]
    simp [State.repowerFailed, State.setStop, State.modMan, State.raise, State.emit, State.taken]
    exact ⟨rfl, rfl⟩
  · rintro ⟨hst, hdue⟩
    rcases h with h | h
    · exact h hst
    · exact absurd (h.symm.trans hdue) (by decide)

/-! ### RESET_FAULT(HALL) -/

/-- The test of REPOWERING: with every drive ready the hall is CLEAR, and a pass is asked for. -/
theorem testDrives_ready {s : State} (hst : s.man.state = .repowering) (hready : s.drivesNotReady = []) :
    s.testDrives = ((s.modMan fun m => { m with repower := none }).clearRecord).toClear :=
  if_pos ⟨hst, by simp [State.drivesReady, hready]⟩

theorem testDrives_not_ready {s : State} (hready : s.drivesNotReady ≠ []) : s.testDrives = s :=
  if_neg fun h => hready (by simpa [State.drivesReady] using h.2)

theorem mem_allAxes (a : Axis) : a ∈ allAxes := by
  obtain ⟨t, r⟩ := a
  simp only [allAxes, List.mem_flatMap]
  exact ⟨t, Idx8.mem_all t, by cases r <;> simp [axesOf]⟩

theorem onlyHall_testDrives (s : State) : OnlyHall s s.testDrives := by
  unfold State.testDrives
  split
  · exact (onlyMan_modMan ..).onlyHall.trans ((onlyMan_modMan ..).onlyHall.trans (onlyHall_toClear _))
  · exact .refl s

/-- The state of REPOWERING before its drives are tested. -/
def State.repowering (s : State) : State :=
  ((s.setStop .repowering none).setContactor true).modMan fun m =>
    { m with repower := some ⟨s.clock, Config.repowerTime⟩ }

theorem onlyHall_repowerHall (s : State) : OnlyHall s s.repowerHall :=
  (show OnlyMan s s.repowering from rfl).onlyHall.trans (onlyHall_testDrives _)

theorem mem_testDrives_mail {s : State} {m : Instr} (h : m ∈ s.mail) : m ∈ s.testDrives.mail := by
  unfold State.testDrives
  split
  · exact mem_requestPass_mail (List.mem_append_left _ h)
  · exact h

theorem repowerHall_tells (s : State) (a : Axis) : Instr.contactorReport a true ∈ s.repowerHall.mail :=
  mem_testDrives_mail (by simp [State.setContactor, mem_allAxes])

/-- Repowering, by whether a present drive is not ready. -/
theorem repowerHall_man (s : State) :
    if s.drivesNotReady = [] then
      s.repowerHall.man = { s.man with
        state := .clear, contactor := true, repower := none, record := none, seen := 0, further := 0 } ∧
      s.repowerHall.arb.passRequested = true
    else s.repowerHall.man = { s.man with state := .repowering, contactor := true, repower := some ⟨s.clock, 2000⟩ } := by
  change if s.repowering.drivesNotReady = [] then
      s.repowering.testDrives.man = { s.man with
        state := .clear, contactor := true, repower := none, record := none, seen := 0, further := 0 } ∧
      s.repowering.testDrives.arb.passRequested = true
    else s.repowering.testDrives.man =
      { s.man with state := .repowering, contactor := true, repower := some ⟨s.clock, 2000⟩ }
  split
  · next h =>
    rw [testDrives_ready rfl h]
    exact ⟨toClear_man _, toClear_passRequested _⟩
  · next h =>
    rw [testDrives_not_ready h]
    rfl

theorem onlyHall_resetHall (s : State) : OnlyHall s s.resetHall.1 := by
  unfold State.resetHall
  split
  case h_1 | h_2 | h_3 =>
    dsimp only [State.answer]
    exact (onlyMan_modMan ..).onlyHall
  case h_4 | h_5 => exact .refl s
  case h_6 =>
    split
    · exact .refl s
    · exact (onlyMan_modMan ..).onlyHall.trans (onlyHall_toClear _)
  case h_7 =>
    split
    · exact .refl s
    · split
      · exact .refl s
      · exact onlyHall_repowerHall s

/-- RESET_FAULT(HALL) from TRIPPED with ESTOP inactive, by whether in RUN a limit input is in the way. -/
theorem resetHall_of_tripped {s : State} (hst : s.man.state = .tripped) (he : ¬s.man.estop = true) :
    s.resetHall = if s.auth.mode = .run ∧ s.limitsActive ≠ [] then (s, .interlock, axisByte s.limitsActive.head?)
      else (s.repowerHall, .ok, []) := by
  rw [State.resetHall, hst]
  dsimp only
  rw [if_neg he]
  cases hl : s.limitsActive with
  | nil => rw [if_neg (by simp)]; cases s.inRun <;> rfl
  | cons a l =>
    cases hr : s.inRun with
    | true => rw [if_pos (by simpa [State.inRun] using hr)]; rfl
    | false => rw [if_neg (by simpa [State.inRun] using hr)]; rfl

/-- Settles O28: by the stop state, with ESTOP and in RUN the limit inputs in the way of the reset. -/
theorem resetFaultHallByStopState : Obligations.ResetFaultHallByStopState := by
  intro q s hs
  by_cases h : s.holderOrNone q = false
  · simp only [h, if_true]
    exact exec_unchanged (.resetFaultHall q) (execResetFaultHall.eq_1 ..) hs (if_neg (by simp [h]))
  simp only [if_neg h]
  have hholder : (s.taken (.resetFaultHall q)).holderOrNone q = true := by simpa using h
  have hreset := onlyHall_resetHall (s.taken (.resetFaultHall q))
  have same {st : Status} {body : List Byte}
      (hr : (s.taken (.resetFaultHall q)).resetHall = (s.taken (.resetFaultHall q), st, body)) :
      ∃ t, exec (.resetFaultHall q) s = .next t ∧ t = { s with
          man := t.man, arb := { s.arb with passRequested := t.arb.passRequested }, ports := t.ports, mail := t.mail } ∧
        OnlyPorts s t ∧ Answered s t (.resetFaultHall q) q 0x1B st body [] := by
    obtain ⟨t, he, ho, ha⟩ := exec_unchanged (.resetFaultHall q) (execResetFaultHall.eq_1 ..) hs
      ((if_pos hholder).trans hr)
    exact ⟨t, he, ((OnlyHall.refl (s.taken (.resetFaultHall q))).replied ho).1, ho, ha⟩
  have acts {u : State} (hr : (s.taken (.resetFaultHall q)).resetHall = (u, .ok, [])) :
      ∃ t, exec (.resetFaultHall q) s = .next t ∧ t = { s with
          man := t.man, arb := { s.arb with passRequested := t.arb.passRequested }, ports := t.ports, mail := t.mail } ∧
        t.man = u.man ∧ t.arb.passRequested = u.arb.passRequested ∧ Replied s t q 0x1B .ok [] ∧
        ∀ m ∈ u.mail, m ∈ t.mail := by
    rw [hr] at hreset
    obtain ⟨t, he, ho, ha, hm⟩ := exec_replied (.resetFaultHall q) (execResetFaultHall.eq_1 ..) hs
      ((if_pos hholder).trans hr) hreset.ports
    obtain ⟨hframe, hman, hpass⟩ := hreset.replied ho
    exact ⟨t, he, hframe, hman, hpass, ha, hm⟩
  cases hst : s.man.state
  case clear | holding | held =>
    obtain ⟨t, he, ho, ha⟩ := exec_answered (.resetFaultHall q) (st := .ok) (body := [])
      (t' := (s.taken (.resetFaultHall q)).modMan fun m => { m with seen := 0, further := 0 }) []
      (execResetFaultHall.eq_1 ..) hs ((if_pos hholder).trans (by rw [State.resetHall, taken_man, hst]; rfl)) (by rfl)
      (by simp)
    obtain ⟨hframe, hman, -⟩ := (onlyMan_modMan ..).onlyHall.replied ho
    exact ⟨t, he, hframe, by rw [hman, ← hst]; rfl, ha⟩
  case stopping | repowering => exact same (by rw [State.resetHall, taken_man, hst]; rfl)
  case stopped =>
    have hr : (s.taken (.resetFaultHall q)).resetHall = if s.man.estop then (s.taken (.resetFaultHall q), .interlock, [])
        else ((s.taken (.resetFaultHall q)).clearRecord.toClear, .ok, []) := by rw [State.resetHall, taken_man, hst]; rfl
    by_cases hestop : s.man.estop = true
    · simp only [if_pos hestop] at hr ⊢
      exact same hr
    · simp only [if_neg hestop] at hr ⊢
      obtain ⟨t, he, hframe, hman, hpass, hr, -⟩ := acts hr
      exact ⟨t, he, hframe, hman.trans (toClear_man _), hpass.trans (toClear_passRequested _), hr⟩
  case tripped =>
    by_cases hestop : s.man.estop = true
    · simp only [if_pos hestop]
      exact same (by rw [State.resetHall, taken_man, hst]; exact if_pos hestop)
    · have hr := resetHall_of_tripped (s := s.taken (.resetFaultHall q)) hst hestop
      by_cases hlim : s.auth.mode = .run ∧ s.limitsActive ≠ []
      · simp only [if_neg hestop, if_pos hlim]
        exact same (hr.trans (if_pos hlim))
      · simp only [if_neg hestop, if_neg hlim]
        obtain ⟨t, he, hframe, hman, hpass, hr, hsent⟩ := acts (hr.trans (if_neg hlim))
        refine ⟨t, he, hframe, hr, fun a => hsent _ (repowerHall_tells _ a), ?_⟩
        rw [hman, hpass]
        exact repowerHall_man (s.taken (.resetFaultHall q))

/-! ### Causes -/

theorem settleStop_mail (s : State) : s.settleStop.mail = s.mail ++
    (if s.allBraked then
      match s.man.state with
      | .holding => [.latchEvent (.stop .held none)]
      | .stopping => [.latchEvent (.stop .stopped none)]
      | _ => []
    else []) := by
  unfold State.settleStop
  split
  · cases s.man.state <;> simp [State.setStop]
  · simp

/-- What an entry to a stop sends: the STOP event, the orders, and the STOP event of a hall found braked (R154, R157,
R159). -/
def entryReports (c : Cause) (braked : Bool) : Category → List Instr
  | .hold => [.latchEvent (.stop .holding (some c.kind))] ++ Idx8.all.map .holdOrder ++ [.planHoldOrder] ++
      if braked then [.latchEvent (.stop .held none)] else []
  | .quick => [.latchEvent (.stop .stopping (some c.kind))] ++ Idx8.all.map .quickStopOrder ++
      [.emptyPendingList .stop, .planStopOrder .stop] ++ if braked then [.latchEvent (.stop .stopped none)] else []
  | .trip => allAxes.map (fun a => Instr.contactorReport a false) ++ [.latchEvent (.stop .tripped (some c.kind))] ++
      Idx8.all.map .tripOrder ++ [.arbiterTripReport, .emptyPendingList .trip, .planStopOrder .trip]

theorem enterHold_mail (s : State) (c : Cause) :
    (s.enterHold c).mail = s.mail ++ entryReports c s.allBraked .hold := by
  rw [State.enterHold, settleStop_mail]
  simp [State.setStop, State.allBraked, entryReports]
  rfl

theorem enterQuick_mail (s : State) (c : Cause) :
    (s.enterQuick c).mail = s.mail ++ entryReports c s.allBraked .quick := by
  rw [State.enterQuick, settleStop_mail]
  simp [State.setStop, State.allBraked, entryReports]
  rfl

theorem enterTrip_mail (s : State) (c : Cause) :
    (s.enterTrip c).mail = s.mail ++ entryReports c s.allBraked .trip := by
  simp [State.enterTrip, State.setStop, State.setContactor, entryReports]

/-- The FAULT event of a cause, which the HOLD and STOP requests do not raise (R153). -/
def causeEvents (c : Cause) (took : Bool) : List Instr :=
  if c.kind = .hold ∨ c.kind = .stop then [] else [.latchEvent (.fault c.kind c.tier c.axis took)]

theorem raiseFault_mail (s : State) (c : Cause) (b : Bool) : (s.raiseFault c b).mail = s.mail ++ causeEvents c b := by
  unfold State.raiseFault causeEvents
  split <;> simp

theorem raiseFault_allBraked (s : State) (c : Cause) (b : Bool) : (s.raiseFault c b).allBraked = s.allBraked := by
  unfold State.allBraked
  rw [raiseFault_man]

/-- A cause of a category sends its FAULT event, and where it takes effect the reports of the entry. -/
theorem takeCause_mail (s : State) {c : Cause} {cat : Category} (hcat : categoryOf c.kind = some cat) :
    (s.takeCause c).mail = s.mail ++ causeEvents c (takesEffect s.man.state cat) ++
      if takesEffect s.man.state cat then entryReports c s.allBraked cat else [] := by
  by_cases he : takesEffect s.man.state cat = true
  · rw [he, if_pos rfl]
    cases cat
    · rw [takeCause_hold s hcat he, enterHold_mail, raiseFault_mail, raiseFault_allBraked]
      rfl
    · rw [takeCause_quick s hcat he, enterQuick_mail, raiseFault_mail, raiseFault_allBraked]
      rfl
    · rw [takeCause_trip s hcat he, enterTrip_mail, raiseFault_mail, raiseFault_allBraked]
      rfl
  · rw [takeCause_of_no_effect s hcat (by simpa using he), raiseFault_mail]
    simp [he]

/-- The entry to a stop raises no FAULT of its own. -/
theorem fault_not_mem_entryReports (c : Cause) (b : Bool) (cat : Category) (k : Kind) (u : Option Tier) (a : Option Axis)
    (took : Bool) : Instr.latchEvent (.fault k u a took) ∉ entryReports c b cat := by
  cases cat <;> cases b <;> simp [entryReports]

theorem takesEffect_iff {c : Cause} {cat : Category} (hcat : categoryOf c.kind = some cat) (st : StopState) :
    takesEffect st cat = true ↔
      (categoryOf c.kind = some .hold ∧ st = .clear) ∨
      (categoryOf c.kind = some .quick ∧ (st = .clear ∨ st = .holding ∨ st = .held)) ∨
      (categoryOf c.kind = some .trip ∧ st ≠ .tripped) := by
  rw [hcat]
  cases cat <;> simp [takesEffect_hold_iff, takesEffect_quick_iff, takesEffect_trip_iff]

/-! ### What a cause leaves of the stop manager -/

theorem takeCause_man_of_no_effect (s : State) {c : Cause} {cat : Category} (hcat : categoryOf c.kind = some cat)
    (he : ¬takesEffect s.man.state cat = true) : (s.takeCause c).man = recordedOnly s.man c.kind := by
  rw [takeCause_of_no_effect s hcat (by simpa using he), raiseFault_man, countCause_further_man]

theorem takeCause_man_of_hold (s : State) {c : Cause} (hcat : categoryOf c.kind = some .hold)
    (he : takesEffect s.man.state .hold = true) :
    (s.takeCause c).man = { recordedOnly s.man c.kind with state := if s.allBraked then .held else .holding } := by
  rw [takeCause_hold s hcat he, enterHold_man, raiseFault_man, raiseFault_allBraked, countCause_further_man]
  rfl

theorem takeCause_man_of_quick (s : State) {c : Cause} (hcat : categoryOf c.kind = some .quick)
    (he : takesEffect s.man.state .quick = true) :
    (s.takeCause c).man = { s.man with
      state := if s.allBraked then .stopped else .stopping
      seen := s.man.seen ||| kindSet c.kind
      record := some (recordOf c s.clock)
      emptying := true } := by
  rw [takeCause_quick s hcat he, enterQuick_man, raiseFault_man, raiseFault_allBraked, raiseFault_clock,
    countCause_captures_man]
  rfl

/-- A trip from a state in which no fault stands captures the record; from any other it is a further fault. -/
theorem takeCause_man_of_trip (s : State) {c : Cause} (hcat : categoryOf c.kind = some .trip)
    (he : takesEffect s.man.state .trip = true) :
    (s.takeCause c).man =
      if capturesFrom s.man.state then
        { s.man with
          state := .tripped, contactor := false, repower := none, seen := s.man.seen ||| kindSet c.kind
          record := some (recordOf c s.clock), emptying := true }
      else { recordedOnly s.man c.kind with state := .tripped, contactor := false, repower := none } := by
  rw [takeCause_trip s hcat he, enterTrip_man, raiseFault_man, raiseFault_clock]
  cases hc : capturesFrom s.man.state
  · rw [countCause_further_man]
    simp [recordedOnly, hc]
  · rw [countCause_captures_man]
    simp [hc]

theorem capturesFrom_iff (st : StopState) : capturesFrom st = true ↔ st = .clear ∨ st = .holding ∨ st = .held := by
  cases st <;> simp [capturesFrom]

/-- Settles O29: `takeCause` by the category and by whether it takes effect. -/
theorem causesTakeEffectByStopState : Obligations.CausesTakeEffectByStopState := by
  intro c s hs hcat
  obtain ⟨cat, hcat⟩ := Option.ne_none_iff_exists'.mp hcat
  have hmail := takeCause_mail (s.taken (.causeReport c)) hcat
  rw [taken_man] at hmail
  refine ⟨_, exec_live (.causeReport c) (execCauseReport.eq_1 ..) hs, takeCause_frame _ _, fun took htook => ?_, fun h => ?_,
    fun h => ?_, fun h => ?_⟩
  · have htook : took = takesEffect s.man.state cat := Bool.eq_iff_iff.mpr (htook.trans (takesEffect_iff hcat _).symm)
    subst htook
    refine ⟨fun h1 h2 => ?_, fun h k u a b hmem => ?_, fun h => ?_⟩
    · rw [hmail]
      simp [causeEvents, h1, h2]
    · rw [hmail, causeEvents, if_pos h, List.append_nil, List.mem_append] at hmem
      rcases hmem with hmem | hmem
      · exact List.mem_of_mem_erase hmem
      · split at hmem
        · exact (fault_not_mem_entryReports c _ cat k u a b hmem).elim
        · cases hmem
    · rw [hmail, h, if_neg (by decide), List.append_nil]
      rfl
  all_goals obtain rfl := Option.some.inj (hcat.symm.trans h)
  · split
    · next hclear =>
      have he := (takesEffect_hold_iff s.man.state).2 hclear
      rw [if_pos he] at hmail
      refine ⟨takeCause_man_of_hold (s.taken _) hcat he, ?_, fun h => ?_, fun u => ?_, ?_⟩ <;> rw [hmail]
      · simp [entryReports]
      · have h : (s.taken (.causeReport c)).allBraked = true := h
        simp [entryReports, h]
      · simp [entryReports, Idx8.mem_all]
      · simp [entryReports]
    · next hclear => exact takeCause_man_of_no_effect (s.taken _) hcat (hclear ∘ (takesEffect_hold_iff _).1)
  · split
    · next hclear =>
      have he := (takesEffect_quick_iff s.man.state).2 hclear
      rw [if_pos he] at hmail
      refine ⟨takeCause_man_of_quick (s.taken _) hcat he, ?_, fun h => ?_, fun u => ?_, ?_, ?_⟩ <;> rw [hmail]
      · simp [entryReports]
      · have h : (s.taken (.causeReport c)).allBraked = true := h
        simp [entryReports, h]
      · simp [entryReports, Idx8.mem_all]
      · simp [entryReports]
      · simp [entryReports]
    · next hclear => exact takeCause_man_of_no_effect (s.taken _) hcat (hclear ∘ (takesEffect_quick_iff _).1)
  · split
    · next htrip =>
      exact takeCause_man_of_no_effect (s.taken _) hcat fun he => (takesEffect_trip_iff _).1 he htrip
    · next htrip =>
      have he := (takesEffect_trip_iff s.man.state).2 htrip
      have hman := takeCause_man_of_trip (s.taken (.causeReport c)) hcat he
      rw [if_pos he] at hmail
      refine ⟨?_, ?_, fun u => ?_, fun a => ?_, ?_, ?_, ?_⟩
      · split
        · next h => exact hman.trans (if_pos ((capturesFrom_iff _).2 h))
        · next h => exact hman.trans (if_neg (h ∘ (capturesFrom_iff _).1))
      all_goals rw [hmail]
      · simp [entryReports]
      · simp [entryReports, Idx8.mem_all]
      · simp [entryReports, mem_allAxes]
      · simp [entryReports]
      · simp [entryReports]
      · simp [entryReports]

/-! ### Field inputs -/

/-- A trip cause leaves the hall TRIPPED, the contactor open unless it was TRIPPED before; the inputs are as they stood. -/
theorem takeCause_trips (s : State) {c : Cause} (hcat : categoryOf c.kind = some .trip) :
    (s.takeCause c).man.state = .tripped ∧
      (s.takeCause c).man.contactor = (s.man.contactor && s.man.state == .tripped) ∧
      (s.takeCause c).man.estop = s.man.estop ∧ (s.takeCause c).man.exempt = s.man.exempt := by
  by_cases he : takesEffect s.man.state .trip = true
  · have hne := (takesEffect_trip_iff _).1 he
    rw [takeCause_man_of_trip s hcat he]
    split <;> exact ⟨rfl, by simp [hne], rfl, rfl⟩
  · have hst : s.man.state = .tripped := by simpa [takesEffect_trip_iff] using he
    rw [takeCause_man_of_no_effect s hcat he]
    exact ⟨hst, by simp [recordedOnly, hst], rfl, rfl⟩

/-- From `s` to `t` nothing differs but the stop manager, the axes, the flag of a pass asked for and the reports in
flight. -/
def OnlyInputs (s t : State) : Prop :=
  t = { s with
    axes := t.axes, man := t.man, arb := { s.arb with passRequested := t.arb.passRequested }, mail := t.mail }

theorem OnlyHall.onlyInputs {s t : State} (h : OnlyHall s t) : OnlyInputs s t := by
  unfold OnlyHall at h
  unfold OnlyInputs
  rw [h]

theorem OnlyInputs.trans {s t u : State} (h : OnlyInputs s t) (g : OnlyInputs t u) : OnlyInputs s u := by
  unfold OnlyInputs at *
  rw [g, h]

theorem OnlyHall.axis {s t : State} (h : OnlyHall s t) (a : Axis) : t.axis a = s.axis a := by
  unfold OnlyHall at h
  rw [h]
  rfl

theorem onlyHall_takeCause (s : State) (c : Cause) : OnlyHall s (s.takeCause c) := OnlyMan.onlyHall (takeCause_frame s c)

theorem takeCause_passRequested (s : State) (c : Cause) :
    (s.takeCause c).arb.passRequested = s.arb.passRequested := by
  have h : OnlyMan s (s.takeCause c) := takeCause_frame s c
  unfold OnlyMan at h
  rw [h]

/-- What follows the new level of a limit input: the exemption ends with the level, a pass is asked for, LIMIT_HIT. -/
def State.limitJudged (s : State) (a : Axis) (active : Bool) : State :=
  let s2 := if active then s else s.setExempt a false
  if s2.axisPresent a then
    let s3 := s2.requestPass
    if active && (s3.axis a).released then s3.takeCause (s3.axisCause a .limitHit) else s3
  else s2

theorem limitChanged_of_ne {s : State} {a : Axis} {b : Bool} (h : (s.axis a).limit ≠ b) :
    s.limitChanged a b = (s.modAxis a fun x => { x with limit := b }).limitJudged a b := if_neg h

theorem onlyHall_setExempt (s : State) (a : Axis) (b : Bool) : OnlyHall s (s.setExempt a b) := (onlyMan_modMan s _).onlyHall

theorem setExempt_isExempt (s : State) (a : Axis) (b : Bool) : (s.setExempt a b).isExempt a = b := by
  simp [State.isExempt, State.setExempt]

/-- What a limit input's new level leads to, beyond the level. -/
theorem limitJudged_judged (s : State) (a : Axis) (b : Bool) :
    OnlyHall s (s.limitJudged a b) ∧
      (s.axisPresent a = true → (s.limitJudged a b).arb.passRequested = true) ∧
      (b = false → (s.limitJudged a b).isExempt a = false) ∧
      (s.axisPresent a = true → b = true → (s.axis a).released = true → (s.limitJudged a b).man.state = .tripped) ∧
      (s.axisPresent a = false ∨ b = false ∨ (s.axis a).released = false →
        (s.limitJudged a b).man = { s.man with exempt := (s.limitJudged a b).man.exempt }) := by
  cases b with
  | false =>
    have h : s.limitJudged a false =
        if s.axisPresent a then (s.setExempt a false).requestPass else s.setExempt a false := rfl
    cases hp : s.axisPresent a with
    | true =>
      rw [h, if_pos hp]
      refine ⟨(onlyHall_setExempt s a false).trans (onlyHall_requestPass _), fun _ => requestPass_passRequested _, fun _ => ?_,
        fun _ h => (by cases h), fun _ => ?_⟩
      · rw [State.isExempt, requestPass_man]
        exact setExempt_isExempt s a false
      · rw [requestPass_man]
        rfl
    | false =>
      rw [h, if_neg (by simp [hp])]
      exact ⟨onlyHall_setExempt s a false, fun h => (by cases h), fun _ => setExempt_isExempt s a false,
        fun h => (by cases h), fun _ => rfl⟩
  | true =>
    have h : s.limitJudged a true =
        if s.axisPresent a then
          if (s.requestPass.axis a).released then s.requestPass.takeCause (s.requestPass.axisCause a .limitHit)
          else s.requestPass
        else s := rfl
    have hrel : (s.requestPass.axis a).released = (s.axis a).released := by rw [(onlyHall_requestPass s).axis]
    cases hp : s.axisPresent a with
    | true =>
      rw [h, if_pos hp, hrel]
      cases hr : (s.axis a).released with
      | true =>
        rw [if_pos rfl]
        exact ⟨(onlyHall_requestPass s).trans (onlyHall_takeCause ..),
          fun _ => (takeCause_passRequested ..).trans (requestPass_passRequested s), fun h => (by cases h),
          fun _ _ _ => (takeCause_trips _ rfl).1, fun h => (by simp at h)⟩
      | false =>
        rw [if_neg (by decide)]
        exact ⟨onlyHall_requestPass s, fun _ => requestPass_passRequested s, fun h => (by cases h), fun _ _ h => (by cases h),
          fun _ => by rw [requestPass_man]⟩
    | false =>
      rw [h, if_neg (by simp [hp])]
      exact ⟨.refl s, fun h => (by cases h), fun h => (by cases h), fun h => (by cases h), fun _ => rfl⟩

/-- What follows the new level of a drive-ready input of a present axis: a pass is asked for, DRIVE_LOST, and the test of
REPOWERING. -/
def State.readyJudged (s : State) (a : Axis) (ready : Bool) : State :=
  if s.axisPresent a then
    let s2 := s.requestPass
    let s3 := if !ready && (s2.axis a).released then s2.takeCause (s2.axisCause a .driveLost) else s2
    s3.testDrives
  else s

theorem readyChanged_of_ne {s : State} {a : Axis} {b : Bool} (h : (s.axis a).ready ≠ b) :
    s.readyChanged a b = (s.modAxis a fun x => { x with ready := b }).readyJudged a b := if_neg h

theorem testDrives_of_not_repowering {s : State} (h : s.man.state ≠ .repowering) : s.testDrives = s :=
  if_neg fun e => h e.1

theorem OnlyHall.drivesNotReady {s t : State} (h : OnlyHall s t) : t.drivesNotReady = s.drivesNotReady := by
  unfold OnlyHall at h
  rw [h]
  rfl

theorem testDrives_passRequested {s : State} (h : s.arb.passRequested = true) :
    s.testDrives.arb.passRequested = true := by
  unfold State.testDrives
  split
  · exact toClear_passRequested _
  · exact h

/-- What a drive-ready input's new level leads to, beyond the level. -/
theorem readyJudged_judged (s : State) (a : Axis) (b : Bool) :
    OnlyHall s (s.readyJudged a b) ∧
      (s.axisPresent a = true → (s.readyJudged a b).arb.passRequested = true) ∧
      (s.axisPresent a = true → b = false → (s.axis a).released = true → (s.readyJudged a b).man.state = .tripped) ∧
      (s.axisPresent a = false ∨ (s.axis a).released = false ∨ b = true → s.man.state ≠ .repowering →
        (s.readyJudged a b).man = s.man) ∧
      (s.man.state = .repowering → s.axisPresent a = true → b = true →
        (s.drivesNotReady = [] →
          (s.readyJudged a b).man =
            { s.man with state := .clear, repower := none, record := none, seen := 0, further := 0 } ∧
          Instr.latchEvent (.stop .clear none) ∈ (s.readyJudged a b).mail) ∧
        (s.drivesNotReady ≠ [] → (s.readyJudged a b).man = s.man)) := by
  have hrel : (s.requestPass.axis a).released = (s.axis a).released := by rw [(onlyHall_requestPass s).axis]
  have h : s.readyJudged a b =
      if s.axisPresent a then
        (if !b && (s.requestPass.axis a).released then s.requestPass.takeCause (s.requestPass.axisCause a .driveLost)
        else s.requestPass).testDrives
      else s := rfl
  cases hp : s.axisPresent a with
  | false =>
    rw [h, if_neg (by simp [hp])]
    exact ⟨.refl s, fun h => (by cases h), fun h => (by cases h), fun _ _ => rfl, fun _ h => (by cases h)⟩
  | true =>
    rw [h, if_pos hp, hrel]
    by_cases hlost : (!b && (s.axis a).released) = true
    · rw [if_pos hlost]
      rw [Bool.and_eq_true, Bool.not_eq_true'] at hlost
      obtain ⟨rfl, hr⟩ := hlost
      have htrip := (takeCause_trips (c := s.requestPass.axisCause a .driveLost) s.requestPass rfl).1
      rw [testDrives_of_not_repowering (by rw [htrip]; decide)]
      exact ⟨(onlyHall_requestPass s).trans (onlyHall_takeCause ..),
        fun _ => (takeCause_passRequested ..).trans (requestPass_passRequested s), fun _ _ _ => htrip,
        fun h => (by simp [hr] at h), fun _ _ h => (by cases h)⟩
    · rw [if_neg hlost]
      refine ⟨(onlyHall_requestPass s).trans (onlyHall_testDrives _),
        fun _ => testDrives_passRequested (requestPass_passRequested s), fun _ hb hr => absurd ?_ hlost, fun _ hst => ?_,
        fun hst _ _ => ⟨fun hn => ?_, fun hn => ?_⟩⟩
      · simp [hb, hr]
      · rw [testDrives_of_not_repowering (by rwa [requestPass_man]), requestPass_man]
      · rw [testDrives_ready (by rwa [requestPass_man]) ((onlyHall_requestPass s).drivesNotReady.trans hn), toClear_man]
        refine ⟨?_, stopEvent_mem_toClear _⟩
        simp [State.clearRecord, requestPass_man]
      · rw [testDrives_not_ready (by rwa [(onlyHall_requestPass s).drivesNotReady]), requestPass_man]

theorem drivesNotReady_eq_nil_iff (s : State) :
    s.drivesNotReady = [] ↔ ∀ a, s.axisPresent a = true → (s.axis a).ready = true := by
  simp [State.drivesNotReady, List.filter_eq_nil_iff, mem_allAxes]

/-- Settles O31: the level by itself, then `takeCause`, `limitJudged` and `readyJudged`. -/
theorem fieldInputsAreKeptAndJudged : Obligations.FieldInputsAreKeptAndJudged := by
  refine ⟨fun b s hs => ?_, fun a b s hs hne => ?_, fun a b s hs hne => ?_⟩
  · refine ⟨_, (execEstopInputChange.eq_1 ..).trans (inputChange_of_not_held _ _ _ hs), ?_⟩
    dsimp only
    by_cases h : (b && !(s.taken (.estopInputChange b)).man.estop) = true
    · rw [if_pos h]
      rw [Bool.and_eq_true, Bool.not_eq_true', taken_man] at h
      obtain ⟨rfl, hestop⟩ := h
      obtain ⟨hst, hcon, hes, -⟩ := takeCause_trips (c := bareCause .estop)
        ((s.taken (.estopInputChange true)).modMan fun m => { m with estop := true }) rfl
      refine ⟨takeCause_frame .., hes, fun _ _ => ⟨hst, hcon⟩, fun h => ?_⟩
      rcases h with h | h
      · cases h
      · exact absurd (hestop.symm.trans h) (by decide)
    · rw [if_neg h]
      exact ⟨rfl, rfl, fun hb he => absurd (by simp [hb, he]) h, fun _ => rfl⟩
  · refine ⟨_, (execLimitInputChange.eq_1 ..).trans (inputChange_of_not_held _ _ _ hs), ?_⟩
    rw [limitChanged_of_ne (by simpa using hne)]
    generalize hx : ((s.taken (.limitInputChange a b)).modAxis a fun x => { x with limit := b }) = x
    have hlevel : OnlyInputs s x := by subst hx; rfl
    have hax : x.axis a = { s.axis a with limit := b } := by simp [← hx]
    have hother (v : Axis) (hv : v ≠ a) : x.axis v = s.axis v := by simp [← hx, State.modAxis_axis, hv]
    have hpres : x.axisPresent a = s.axisPresent a := by subst hx; rfl
    have hxman : x.man = s.man := by subst hx; rfl
    obtain ⟨hframe, hpass, hexempt, htrip, hman⟩ := limitJudged_judged x a b
    rw [hpres] at hpass htrip hman
    rw [hax] at htrip hman
    rw [hxman] at hman
    exact ⟨hlevel.trans hframe.onlyInputs, (hframe.axis a).trans hax, fun v hv => (hframe.axis v).trans (hother v hv), hpass,
      hexempt, htrip, hman⟩
  · refine ⟨_, (execDriveReadyChange.eq_1 ..).trans (inputChange_of_not_held _ _ _ hs), ?_⟩
    rw [readyChanged_of_ne (by simpa using hne)]
    generalize hx : ((s.taken (.driveReadyChange a b)).modAxis a fun x => { x with ready := b }) = x
    have hlevel : OnlyInputs s x := by subst hx; rfl
    have hax : x.axis a = { s.axis a with ready := b } := by simp [← hx]
    have hother (v : Axis) (hv : v ≠ a) : x.axis v = s.axis v := by simp [← hx, State.modAxis_axis, hv]
    have hpres (v : Axis) : x.axisPresent v = s.axisPresent v := by subst hx; rfl
    have hxman : x.man = s.man := by subst hx; rfl
    obtain ⟨hframe, hpass, htrip, hman, htest⟩ := readyJudged_judged x a b
    have hready : x.drivesNotReady = [] ↔
        (s.axisPresent a = true → b = true) ∧ ∀ v, v ≠ a → s.axisPresent v = true → (s.axis v).ready = true := by
      rw [drivesNotReady_eq_nil_iff]
      refine ⟨fun h => ⟨fun hp => ?_, fun v hv hp => ?_⟩, fun h v hp => ?_⟩
      · simpa [hax] using h a ((hpres a).trans hp)
      · simpa [hother v hv] using h v ((hpres v).trans hp)
      · rw [hpres] at hp
        obtain rfl | hv := eq_or_ne v a
        · rw [hax]
          exact h.1 hp
        · rw [hother v hv]
          exact h.2 v hv hp
    rw [hpres] at hpass htrip hman htest
    rw [hax] at htrip hman
    rw [hxman] at hman htest
    refine ⟨hlevel.trans hframe.onlyInputs, (hframe.axis a).trans hax, fun v hv => (hframe.axis v).trans (hother v hv), hpass,
      htrip, hman, fun hst hp hb => ⟨fun hall => ?_, fun v hv hp' hnr => ?_⟩⟩
    · exact (htest hst hp hb).1 (hready.2 ⟨fun _ => hb, hall⟩)
    · refine (htest hst hp hb).2 fun hnil => ?_
      exact absurd ((hready.1 hnil).2 v hv hp') (by simp [hnr])

end Sys2Proof.Machine

/-! SUPPORT. Admission: move numbers, MOVE, CANCEL, the ends of moves and MOVE_STATUS (O18, O33 to O36). -/

namespace Sys2Proof.Machine

open Sys2Proof

/-! ### Move numbers -/

/-- A number that a search passes over. -/
def Blocked (used : List Nat) (n : Nat) : Prop := n = 0 ∨ n ∈ used

theorem nextAfter_eq {n : Nat} (h : n < 65536) : nextAfter n = (n + 1) % 65536 := by
  unfold nextAfter
  split <;> omega

/-- The search goes through the numbers from `n` on, passing over those that are blocked, and stops at the first that is
not, or with its last try. -/
theorem allocate_search (used : List Nat) (fuel n : Nat) (hn : n < 65536) :
    ∃ j ≤ fuel, allocate used fuel n = (n + j) % 65536 ∧ (∀ i < j, Blocked used ((n + i) % 65536)) ∧
      (Blocked used (allocate used fuel n) → j = fuel) := by
  induction fuel generalizing n with
  | zero => exact ⟨0, le_rfl, (Nat.mod_eq_of_lt hn).symm, fun i hi => absurd hi (Nat.not_lt_zero i), fun _ => rfl⟩
  | succ fuel ih =>
    unfold allocate
    split
    · next hb =>
      obtain ⟨j, hj, he, hbefore, hlast⟩ := ih ((n + 1) % 65536) (Nat.mod_lt _ (by decide))
      have hshift (i : Nat) : ((n + 1) % 65536 + i) % 65536 = (n + (i + 1)) % 65536 := by omega
      rw [nextAfter_eq hn]
      refine ⟨j + 1, by omega, he.trans (hshift j), fun i hi => ?_, fun h => by rw [hlast h]⟩
      cases i with
      | zero => rw [Nat.add_zero, Nat.mod_eq_of_lt hn]; exact hb
      | succ i => exact hshift i ▸ hbefore i (by omega)
    · next hb =>
      exact ⟨0, Nat.zero_le _, (Nat.mod_eq_of_lt hn).symm, fun i hi => absurd hi (Nat.not_lt_zero i), fun h => absurd h hb⟩

/-- With one try more than there are numbers in use, the search finds one that is free. -/
theorem allocate_not_blocked (used : List Nat) (n : Nat) (hn : n < 65536) (hused : used.length < 65535) :
    ¬Blocked used (allocate used (used.length + 1) n) := by
  intro hb
  obtain ⟨j, hj, he, hbefore, hlast⟩ := allocate_search used (used.length + 1) n hn
  obtain rfl := hlast hb
  have hall (i : Nat) (hi : i < used.length + 2) : Blocked used ((n + i) % 65536) := by
    obtain hlt | rfl := Nat.lt_succ_iff_lt_or_eq.mp hi
    · exact hbefore i hlt
    · exact he ▸ hb
  have hcard : (Finset.range (used.length + 2)).card ≤ (insert 0 used.toFinset).card := by
    refine Finset.card_le_card_of_injOn (fun i => (n + i) % 65536) (fun i hi => ?_) fun i hi k hk e => ?_
    · simpa [Blocked] using hall i (by simpa using hi)
    · simp only [Finset.coe_range, Set.mem_Iio] at hi hk e
      omega
  have hle : (insert 0 used.toFinset).card ≤ used.length + 1 :=
    (Finset.card_insert_le ..).trans (Nat.succ_le_succ used.toFinset_card_le)
  rw [Finset.card_range] at hcard
  omega

/-- Settles O33: the number found is none of those in use. -/
theorem freshNumbersAreNotInUse : Obligations.FreshNumbersAreNotInUse := by
  intro s hlast hused
  have hn : nextAfter s.adm.lastNumber < 65536 := by
    unfold nextAfter
    split <;> omega
  have hfree : ¬Blocked s.usedNumbers s.freshNumber := allocate_not_blocked _ _ hn hused
  obtain ⟨j, -, he, -, -⟩ := allocate_search s.usedNumbers (s.usedNumbers.length + 1) (nextAfter s.adm.lastNumber) hn
  have hrange : s.freshNumber < 65536 := by
    unfold State.freshNumber
    rw [he]
    exact Nat.mod_lt _ (by decide)
  generalize s.freshNumber = n at hfree hrange
  obtain ⟨hpos, hunused⟩ := not_or.mp hfree
  simp only [State.usedNumbers, List.mem_append, List.mem_map, List.mem_filterMap, List.mem_flatMap, Idx8.mem_all, true_and,
    not_or, not_exists, not_and, Option.map_eq_some_iff] at hunused
  obtain ⟨⟨⟨hwaiting, hslot⟩, hending⟩, houtcomes⟩ := hunused
  exact ⟨by omega, by omega, hwaiting, fun t a ha => hslot t a ha, fun t e he => hending t e he, houtcomes⟩

/-! ### The ends of moves -/

/-- Settles O36: one end by `pushOutcome_eq`, every pending move by `endEach_frame`, and STOP by `takeCause`. -/
theorem endsAreRecordedOldestFirst : Obligations.EndsAreRecordedOldestFirst := by
  refine ⟨fun e s hs hout => ⟨_, exec_live (.moveEndReport e) (execMoveEndReport.eq_1 ..) hs, ?_⟩,
    fun r s hs hout => ⟨_, exec_live (.emptyPendingList r) (execEmptyPendingList.eq_1 ..) hs, ?_⟩, fun q s hs => ?_⟩
  · rw [dropEnding_eq, State.recordEnd]
    simp only [State.raise, State.emit, State.modAdm, taken_adm, taken_mail, pushOutcome_eq _ _ hout]
    rfl
  · obtain ⟨hadm, hframe, hends, -⟩ := endEach_frame s.adm.waiting .cancelled r
      ((s.taken (.emptyPendingList r)).modMan fun m => { m with emptying := false }) hout
    have hnil : s.adm.waiting.filter (fun y => !(s.adm.waiting.map (·.number)).contains y.number) = [] :=
      List.filter_eq_nil_iff.mpr fun m hm => by simpa using ⟨m, hm, rfl⟩
    rw [State.modMan_adm, taken_adm, hnil] at hadm
    refine ⟨hadm, hends, ?_⟩
    rw [taken_adm]
    generalize (State.forEach _ _ _ : State) = t at hframe ⊢
    have harb : t.arb = { s.arb with armed := t.arb.armed, passRequested := t.arb.passRequested } := by
      rw [hframe]
      dsimp only
      split <;> rfl
    have hif : t.arb = if s.adm.waiting = [] then s.arb else { s.arb with armed := true, passRequested := true } :=
      congrArg State.arb hframe
    refine hframe.trans ?_
    rw [← harb, hif]
    rfl
  · obtain ⟨t, ht, -, hman, -⟩ := request_causeAnswer (.stop q) q 0x1A .stop hs
    refine ⟨t, (exec_stop q s).trans ht, ?_⟩
    rw [hman]
    by_cases he : takesEffect s.man.state .quick = true
    · rw [takeCause_man_of_quick (s.taken _) rfl he]
      rcases (takesEffect_quick_iff _).1 he with h | h | h <;> simp [h]
    · rw [takeCause_man_of_no_effect (s.taken _) (cat := .quick) rfl he]
      rw [takesEffect_quick_iff, not_or, not_or] at he
      obtain ⟨hclear, hholding, hheld⟩ := he
      simp [recordedOnly, beq_false_of_ne hclear, beq_false_of_ne hholding, beq_false_of_ne hheld]

/-! ### CANCEL -/

/-- A plan's step is told of its move's end. -/
theorem endPending_stepEnd (s : State) {m : MoveRec} (o : MoveOutcome) (r : Reason) {p : PlanNo} {k : Nat}
    (h : m.origin = .plan p k) : Instr.stepEnd m.number o r ∈ (s.endPending m o r).mail := by
  simp only [State.endPending, h, listChanged_eq]
  split <;> simp

/-- Settles O35: by the place of the number. -/
theorem cancelWithdrawsAPendingMove : Obligations.CancelWithdrawsAPendingMove := by
  intro q s hs hq
  have hcancel (n : Nat) : (s.taken (.cancel q n)).cancelAnswer q n =
      if n = 0 then (s.taken (.cancel q n)).refuse .badValue
      else
        match s.adm.waiting.find? fun m => m.number == n with
        | some m => ((s.taken (.cancel q n)).endPending m .cancelled .operator).answer .ok
            (beBytes 2 m.number ++ beBytes 2 m.hostTag)
        | none =>
          if Idx8.all.any fun t => (s.seq t).slot.any fun a => a.move.number == n then
            (s.taken (.cancel q n)).refuse .busy
          else (s.taken (.cancel q n)).refuse .notFound :=
    if_neg (by simpa [isHolder_iff] using hq)
  refine ⟨exec_unchanged (.cancel q 0) (execCancel.eq_1 ..) hs ((hcancel 0).trans rfl), fun n m hn hfind hout => ?_,
    fun n hn hnone => ?_⟩
  · have hnum : m.number = n := by simpa using List.find?_some hfind
    obtain ⟨hadm, hframe, hend, hfreed, -⟩ := endPending_frame (s.taken (.cancel q n)) m .cancelled .operator
    obtain ⟨t, he, ho, hr, hsent⟩ := exec_replied (.cancel q n)
      (t' := (s.taken (.cancel q n)).endPending m .cancelled .operator) (st := .ok)
      (body := beBytes 2 m.number ++ beBytes 2 m.hostTag)
      (execCancel.eq_1 ..) hs ((hcancel n).trans (by rw [if_neg hn, hfind]; rfl)) (by rw [hframe]; rfl)
    rw [taken_adm, pushOutcome_eq _ _ hout, hnum] at hadm
    refine ⟨t, he, ?_, hnum ▸ hr, hsent _ hend, hsent _ hfreed, fun p k hp => hsent _ (hnum ▸ endPending_stepEnd _ _ _ hp)⟩
    unfold OnlyPorts at ho
    rw [ho, hframe, hadm]
    rfl
  · have hfind : s.adm.waiting.find? (fun m => m.number == n) = none := by
      rw [List.find?_eq_none]
      exact fun m hm => by simpa using hnone m hm
    refine exec_unchanged (.cancel q n) (execCancel.eq_1 ..) hs ((hcancel n).trans ?_)
    rw [if_neg hn, hfind]
    dsimp only
    split <;> rfl

/-! ### MOVE_STATUS -/

/-- A search over a list that has one answer only finds it. -/
theorem findSome?_eq_some_of_unique {α β : Type} {l : List α} {f : α → Option β} {u : α} {e : β} (hu : u ∈ l)
    (he : f u = some e) (hunique : ∀ v ∈ l, ∀ x, f v = some x → x = e) : l.findSome? f = some e := by
  cases h : l.findSome? f with
  | none => exact absurd (List.findSome?_eq_none_iff.mp h u hu) (by simp [he])
  | some x =>
    obtain ⟨v, hv, hx⟩ := List.exists_of_findSome?_eq_some h
    rw [hunique v hv x hx]

/-- A number that is not pending is looked for among the active records, and then among the outcomes. -/
theorem moveStatusAnswer_of_not_pending (s : State) {n : Nat} (hn : n ≠ 0) (hnone : ∀ m ∈ s.adm.waiting, m.number ≠ n) :
    s.moveStatusAnswer n =
      match s.findActive n with
      | some e => (s, .ok, activeStatus e)
      | none =>
        match s.adm.outcomes.find? fun o => o.number == n with
        | some o => (s, .ok, 3 :: outcomeBytes o)
        | none => (s, .notFound, []) := by
  have hfind : s.adm.waiting.find? (fun m => m.number == n) = none :=
    List.find?_eq_none.mpr fun m hm => by simpa using hnone m hm
  unfold State.moveStatusAnswer
  rw [if_neg hn, hfind]
  generalize s.adm.waiting.findIdx? (fun m => m.number == n) = i
  cases i <;> rfl

/-- A number in one slot is found there. -/
theorem findActive_of_slot {s : State} {u : Tier} {a : Active} (ha : (s.seq u).slot = some a)
    (hunique : ∀ v b, (s.seq v).slot = some b → b.move.number = a.move.number → v = u) :
    s.findActive a.move.number = some ⟨a.move, a.stage⟩ := by
  unfold State.findActive
  rw [findSome?_eq_some_of_unique (e := ⟨a.move, a.stage⟩) (Idx8.mem_all u) (by simp [ha, Option.filter])]
  · rfl
  · intro v _ x hx
    obtain ⟨hx, hnum⟩ := Option.filter_eq_some_iff.mp hx
    obtain ⟨b, hb, rfl⟩ := Option.map_eq_some_iff.mp hx
    obtain rfl := hunique v b hb (by simpa using hnum)
    rw [ha] at hb
    obtain rfl := Option.some.inj hb
    rfl

/-- A number in no slot is looked for among the ends on their way. -/
theorem findActive_of_no_slot {s : State} {n : Nat} (hslot : ∀ v a, (s.seq v).slot = some a → a.move.number ≠ n) :
    s.findActive n = Idx8.all.findSome? fun t => (s.seq t).ending.find? fun e => e.move.number == n := by
  unfold State.findActive
  rw [List.findSome?_eq_none_iff.mpr]
  · rfl
  · intro v _
    rw [Option.filter_eq_none_iff]
    intro e he
    obtain ⟨a, ha, rfl⟩ := Option.map_eq_some_iff.mp he
    simpa using hslot v a ha

/-- Settles O18: place by place, in the order in which the answer looks. -/
theorem moveStatusAnswersByPlace : Obligations.MoveStatusAnswersByPlace := by
  intro q s hs
  have answers {n : Nat} {st : Status} {body : List Byte}
      (h : (s.taken (.moveStatus q n)).moveStatusAnswer n = (s.taken (.moveStatus q n), st, body)) :
      ∃ t, exec (.moveStatus q n) s = .next t ∧ Replied s t q 0x03 st body := by
    obtain ⟨t, he, -, hr, -⟩ := exec_unchanged (.moveStatus q n) (execMoveStatus.eq_1 ..) hs h
    exact ⟨t, he, hr⟩
  refine ⟨answers rfl, fun before after m hn hw hbefore => answers ?_, fun u a ha hn hnone hunique => answers ?_,
    fun u before after e hend hn hnone hslot hbefore hother => answers ?_, fun n o hn hnone hslot hend hout => answers ?_,
    fun n hn hnone hslot hend hout => answers ?_⟩
  · have hno : ∀ x ∈ before, ¬(x.number == m.number) = true := fun x hx => by simpa using hbefore x hx
    have hfind : s.adm.waiting.find? (fun x => x.number == m.number) = some m := by
      rw [hw, List.find?_append, List.find?_eq_none.mpr hno]
      simp
    have hidx : s.adm.waiting.findIdx? (fun x => x.number == m.number) = some before.length := by
      rw [hw, List.findIdx?_append, List.findIdx?_eq_none_iff.mpr fun x hx => by simpa using hbefore x hx]
      simp [List.findIdx?_cons]
    unfold State.moveStatusAnswer
    rw [if_neg hn, taken_adm, hfind, hidx]
    rfl
  · rw [moveStatusAnswer_of_not_pending (s.taken _) hn hnone, findActive_of_slot (s := s.taken _) (u := u) ha hunique]
    rfl
  · rw [moveStatusAnswer_of_not_pending (s.taken _) hn hnone, findActive_of_no_slot (s := s.taken _) hslot,
      findSome?_eq_some_of_unique (e := e) (Idx8.mem_all u)]
    · rfl
    · rw [taken_seq, hend, List.find?_append, List.find?_eq_none.mpr fun x hx => by simpa using hbefore x hx]
      simp
    · intro v _ x hx
      obtain rfl | hv := eq_or_ne v u
      · rw [taken_seq, hend, List.find?_append, List.find?_eq_none.mpr fun x hx => by simpa using hbefore x hx] at hx
        simpa using hx.symm
      · exact absurd (by simpa using List.find?_some hx) (hother v hv x (List.mem_of_find?_eq_some hx))
  · rw [moveStatusAnswer_of_not_pending (s.taken _) hn hnone, findActive_of_no_slot (s := s.taken _) hslot, List.findSome?_eq_none_iff.mpr, taken_adm, hout]
    intro v _
    exact List.find?_eq_none.mpr fun x hx => by simpa using hend v x hx
  · rw [moveStatusAnswer_of_not_pending (s.taken _) hn hnone, findActive_of_no_slot (s := s.taken _) hslot, List.findSome?_eq_none_iff.mpr, taken_adm,
      List.find?_eq_none.mpr fun x hx => by simpa using hout x hx]
    intro v _
    exact List.find?_eq_none.mpr fun x hx => by simpa using hend v x hx

/-! ### MOVE -/

@[simp] theorem taken_takesMove (s : State) (c : Instr) (o : Origin) : (s.taken c).takesMove o = s.takesMove o := rfl
@[simp] theorem taken_storedGoal (s : State) (c : Instr) (t : Tier) (g : Goal) :
    (s.taken c).storedGoal t g = s.storedGoal t g := rfl

theorem ofNat?_num (t : Idx8) : Idx8.ofNat? (Idx8.num t) = some t := by cases t <;> rfl

theorem classOfCode?_code (c : SpeedClass) : classOfCode? (classCode c).toNat = some c := by cases c <;> rfl

theorem admitsMoves_iff (st : StopState) : admitsMoves st = true ↔ st = .clear ∨ st = .holding ∨ st = .held := by
  cases st <;> simp [admitsMoves]

/-- The MOVE answer in RUN, from the holder. -/
theorem moveAnswer_of_holder {s : State} {q : Src} (hm : s.auth.mode = .run) (hq : s.auth.holder = some q.port)
    (tier kind target cls tag : Nat) :
    s.moveAnswer q tier kind target cls tag =
      if !s.takesMove .direct then s.refuse .stopped
      else
        match Idx8.ofNat? tier, (kindOfCode? kind).bind fun k => goalOf? k target, classOfCode? cls with
        | some t, some g, some c =>
          match s.admitMove t g c tag .direct with
          | (s1, .refused st) => s1.refuse st
          | (s1, .admitted m adjusted) =>
            s1.answer (if adjusted then .adjusted else .ok)
              (beBytes 2 m.number ++ beBytes 2 m.hostTag ++ beBytes 2 (goalValue m.goal))
        | _, _, _ => s.refuse .badValue := by
  unfold State.moveAnswer
  exact (if_neg (by simp [State.inRun, hm])).trans (if_neg (by simp [isHolder_iff, hq]))

/-- A submission that passes every check is admitted. -/
theorem admitMove_of_passes {s : State} {t : Tier} {g : Goal} {o : Origin} (htakes : s.takesMove o = true)
    (hpass : s.admissionFails t g = none) (c : SpeedClass) (tag : Nat) :
    s.admitMove t g c tag o =
      (s.appendMove (s.newRecord t g c tag o), .admitted (s.newRecord t g c tag o) (decide (s.storedGoal t g ≠ g))) := by
  unfold State.admitMove
  rw [if_neg (by simp [htakes]), hpass]
  rfl

theorem appendMove_eq (s : State) (m : MoveRec) : s.appendMove m = { s with
    adm := { s.adm with waiting := s.adm.waiting ++ [m], lastNumber := m.number }
    arb := { s.arb with armed := true, passRequested := true }, mail := (s.appendMove m).mail } := by
  unfold State.appendMove
  rw [listChanged_eq]
  rfl

/-- A MOVE whose fields name a tier, a target and a class, and that passes every check. -/
theorem exec_move_admitted {s : State} {q : Src} {u : Tier} {cls : SpeedClass} {tag kind target : Nat} {g : Goal}
    (hs : s.held = false) (hm : s.auth.mode = .run) (hq : s.auth.holder = some q.port)
    (htakes : s.takesMove .direct = true) (hg : ((kindOfCode? kind).bind fun k => goalOf? k target) = some g)
    (hpass : s.admissionFails u g = none) :
    ∃ t, exec (.move q (Idx8.num u) kind target (classCode cls).toNat tag) s = .next t ∧
      t = { s with
        adm := { s.adm with
          waiting := s.adm.waiting ++ [s.newRecord u g cls tag .direct], lastNumber := s.freshNumber }
        arb := { s.arb with armed := true, passRequested := true }, ports := t.ports, mail := t.mail } ∧
      Replied s t q 0x20 (if s.storedGoal u g = g then .ok else .adjusted)
        (beBytes 2 s.freshNumber ++ beBytes 2 tag ++ beBytes 2 (goalValue (s.storedGoal u g))) := by
  generalize hc : Instr.move q (Idx8.num u) kind target (classCode cls).toNat tag = c
  have happend := appendMove_eq (s.taken c) ((s.taken c).newRecord u g cls tag .direct)
  have hanswer := moveAnswer_of_holder (s := s.taken c) hm hq (Idx8.num u) kind target (classCode cls).toNat tag
  have hadmit := admitMove_of_passes (s := s.taken c) (o := .direct) htakes hpass cls tag
  rw [if_neg (by simpa using htakes), ofNat?_num, hg, classOfCode?_code] at hanswer
  dsimp only at hanswer
  rw [hadmit] at hanswer
  obtain ⟨t, he, ho, hr, -⟩ := exec_replied c (by rw [← hc]; exact execMove.eq_1 ..) hs hanswer (by
    have hports := congrArg State.ports happend
    exact hports)
  refine ⟨t, he, ?_, ?_⟩
  · unfold OnlyPorts at ho
    rw [ho]
    dsimp only [State.answer]
    rw [happend]
    rfl
  · by_cases hsame : s.storedGoal u g = g
    · rw [taken_storedGoal, if_neg fun hd => absurd hsame (of_decide_eq_true hd)] at hr
      rw [if_pos hsame]
      exact hr
    · rw [taken_storedGoal, if_pos (decide_eq_true hsame)] at hr
      rw [if_neg hsame]
      exact hr

/-- Settles O34: the checks of R23 pass by the hypotheses, one by one. -/
theorem admittedMovesJoinTheTail : Obligations.AdmittedMovesJoinTheTail := by
  intro q u cls tag s hs hm hq
  refine ⟨fun hemp hclear hholding hheld tier kind target speed => ?_, fun hst hpres hinh hlen =>
    ⟨fun n hn => ?_, fun h g hg => ?_⟩⟩
  · refine exec_unchanged (.move q tier kind target speed tag) (execMove.eq_1 ..) hs
      ((moveAnswer_of_holder (s := s.taken _) hm hq ..).trans (if_pos ?_))
    have hno : ¬admitsMoves s.man.state = true := by
      rw [admitsMoves_iff]
      exact not_or.mpr ⟨hclear, not_or.mpr ⟨hholding, hheld⟩⟩
    rw [taken_takesMove, takesMove_direct]
    simp [hno, hemp]
  all_goals
    have htakes : s.takesMove .direct = true := by
      rw [takesMove_direct, Bool.or_eq_true, admitsMoves_iff, or_assoc, or_assoc]
      exact hst
  · have hpass : s.admissionFails u (.rotate n) = none := by
      have hn : (s.stationAngle u n).isNone = false := by simpa using hn
      unfold State.admissionFails
      rw [if_neg (by simp [hpres]), if_neg (by simp [Goal.kind]), if_neg (by simp [hn]), if_neg (by simp [hinh])]
      exact if_neg (Nat.not_le.mpr hlen)
    obtain ⟨t, he, ht, hr⟩ := exec_move_admitted hs hm hq htakes (tag := tag) (cls := cls) (kind := 0) (target := Idx8.num n)
      (by simp [kindOfCode?, goalOf?, ofNat?_num]) hpass
    have hgoal : s.storedGoal u (.rotate n) = .rotate n := by simp [State.storedGoal]
    rw [State.newRecord, hgoal] at ht
    rw [hgoal, if_pos rfl] at hr
    exact ⟨t, he, ht, hr⟩
  · have hpass : s.admissionFails u (.tilt h) = none := by
      unfold State.admissionFails
      rw [if_neg (by simp [hpres]), if_neg (by simp [hg]), if_neg (by simp), if_neg (by simp [hinh])]
      exact if_neg (Nat.not_le.mpr hlen)
    obtain ⟨t, he, ht, hr⟩ := exec_move_admitted hs hm hq htakes (tag := tag) (cls := cls) (kind := 1) (target := h)
      rfl hpass
    have hgoal : s.storedGoal u (.tilt h) = .tilt (min g.jackMax (max g.jackMin h)) := by
      simp [State.storedGoal, hg, clampNat]
    refine ⟨t, he, ?_, ?_⟩
    · rw [State.newRecord, hgoal] at ht
      exact ht
    · rw [hgoal] at hr
      simpa [goalValue] using hr

end Sys2Proof.Machine

/-! SUPPORT. Profile steps and stop steps (O57). -/

namespace Sys2Proof.Machine

open Sys2Proof

/-- A velocity that a profile can stop from within `r`, the distance of its own step included. -/
def Fits (a r c : Nat) : Prop := c + brakeDist a c ≤ r

theorem brakeDist_zero (a : Nat) : brakeDist a 0 = 0 := by simp [brakeDist]

/-- From v the velocity v − a can always be taken. -/
theorem fits_slower {a v r : Nat} (ha : 1 ≤ a) (h : CanStop a v r) : Fits a r (v - a) := by
  unfold CanStop at h
  unfold Fits
  obtain hlt | hle := Nat.lt_or_ge v a
  · rw [Nat.sub_eq_zero_of_le hlt.le, brakeDist_zero]
    omega
  · rw [brakeDist_of_le ha hle] at h
    exact h

/-- The velocity chosen fits, and no candidate goes beyond the larger of the velocity and the cap. -/
theorem chosen_fits {a cap v r : Nat} (ha : 1 ≤ a) (h : CanStop a v r) :
    Fits a r (chosen a cap v r) ∧ chosen a cap v r ≤ max v cap := by
  have hmem : ∀ c ∈ candidates a cap v, c ≤ max v cap := by
    intro c hc
    unfold candidates at hc
    split at hc <;> simp only [List.mem_cons, List.not_mem_nil, or_false] at hc <;> omega
  unfold chosen
  cases hf : (candidates a cap v).find? fun c => decide (c + brakeDist a c ≤ r) with
  | none => exact ⟨fits_slower ha h, by simp only [Option.getD_none]; omega⟩
  | some c =>
    have hfit : c + brakeDist a c ≤ r := by simpa using List.find?_some hf
    exact ⟨hfit, hmem c (List.mem_of_find?_eq_some hf)⟩

/-- The velocity of a step: it fits or is a creep below `a`, and moves as long as a distance remains. -/
theorem stepVelocity_spec {a cap v r : Nat} (ha : 1 ≤ a) (hcap : 1 ≤ cap) (h : CanStop a v r) :
    (Fits a r (stepVelocity a cap v r) ∨ (stepVelocity a cap v r ≤ a ∧ stepVelocity a cap v r ≤ r)) ∧
      stepVelocity a cap v r ≤ max v cap ∧ (0 < r → 0 < stepVelocity a cap v r) := by
  obtain ⟨hfit, hle⟩ := chosen_fits (cap := cap) ha h
  unfold stepVelocity
  split
  · next hz => exact ⟨.inr ⟨by omega, by omega⟩, by omega, fun hr => by omega⟩
  · next hz => exact ⟨.inl hfit, hle, fun hr => by omega⟩

theorem moved_zero (d : Dir) (x : Int) : moved d x 0 = x := by cases d <;> simp [moved]

theorem moved_moved (d : Dir) (x : Int) (m n : Nat) : moved d (moved d x m) n = moved d x (m + n) := by
  cases d <;> simp only [moved] <;> omega

theorem brakeDist_of_le_self {a c : Nat} (ha : 1 ≤ a) (h : c ≤ a) : brakeDist a c = 0 := by
  obtain hlt | rfl := Nat.lt_or_eq_of_le h
  · exact brakeDist_of_lt hlt
  · rw [brakeDist_of_le ha le_rfl, Nat.sub_self, brakeDist_zero]

/-- One profile step keeps the profile able to stop, and shortens the distance that remains. -/
theorem profileStep_spec {a cap : Nat} (d : Dir) {m : Motion} (ha : 1 ≤ a) (hcap : 1 ≤ cap) (h : CanStop a m.v m.r) :
    CanStop a (profileStep a cap d m).v (profileStep a cap d m).r ∧
      (0 < m.r → (profileStep a cap d m).r < m.r) ∧ (profileStep a cap d m).v ≤ max m.v cap ∧
      (profileStep a cap d m).demand = moved d m.demand (m.r - (profileStep a cap d m).r) ∧
      ((profileStep a cap d m).r = 0 → (profileStep a cap d m).v = 0) ∧ (profileStep a cap d m).r ≤ m.r := by
  obtain ⟨hfit, hle, hpos⟩ := stepVelocity_spec ha hcap h
  unfold profileStep
  dsimp only
  generalize stepVelocity a cap m.v m.r = c at hfit hle hpos
  refine ⟨?_, fun hr => ?_, ?_, ?_, fun hr => if_pos hr, by omega⟩
  · unfold CanStop
    split
    · rw [brakeDist_zero]
      omega
    · next hr =>
      rcases hfit with hfit | ⟨hca, -⟩
      · unfold Fits at hfit
        omega
      · rw [brakeDist_of_le_self ha hca]
        omega
  · have := hpos hr
    omega
  · split <;> omega
  · congr 1
    omega

/-- As many steps as the distance, or more, reach the target exactly. -/
theorem profileStep_iterate {a cap : Nat} (d : Dir) (ha : 1 ≤ a) (hcap : 1 ≤ cap) (n : Nat) (m : Motion)
    (h : CanStop a m.v m.r) (hrest : m.r = 0 → m.v = 0) (hn : m.r ≤ n) :
    (profileStep a cap d)^[n] m = ⟨moved d m.demand m.r, 0, 0⟩ := by
  induction n generalizing m with
  | zero =>
    obtain ⟨x, v, r⟩ := m
    obtain rfl : r = 0 := Nat.le_zero.mp hn
    obtain rfl : v = 0 := hrest rfl
    simp [moved_zero]
  | succ n ih =>
    obtain ⟨hstop, hless, -, hdemand, hrest', hle⟩ := profileStep_spec d ha hcap h
    rw [Function.iterate_succ_apply, ih _ hstop hrest' (by omega), hdemand, moved_moved, Nat.sub_add_cancel hle]

/-- One stop step lowers the velocity, and shortens the distance that remains by no more than there is. -/
theorem stopStep_spec (decel : Nat) (d : Dir) (m : Motion) :
    (stopStep decel d m).v ≤ m.v - decel ∧ (stopStep decel d m).r ≤ m.r ∧
      (stopStep decel d m).demand = moved d m.demand (m.r - (stopStep decel d m).r) := by
  unfold stopStep
  dsimp only
  refine ⟨by split <;> omega, by omega, ?_⟩
  congr 1
  omega

theorem stopStep_iterate {decel : Nat} (d : Dir) (h : 1 ≤ decel) (n : Nat) (m : Motion) :
    ((stopStep decel d)^[n] m).v ≤ m.v - n := by
  induction n generalizing m with
  | zero => simp
  | succ n ih =>
    have hstep := (stopStep_spec decel d m).1
    have hrest := ih (stopStep decel d m)
    rw [Function.iterate_succ_apply]
    omega

/-- Settles O57. -/
theorem profilesReachTheirTargetsAndStops : Obligations.ProfilesReachTheirTargetsAndStops := by
  refine ⟨fun a cap d m ha hcap h => ?_, fun a cap d m ha hcap h hr => ?_, fun decel d m h => ?_⟩
  · obtain ⟨hstop, hless, hv, hdemand, hrest, -⟩ := profileStep_spec d ha hcap h
    exact ⟨hstop, hless, hv, hdemand, hrest⟩
  · exact profileStep_iterate d ha hcap m.r m h (fun hz => absurd hz hr.ne') le_rfl
  · obtain ⟨hv, hr, hdemand⟩ := stopStep_spec decel d m
    refine ⟨hv, hr, hdemand, ?_⟩
    have := stopStep_iterate d h m.v m
    omega

end Sys2Proof.Machine

/-! SUPPORT. RESTART (O7), the events of R86 that meet a jog, and the enable timer (O21). -/

namespace Sys2Proof.Machine

open Sys2Proof

/-! ### RESTART -/

/-- A request whose owner leaves `u`: the reply is handed to the port as `u` has it. -/
theorem exec_acted (c : Instr) {q : Src} {k : Byte} {f : State → Answer} {s u : State} {st : Status} {body : List Byte}
    (he : exec c s = request c q k f s) (hs : s.held = false) (hf : f (s.taken c) = (u, st, body)) :
    ∃ t, exec c s = .next t ∧ OnlyPorts u t ∧ Replied u t q k st body := by
  obtain ⟨hr, ho, -⟩ := putReply_eq u q k st body
  refine ⟨_, he.trans ((request_of_not_held c q k f hs).trans ?_), ho, hr⟩
  rw [hf]

/-- What a request that changes only ports leaves of the other blocks. -/
theorem OnlyPorts.reads {s t : State} (h : OnlyPorts s t) :
    (∀ u, t.seq u = s.seq u) ∧ (∀ u, t.pair u = s.pair u) ∧ (∀ u, t.loadOf u = s.loadOf u) ∧
      (∀ a, t.axis a = s.axis a) ∧ ∀ u, t.holding u = s.holding u := by
  unfold OnlyPorts at h
  rw [h]
  exact ⟨fun _ => rfl, fun _ => rfl, fun _ => rfl, fun _ => rfl, fun _ => rfl⟩

theorem restart_holding (s : State) (u : Tier) :
    s.restart.holding u = { Holding.initial with stowed := (s.pair u).toldStowed } := by cases u <;> rfl
theorem restart_seq (s : State) (u : Tier) : s.restart.seq u = (s.seq u).restarted := by cases u <;> rfl
theorem restart_pair (s : State) (u : Tier) : s.restart.pair u = (s.pair u).restarted := by cases u <;> rfl
theorem restart_loadOf (s : State) (u : Tier) :
    s.restart.loadOf u = { s.loadOf u with inTravel := none, overMark := false } := by cases u <;> rfl
theorem restart_axis (s : State) (a : Axis) : s.restart.axis a = (s.axis a).restarted := by
  obtain ⟨t, r⟩ := a
  cases t <;> cases r <;> rfl
theorem restart_ports (s : State) :
    s.restart.ports = ⟨{ s.ports.a with attn := false }, { s.ports.b with attn := false }⟩ := by
  have zero (x : EventSet) : ((0 &&& x) != 0) = false := by simp
  have h : s.restart.ports =
    ⟨{ s.ports.a with attn := (0 &&& s.ports.a.enabled) != 0 }, { s.ports.b with attn := (0 &&& s.ports.b.enabled) != 0 }⟩ := rfl
  rw [h, zero, zero]

/-- Settles O7: `restart` block by block, and the two refusals. -/
theorem restartClearsWhatR179States : Obligations.RestartClearsWhatR179States := by
  refine fun q s hs => ⟨fun hq hrest => ?_, fun hq => ?_, fun hq hrest => ?_⟩
  · have hrest : (s.taken (.restart q)).atRest = true := hrest
    obtain ⟨t, he, ho, hr⟩ := exec_acted (.restart q) (u := (s.taken (.restart q)).restart) (st := .ok) (body := [])
      (execRestart.eq_1 ..) hs (by simp [hq, hrest, State.answer])
    obtain ⟨hseq, hpair, hload, haxis, hholding⟩ := ho.reads
    have hports := hr
    unfold Replied State.port at hports
    rw [restart_ports] at hports
    unfold OnlyPorts at ho
    have hseen : seenAtStart .restart s.man.estop =
        if s.man.estop then kindSet .restart ||| kindSet .estop else kindSet .restart := by
      cases s.man.estop <;> decide
    have hown (u : Tier) : (t.holding u).owns = 0 ∧ (t.holding u).band = none ∧ (t.holding u).demand = 0 := by
      rw [hholding, restart_holding]
      exact ⟨by simp [Holding.owns, Holding.initial], rfl, rfl⟩
    refine ⟨t, he, by rw [ho]; rfl, by rw [ho]; rfl, by rw [ho]; rfl, by rw [ho]; rfl, by rw [ho]; rfl, by rw [ho]; rfl,
      by rw [ho]; rfl, by rw [ho]; rfl, by rw [ho]; exact hseen, by rw [ho]; rfl, by rw [ho]; rfl, by rw [ho]; rfl, ?_,
      by rw [ho]; rfl, fun u => ?_, fun a => ?_, fun p => ?_, ?_, by rw [ho]; rfl, by rw [ho]; rfl, by rw [ho]; rfl,
      by rw [ho]; exact hs⟩
    · exact committed_zero fun v => (hown v).2.2
    · rw [hseq, hload, hpair, restart_seq, restart_loadOf, restart_pair]
      exact ⟨(hown u).1, (hown u).2.1, rfl, rfl, rfl, rfl, rfl, rfl, rfl, rfl, rfl, rfl, rfl, rfl, rfl⟩
    · rw [haxis, restart_axis]
      exact ⟨rfl, rfl, rfl, rfl, rfl⟩
    · rw [State.port, hports]
      obtain ⟨p', tag⟩ := q
      cases p <;> cases p' <;> exact ⟨rfl, rfl⟩
    · exact hports
  · exact exec_unchanged (.restart q) (execRestart.eq_1 ..) hs (by simp [hq, State.refuseAuthority])
  · have hrest : (s.taken (.restart q)).atRest = false := hrest
    exact exec_unchanged (.restart q) (execRestart.eq_1 ..) hs (by simp [hq, hrest, State.refuse])

/-! ### The events of R86 -/

theorem endJog_ended (s : State) (t : Tier) : JogEnded (s.seq t) ((s.endJog t).seqReport t) t := by
  obtain ⟨hq, -, hf, hm⟩ := seqReport_eq (s.endJog t) t
  have hman : ((s.endJog t).seqReport t).man = (s.endJog t).man := by rw [hf]
  refine ⟨?_, by rw [hman, endJog_eq]; simp, hm _ (by simp [endJog_eq])⟩
  rw [hq]
  simp [endJog_eq, State.seq]

theorem orderStop_eq (s : State) (t : Tier) (rate : StopRate) :
    s.orderStop t rate = s.emit (if (s.seq t).turns then .stopOrder t rate else .pairStopOrder t rate) := by
  unfold State.orderStop
  split <;> rfl

/-- A jog that an event of R86 changes by `f` and orders to stop. -/
theorem jogStops (s : State) (t : Tier) (f : Jog → Jog) (rate : StopRate) {j : Jog} (hs : (s.seq t).slot = none)
    (hj : (s.seq t).jog = some j) (hf : (f j).target = j.target) :
    (((s.modJog t f).orderStop t rate).seqReport t).seq t = told { s.seq t with jog := some (f j) } ∧
      (if j.target = .rotation then Instr.stopOrder t rate else Instr.pairStopOrder t rate) ∈
        (((s.modJog t f).orderStop t rate).seqReport t).mail := by
  obtain ⟨hq, -, -, hm⟩ := seqReport_eq ((s.modJog t f).orderStop t rate) t
  have ht : ((s.modJog t f).seq t).turns = (j.target == .rotation) := by simp [State.modJog, Seq.turns, hs, hj, hf]
  rw [orderStop_eq, ht] at hq hm ⊢
  refine ⟨by rw [hq]; simp [State.modJog, hj], hm _ ?_⟩
  by_cases h : j.target = .rotation <;> simp [h]

/-- What an event of R86 does to the jog of a tier, by its stage. -/
theorem haltJog_of_jog (s : State) (t : Tier) (c : JogEnd) {j : Jog} (hj : (s.seq t).jog = some j) :
    s.haltJog t c =
      match j.stage with
      | .withdrawLock => s.endJog t
      | .liftBrake => (s.modJog t fun j => { j with cause := some c }).jogSetBrake t
      | .travel => (s.modJog t fun j => { j with stage := .halting, cause := some c }).orderStop t (jogRate c)
      | .halting =>
        if jogRate c = .aqs ∧ j.cause.map jogRate = some .a then
          (s.modJog t fun j => { j with cause := some c }).orderStop t .aqs
        else s
      | _ => s := by
  cases hst : j.stage <;> simp [State.haltJog, hj, hst]

/-- An event of R86 meets a jog stage by stage. -/
theorem haltJog_meets (s : State) (t : Tier) (c : JogEnd) {j : Jog} (hs : (s.seq t).slot = none)
    (hj : (s.seq t).jog = some j) : JogMeets (s.seq t) ((s.haltJog t c).seqReport t) t j c (jogRate c) := by
  have hq := (seqReport_eq s t).1
  rw [haltJog_of_jog s t c hj]
  unfold JogMeets
  cases hst : j.stage <;> dsimp only
  case withdrawLock => exact endJog_ended s t
  case liftBrake =>
    have h := (jogSetBrake_brakes (s.modJog t fun j => { j with cause := some c }) t { j with cause := some c }
      (by simpa [State.modJog] using hs) (by simp [State.modJog, hj])).1
    unfold JogBrakes JogEnded at h
    unfold JogEnded
    simpa [State.modJog] using h
  case travel => exact jogStops s t (fun j => { j with stage := .halting, cause := some c }) (jogRate c) hs hj rfl
  case halting =>
    have hiff : j.cause.map jogRate = some .a ↔
        j.cause = some .jogStop ∨ j.cause = some .enableLapse ∨ j.cause = some .hold := by
      rcases j.cause with _ | _ | _ | _ | _ | _ | _ <;> simp [jogRate]
    by_cases h : jogRate c = .aqs ∧ j.cause.map jogRate = some .a
    · rw [if_pos h, if_pos (by simpa [hiff] using h)]
      simpa only [hst] using jogStops s t (fun j => { j with cause := some c }) .aqs hs hj rfl
    · rw [if_neg h, if_neg (by simpa [hiff] using h)]
      exact hq
  all_goals exact hq

/-! ### The enable timer -/

/-- Halting a jog asks for no grant pass. -/
theorem haltJog_arb (s : State) (t : Tier) (c : JogEnd) : ((s.haltJog t c).seqReport t).arb = s.arb := by
  have stop (x : State) (rate : StopRate) : (x.orderStop t rate).arb = x.arb := by rw [orderStop_eq]; rfl
  have brake (x : State) : (x.jogSetBrake t).arb = x.arb := by
    unfold State.jogSetBrake
    split
    · rw [endJog_eq]
    · unfold State.applyBrakes
      split
      · rfl
      · dsimp only
        split <;> rfl
  have h := (seqReport_eq (s.haltJog t c) t).2.2.1
  rw [h]
  unfold State.haltJog
  split
  · rfl
  · split
    · simp [endJog_eq]
    · exact brake _
    · exact stop ..
    · split
      · exact stop ..
      · rfl
    · rfl

theorem joggedTier_of_none {s : State} (h : ∀ v, (s.seq v).jog = none) : s.joggedTier = none := by
  simp [State.joggedTier, Seq.jogging, h]

theorem joggedTier_of_unique {s : State} {u : Tier} {j : Jog} (hj : (s.seq u).jog = some j)
    (h : ∀ v, v ≠ u → (s.seq v).jog = none) : s.joggedTier = some u := by
  have only (v : Tier) : (s.seq v).jogging = true ↔ v = u := by
    by_cases hv : v = u <;> simp [hv, Seq.jogging, hj, h v]
  cases hf : s.joggedTier with
  | none => exact absurd (List.find?_eq_none.mp hf u (Idx8.mem_all u)) (by simp [only])
  | some v =>
    have hv : (s.seq v).jogging = true := List.find?_some (p := fun v => (s.seq v).jogging) hf
    rw [(only v).mp hv]

/-- A tier's report of motion or rest, field by field of the authority block. -/
theorem takeMotion_auth (s : State) (u : Tier) (moving : Bool) :
    s.takeMotion u moving = { s with auth := { s.auth with
      moving := s.auth.moving.set u moving
      timer :=
        if (s.auth.moving.set u moving).all (fun b => !b) then .quiet
        else if s.auth.timer = .quiet then .watching ⟨s.clock, s.tables.hall.tEn⟩ else s.auth.timer } } := by
  by_cases h : (s.auth.moving.set u moving).all (fun b => !b) = true <;> by_cases hq : s.auth.timer = .quiet <;>
    simp [State.takeMotion, State.someMoving, State.modAuth, State.watch, h, hq]

/-- An ENABLE from the holder, on the timer alone. -/
theorem enableTimer_auth (s : State) :
    s.enableTimer = { s with auth := { s.auth with timer :=
      match s.auth.timer with
      | .quiet => .quiet
      | .watching _ => .watching ⟨s.clock, s.tables.hall.tEn⟩
      | .lapsed _ => if s.auth.moving.all (fun b => !b) then .quiet else .watching ⟨s.clock, s.tables.hall.tEn⟩ } } := by
  unfold State.enableTimer
  rcases hq : s.auth.timer with _ | tm | tm
  · simp [← hq]
  · rfl
  · by_cases h : s.auth.moving.all (fun b => !b) = true <;> simp [State.someMoving, State.watch, State.modAuth, h]

/-- The timer in LAPSED with its escalation time running, and ENABLE raised, behind what the expiry has met. -/
def State.lapsed (s : State) : State :=
  (s.modAuth fun x => { x with timer := .lapsed (some ⟨s.clock, s.tables.hall.tEsc⟩) }).raise
    (.enable s.auth.mode .lapsed false)

theorem lapse_in_run {s : State} (h : s.auth.mode = .run) :
    s.lapse = (s.emit (.causeReport (bareCause .enableLapse))).lapsed := by
  unfold State.lapse
  rw [h]
  simp only [State.lapsed, State.emit_auth, h]
  rfl

theorem lapse_without_jog {s : State} (h : s.auth.mode = .setup) (hj : s.joggedTier = none) : s.lapse = s.lapsed := by
  unfold State.lapse State.lapsed
  rw [h, hj]

theorem lapse_with_jog {s : State} {u : Tier} (h : s.auth.mode = .setup) (hj : s.joggedTier = some u) :
    s.lapse = ((s.haltJog u .enableLapse).seqReport u).lapsed := by
  have hf := (((SeqActs.refl u s).haltJog .enableLapse).seqReport).touches.2
  have hl : s.lapse = (((s.haltJog u .enableLapse).seqReport u).modAuth fun x =>
      { x with timer := .lapsed (some ⟨s.clock, s.tables.hall.tEsc⟩) }).raise (.enable s.auth.mode .lapsed false) := by
    unfold State.lapse
    rw [hj]
    simp only [h]
  rw [hl, State.lapsed]
  rw [hf]

/-- What stands, and what is in flight, after the expiry of WATCHING in SETUP. -/
theorem lapse_frame {s : State} (h : s.auth.mode = .setup) :
    s.lapse.auth = { s.auth with timer := .lapsed (some ⟨s.clock, s.tables.hall.tEsc⟩) } ∧
      Instr.latchEvent (.enable .setup .lapsed false) ∈ s.lapse.mail ∧
      s.lapse = { s with
        auth := s.lapse.auth, seqs := s.lapse.seqs, man := { s.man with exempt := s.lapse.man.exempt }
        mail := s.lapse.mail } := by
  cases hj : s.joggedTier with
  | none =>
    rw [lapse_without_jog h hj]
    exact ⟨rfl, by simp [State.lapsed, h], rfl⟩
  | some u =>
    rw [lapse_with_jog h hj]
    have ha := haltJog_arb s u .enableLapse
    have hf := (((SeqActs.refl u s).haltJog .enableLapse).seqReport).touches.2
    generalize (s.haltJog u .enableLapse).seqReport u = x at ha hf
    rw [ha] at hf
    have hx : x.lapsed.auth = { s.auth with timer := .lapsed (some ⟨s.clock, s.tables.hall.tEsc⟩) } := by rw [hf]; rfl
    have hm : x.auth.mode = .setup := by rw [hf]; exact h
    refine ⟨hx, by simp [State.lapsed, hm], ?_⟩
    rw [hf]
    rfl

/-- What meets a jog stands when its tier's sequencer and exemption marks stand and nothing is taken back. -/
theorem JogMeets.mono {q : Seq} {x t : State} {u : Tier} {j : Jog} {c : JogEnd} {rate : StopRate}
    (h : JogMeets q x u j c rate) (hseq : t.seq u = x.seq u) (hex : t.man.exempt.get u = x.man.exempt.get u)
    (hm : ∀ m ∈ x.mail, m ∈ t.mail) : JogMeets q t u j c rate := by
  have ended (e : JogEnded q x u) : JogEnded q t u := ⟨hseq.trans e.1, hex.trans e.2.1, hm _ e.2.2⟩
  have ordered {r : Seq} {o : Instr} (e : x.seq u = r ∧ o ∈ x.mail) : t.seq u = r ∧ o ∈ t.mail :=
    ⟨hseq.trans e.1, hm _ e.2⟩
  revert h
  unfold JogMeets
  cases j.stage <;> dsimp only
  case withdrawLock => exact ended
  case liftBrake =>
    split
    · exact ended
    · exact ordered
  case travel => exact ordered
  case halting =>
    split
    · exact ordered
    · exact hseq.trans
  all_goals exact hseq.trans

/-- Settles O21: the timer's own equations, and the jog met by `haltJog`. -/
theorem theEnableTimerWatchesMotion : Obligations.TheEnableTimerWatchesMotion := by
  refine ⟨fun u moving s hs => ?_, fun q s hs hq => ?_, fun tm s hs htm hmode => ?_, fun tm s hs htm hmode => ?_,
    fun tm s hs htm => ?_⟩
  · refine ⟨_, exec_live (.motionReport u moving) (execMotionReport.eq_1 ..) hs, ?_⟩
    rw [takeMotion_auth]
    exact ⟨rfl, rfl, rfl, rfl, rfl⟩
  · obtain ⟨t, he, ho, ha⟩ := exec_answered (.enable q) (t' := (s.taken (.enable q)).enableTimer) (st := .ok)
      (body := [timerCode (s.taken (.enable q)).enableTimer.auth.timer.state]) [] (execEnable.eq_1 ..) hs
      (by simp [isHolder_iff, hq, State.answer]) (by rw [enableTimer_auth]; rfl) (by rw [enableTimer_auth]; simp)
    unfold OnlyPorts at ho
    have hauth : t.auth = (s.taken (.enable q)).enableTimer.auth := by rw [ho]
    rw [← hauth] at ha
    refine ⟨t, he, ?_, ha, ?_⟩
    · rw [ho, enableTimer_auth]
      rfl
    · rw [hauth, enableTimer_auth]
      rfl
  · refine ⟨_, exec_live .enableExpiry (execEnableExpiry.eq_1 ..) hs, ?_⟩
    simp only [taken_auth, taken_clock, htm]
    by_cases hdue : tm.due s.clock = true
    · simp only [hdue, if_true]
      rw [lapse_in_run (s := s.taken .enableExpiry) hmode]
      simp [State.lapsed, State.modAuth, State.raise, State.emit, State.taken, hmode]
    · simp only [hdue]
      rfl
  · refine ⟨_, exec_live .enableExpiry (execEnableExpiry.eq_1 ..) hs, ?_⟩
    simp only [taken_auth, taken_clock, htm]
    by_cases hdue : tm.due s.clock = true
    · simp only [hdue, if_true]
      obtain ⟨ha, hm, hf⟩ := lapse_frame (s := s.taken .enableExpiry) hmode
      refine ⟨ha, hm, ?_, fun hnone => ?_, fun u j hj hslot honly => ?_⟩
      · exact hf
      · rw [lapse_without_jog (s := s.taken .enableExpiry) hmode (joggedTier_of_none hnone)]
        simp [State.lapsed, State.modAuth, State.raise, State.emit, State.taken, hmode]
      · rw [lapse_with_jog (s := s.taken .enableExpiry) hmode (joggedTier_of_unique hj honly)]
        have hmeets := haltJog_meets (s.taken .enableExpiry) u .enableLapse hslot hj
        have hkeep := (((SeqActs.refl u (s.taken .enableExpiry)).haltJog .enableLapse).seqReport).touches.1
        exact ⟨hmeets.mono rfl rfl fun m hm => List.mem_append_left _ hm, hkeep⟩
    · simp only [hdue]
      rfl
  · refine ⟨_, exec_live .escalationExpiry (execEscalationExpiry.eq_1 ..) hs, ?_⟩
    simp only [taken_auth, taken_clock, htm]
    have hmoving : (s.taken .escalationExpiry).someMoving = s.someMoving := rfl
    rw [hmoving]
    by_cases hdue : (tm.due s.clock && s.someMoving) = true
    · simp only [hdue, if_true]
      simp [State.escalate, State.modAuth, State.raise, State.emit, State.taken]
    · simp only [hdue]
      rfl

end Sys2Proof.Machine

/-! SUPPORT. The validation at the entry to RUN as six lists of failing places, and the changes of mode (O22). -/

namespace Sys2Proof.Machine

open Sys2Proof

/-! ### The places at which the checks of R169 fail -/

/-- The places at which check `k` fails, in the order in which the check looks at them. -/
def State.failing (s : State) : Nat → List (List Nat)
  | 1 => (s.presentTiers.filter fun t => !decide ((s.tier t).travelMin < (s.tier t).travelMax)).map fun t => [Idx8.num t]
  | 2 => s.presentTiers.flatMap fun t =>
      (Idx8.all.filter fun n => s.stationOutside t n).map fun n => [Idx8.num t, Idx8.num n]
  | 3 => (s.presentTiers.filter fun t =>
      (s.tier t).tilt.any fun g => !decide (g.jackMin ≤ g.stow ∧ g.stow ≤ g.jackMax)).map fun t => [Idx8.num t]
  | 4 => ((s.presentTiers.flatMap axesOf).filter fun a => s.axisPresent a && !(s.axis a).valid).map fun a =>
      [Idx8.num a.tier, axisCode a]
  | 5 => (s.presentTiers.filter fun t =>
      !decide (Config.fine * (s.tier t).travelMin - Config.fine ≤ (s.axis ⟨t, .R⟩).position ∧
        (s.axis ⟨t, .R⟩).position ≤ Config.fine * (s.tier t).travelMax + Config.fine)).map fun t =>
      [Idx8.num t, axisCode ⟨t, .R⟩]
  | 6 => (pairsOf s.presentTiers).flatMap fun p =>
      (cellList (s.standingAtEntry p.1 &&& s.standingAtEntry p.2)).map fun c => [Idx8.num p.1, Idx8.num p.2, c]
  | _ => []

/-- The finding that names a place of check `k`. -/
def finding (k : Nat) (place : List Nat) : List Byte := (k :: place).map (BitVec.ofNat 8)

theorem beBytes_one (n : Nat) : beBytes 1 n = [BitVec.ofNat 8 n] := by simp [beBytes]

/-- Each check answers the first of its failing places. -/
theorem checks_eq (s : State) :
    s.check1 = (s.failing 1).head?.map (finding 1) ∧ s.check2 = (s.failing 2).head?.map (finding 2) ∧
      s.check3 = (s.failing 3).head?.map (finding 3) ∧ s.check4 = (s.failing 4).head?.map (finding 4) ∧
      s.check5 = (s.failing 5).head?.map (finding 5) ∧ s.check6 = (s.failing 6).head?.map (finding 6) := by
  refine ⟨?_, ?_, ?_, ?_, ?_, ?_⟩
  · simp [State.check1, State.failing, Function.comp_def, finding, beBytes_one]
  · simp [State.check2, State.failing, Function.comp_def, finding, beBytes_one, List.head?_flatMap, List.map_findSome?]
  · have h : s.check3 = (s.presentTiers.find? fun t => (s.tier t).tilt.any fun g =>
        !decide (g.jackMin ≤ g.stow ∧ g.stow ≤ g.jackMax)).map fun t => 3 :: beBytes 1 (Idx8.num t) := by
      unfold State.check3
      congr 2
      funext t
      cases (s.tier t).tilt <;> rfl
    simp [h, State.failing, Function.comp_def, finding, beBytes_one]
  · simp [State.check4, State.failing, Function.comp_def, finding, beBytes_one]
  · simp [State.check5, State.failing, Function.comp_def, finding, beBytes_one]
  · simp [State.check6, State.failing, Function.comp_def, finding, beBytes_one, List.head?_flatMap, List.map_findSome?]

/-- The validation finds the first place of the first check that fails. -/
theorem runFinding_eq (s : State) :
    s.runFinding = [1, 2, 3, 4, 5, 6].findSome? fun k => (s.failing k).head?.map (finding k) := by
  obtain ⟨h1, h2, h3, h4, h5, h6⟩ := checks_eq s
  rw [State.runFinding, h1, h2, h3, h4, h5, h6]
  simp only [List.findSome?_cons, List.findSome?_nil]
  cases (s.failing 1).head? <;> cases (s.failing 2).head? <;> cases (s.failing 3).head? <;>
    cases (s.failing 4).head? <;> cases (s.failing 5).head? <;> cases (s.failing 6).head? <;> rfl

theorem mem_presentTiers {s : State} {t : Tier} : t ∈ s.presentTiers ↔ (s.tier t).present = true := by
  simp [State.presentTiers, Idx8.mem_all]

theorem presentTiers_sorted (s : State) : s.presentTiers.Pairwise fun t u => Idx8.num t < Idx8.num u :=
  List.Pairwise.filter _ (by decide)

theorem mem_pairsOf_iff {l : List Tier} (hl : l.Pairwise fun t u => Idx8.num t < Idx8.num u) {t u : Tier} :
    (t, u) ∈ pairsOf l ↔ t ∈ l ∧ u ∈ l ∧ Idx8.num t < Idx8.num u := by
  induction l with
  | nil => simp [pairsOf]
  | cons v rest ih =>
    obtain ⟨hv, hrest⟩ := List.pairwise_cons.mp hl
    simp only [pairsOf, List.mem_append, List.mem_map, Prod.mk.injEq, ih hrest, List.mem_cons]
    constructor
    · rintro (⟨w, hw, rfl, rfl⟩ | ⟨ht, hu, hlt⟩)
      · exact ⟨.inl rfl, .inr hw, hv _ hw⟩
      · exact ⟨.inr ht, .inr hu, hlt⟩
    · rintro ⟨rfl | ht, rfl | hu, hlt⟩
      · exact absurd hlt (lt_irrefl _)
      · exact .inl ⟨u, hu, rfl, rfl⟩
      · exact absurd (hlt.trans (hv t ht)) (lt_irrefl _)
      · exact .inr ⟨ht, hu, hlt⟩

theorem mem_cellList {x : CellSet} {c : Nat} : c ∈ cellList x ↔ c < 64 ∧ x.getLsbD c = true := by
  simp [cellList]

theorem stationOutside_iff (s : State) (t : Tier) (n : Station) : s.stationOutside t n = true ↔
    ∃ x, s.stationAngle t n = some x ∧ ¬((s.tier t).travelMin ≤ x ∧ x ≤ (s.tier t).travelMax) := by
  unfold State.stationOutside
  cases s.stationAngle t n with
  | none => simp
  | some x =>
    simp
    omega

theorem axisPresent_tier {s : State} {a : Axis} (h : s.axisPresent a = true) : (s.tier a.tier).present = true := by
  simp only [State.axisPresent, Bool.and_eq_true] at h
  exact h.1

theorem mem_axesOf {a : Axis} {t : Tier} : a ∈ axesOf t ↔ a.tier = t := by
  obtain ⟨u, r⟩ := a
  cases r <;> simp [axesOf]

/-- The places listed for check `k` are those at which it fails. -/
theorem mem_failing (s : State) (k : Nat) (place : List Nat) : place ∈ s.failing k ↔ RunCheckFails s k place := by
  unfold State.failing RunCheckFails
  split
  · simp only [List.mem_map, List.mem_filter, mem_presentTiers, Bool.not_eq_true', decide_eq_false_iff_not]
    exact ⟨fun ⟨u, ⟨hp, hf⟩, e⟩ => ⟨u, e.symm, hp, hf⟩, fun ⟨u, e, hp, hf⟩ => ⟨u, ⟨hp, hf⟩, e.symm⟩⟩
  · simp only [List.mem_flatMap, List.mem_map, List.mem_filter, mem_presentTiers, stationOutside_iff, Idx8.mem_all, true_and]
    exact ⟨fun ⟨u, hp, n, ⟨x, hx, hf⟩, e⟩ => ⟨u, n, x, e.symm, hp, hx, hf⟩,
      fun ⟨u, n, x, e, hp, hx, hf⟩ => ⟨u, hp, n, ⟨x, hx, hf⟩, e.symm⟩⟩
  · simp only [List.mem_map, List.mem_filter, mem_presentTiers, Option.any_eq_true, Bool.not_eq_true', decide_eq_false_iff_not]
    exact ⟨fun ⟨u, ⟨hp, g, hg, hf⟩, e⟩ => ⟨u, g, e.symm, hp, hg, hf⟩, fun ⟨u, g, e, hp, hg, hf⟩ => ⟨u, ⟨hp, g, hg, hf⟩, e.symm⟩⟩
  · simp only [List.mem_map, List.mem_filter, List.mem_flatMap, mem_presentTiers, mem_axesOf, Bool.and_eq_true, Bool.not_eq_true']
    exact ⟨fun ⟨a, ⟨_, hp, hf⟩, e⟩ => ⟨a, e.symm, hp, hf⟩,
      fun ⟨a, e, hp, hf⟩ => ⟨a, ⟨⟨a.tier, axisPresent_tier hp, rfl⟩, hp, hf⟩, e.symm⟩⟩
  · simp only [List.mem_map, List.mem_filter, mem_presentTiers, Bool.not_eq_true', decide_eq_false_iff_not]
    exact ⟨fun ⟨u, ⟨hp, hf⟩, e⟩ => ⟨u, e.symm, hp, hf⟩, fun ⟨u, e, hp, hf⟩ => ⟨u, ⟨hp, hf⟩, e.symm⟩⟩
  · simp only [List.mem_flatMap, List.mem_map, Prod.exists, mem_pairsOf_iff (presentTiers_sorted s), mem_presentTiers,
      mem_cellList, BitVec.getLsbD_and, Bool.and_eq_true, State.standingAtEntry]
    constructor
    · rintro ⟨u, v, ⟨hu, hv, hlt⟩, c, ⟨hc, hcu, hcv⟩, e⟩
      refine ⟨u, v, c, e.symm, hlt, hc, ?_⟩
      rintro w (rfl | rfl)
      · exact ⟨hu, hcu⟩
      · exact ⟨hv, hcv⟩
    · rintro ⟨u, v, c, e, hlt, hc, h⟩
      obtain ⟨hu, hcu⟩ := h u (.inl rfl)
      obtain ⟨hv, hcv⟩ := h v (.inr rfl)
      exact ⟨u, v, ⟨hu, hv, hlt⟩, c, ⟨hc, hcu, hcv⟩, e.symm⟩
  · simp

theorem pairsOf_sorted {l : List Tier} (hl : l.Pairwise fun t u => Idx8.num t < Idx8.num u) :
    (pairsOf l).Pairwise fun p q => Idx8.num p.1 < Idx8.num q.1 ∨ p.1 = q.1 ∧ Idx8.num p.2 < Idx8.num q.2 := by
  induction l with
  | nil => exact .nil
  | cons v rest ih =>
    obtain ⟨hv, hrest⟩ := List.pairwise_cons.mp hl
    refine List.pairwise_append.mpr ⟨hrest.map _ fun _ _ h => .inr ⟨rfl, h⟩, ih hrest, fun p hp q hq => .inl ?_⟩
    obtain ⟨u, -, rfl⟩ := List.mem_map.mp hp
    exact hv _ ((mem_pairsOf_iff hrest).mp hq).1

/-- The places of a check are listed in tier order. -/
theorem failing_sorted (s : State) (k : Nat) : (s.failing k).Pairwise (· < ·) := by
  have htiers := presentTiers_sorted s
  have hstations : Idx8.all.Pairwise fun n m : Station => Idx8.num n < Idx8.num m := by decide
  unfold State.failing
  split
  · exact (htiers.filter _).map _ fun _ _ h => List.Lex.rel h
  · refine List.pairwise_flatMap.mpr ⟨fun t _ => (hstations.filter _).map _ fun _ _ h => List.Lex.cons (.rel h),
      htiers.imp fun h x hx y hy => ?_⟩
    obtain ⟨_, -, rfl⟩ := List.mem_map.mp hx
    obtain ⟨_, -, rfl⟩ := List.mem_map.mp hy
    exact .rel h
  · exact (htiers.filter _).map _ fun _ _ h => .rel h
  · have haxes : (s.presentTiers.flatMap axesOf).Pairwise fun a b =>
        Idx8.num a.tier < Idx8.num b.tier ∨ a.tier = b.tier ∧ axisCode a < axisCode b := by
      refine List.pairwise_flatMap.mpr ⟨fun t _ => ?_, htiers.imp fun h a ha b hb => .inl ?_⟩
      · simp [axesOf, axisCode, roleCode]
      · rwa [mem_axesOf.mp ha, mem_axesOf.mp hb]
    refine (haxes.filter _).map _ fun a b h => ?_
    obtain h | ⟨e, h⟩ := h
    · exact .rel h
    · rw [e]
      exact .cons (.rel h)
  · exact (htiers.filter _).map _ fun _ _ h => .rel h
  · refine List.pairwise_flatMap.mpr ⟨fun p _ => ?_, (pairsOf_sorted htiers).imp fun h x hx y hy => ?_⟩
    · exact (List.pairwise_lt_range.filter _).map _ fun _ _ h => .cons (.cons (.rel h))
    · obtain ⟨_, -, rfl⟩ := List.mem_map.mp hx
      obtain ⟨_, -, rfl⟩ := List.mem_map.mp hy
      obtain h | ⟨e, h⟩ := h
      · exact .rel h
      · rw [e]
        exact .cons (.rel h)
  · exact .nil

/-- A validation passes when no check fails at any place. -/
theorem runFinding_eq_none_iff (s : State) : s.runFinding = none ↔ ∀ k place, ¬ RunCheckFails s k place := by
  simp only [← mem_failing, ← List.eq_nil_iff_forall_not_mem]
  rw [runFinding_eq, List.findSome?_eq_none_iff]
  simp only [Option.map_eq_none_iff, List.head?_eq_none_iff]
  constructor
  · intro h k
    by_cases hk : k ∈ [1, 2, 3, 4, 5, 6]
    · exact h k hk
    · unfold State.failing
      split <;> first | rfl | simp at hk
  · exact fun h k _ => h k

/-- A validation that fails finds the least place of the first check that fails. -/
theorem runFinding_of_fails {s : State} {k : Nat} {place : List Nat} (h : RunCheckFails s k place)
    (hfirst : ∀ k' < k, ∀ other, ¬ RunCheckFails s k' other) (hleast : ∀ other, RunCheckFails s k other → ¬ other < place) :
    s.runFinding = some (finding k place) := by
  simp only [← mem_failing] at h hleast
  simp only [← mem_failing, ← List.eq_nil_iff_forall_not_mem] at hfirst
  have hhead : (s.failing k).head? = some place := by
    cases hl : s.failing k with
    | nil => simp [hl] at h
    | cons x rest =>
      rw [hl] at h hleast
      obtain rfl | hmem := List.mem_cons.mp h
      · rfl
      · have hsorted := failing_sorted s k
        rw [hl] at hsorted
        exact absurd ((List.pairwise_cons.mp hsorted).1 place hmem) (hleast x List.mem_cons_self)
  have hk : k ∈ [1, 2, 3, 4, 5, 6] := by
    by_contra hk
    have : s.failing k = [] := by
      unfold State.failing
      split <;> first | rfl | simp at hk
    simp [this] at h
  rw [runFinding_eq]
  simp only [List.mem_cons, List.not_mem_nil, or_false] at hk
  obtain rfl | rfl | rfl | rfl | rfl | rfl := hk <;> simp [hhead, hfirst]

/-! ### The changes of mode -/

theorem buildMap_arb (s : State) :
    s.buildMap.arb.owed = [] ∧ s.buildMap.arb.armed = true ∧ s.buildMap.arb.passRequested = true := by
  unfold State.buildMap
  rw [requestPass_eq]
  exact ⟨rfl, rfl, rfl⟩

theorem anyActive_of_none {s : State} (h : ∀ u, (s.seq u).slot = none) : s.anyActive = false := by
  simp [State.anyActive, h]

/-- Settles O22: the map as `buildMap` builds it, the finding as the first failing place, and the way back. -/
theorem modeChangesBuildAndClearTheMap : Obligations.ModeChangesBuildAndClearTheMap := by
  refine ⟨fun q s hs hq hmode hclear hjog hfind => ?_, runFinding_eq_none_iff,
    fun q s k place hs hq hmode hclear hjog hfails hfirst hleast => ?_, fun q s hs hq hmode hlist hslots hplan => ?_,
    fun q s hs hq hmode => ?_⟩
  · have hjogs := (jogRuns_eq_false_iff s).mpr hjog
    have hf : (s.taken (.setModeRun q)).runFinding = none := hfind
    let x := (s.taken (.setModeRun q)).modAuth fun x => { x with mode := .run }
    have hframe := buildMap_frame x
    have hheld := buildMap_holding x
    obtain ⟨howed, harmed, hpass⟩ := buildMap_arb x
    obtain ⟨t, he, ho, hr, hm⟩ := exec_replied (.setModeRun q) (t' := x.buildMap.raise (.mode .run)) (st := .ok) (body := [])
      (execSetModeRun.eq_1 ..) hs
      (by simp [isHolder_iff, hq, State.runAnswer, inSetup_iff, hmode, State.isClear, hclear, hjogs, hf, State.answer, x])
      (by rw [State.raise_ports, hframe]; rfl)
    have harb : t.arb = x.buildMap.arb := by
      unfold OnlyPorts at ho
      rw [ho]
      rfl
    have hholding (u : Tier) : t.holding u = x.buildMap.holding u := ho.reads.2.2.2.2 u
    refine ⟨t, he, ?_, hr, hm _ (by simp), harb ▸ harmed, harb ▸ howed, harb ▸ hpass, ?_, fun u => ?_⟩
    · unfold OnlyPorts at ho
      rw [ho, hframe]
      rfl
    · rw [harb]
      refine committed_zero fun u => ?_
      have h := hheld u
      unfold State.holding at h
      rw [h]
      split <;> rfl
    · rw [hholding, hheld]
      by_cases hp : (s.tier u).present = true
      · have hp' : (x.tier u).present = true := hp
        rw [if_pos hp', if_pos hp]
        exact ⟨rfl, rfl, rfl, rfl⟩
      · have hp' : ¬(x.tier u).present = true := hp
        rw [if_neg hp', if_neg hp]
        exact ⟨rfl, rfl, rfl, rfl⟩
  · refine exec_unchanged (.setModeRun q) (execSetModeRun.eq_1 ..) hs ?_
    have hjogs := (jogRuns_eq_false_iff s).mpr hjog
    have hf : (s.taken (.setModeRun q)).runFinding = some (finding k place) := runFinding_of_fails hfails hfirst hleast
    simp only [isHolder_iff, taken_auth, hq, if_true]
    simp [State.runAnswer, inSetup_iff, hmode, State.isClear, hclear, hjogs, hf, State.answer, finding]
  · obtain ⟨t, he, ho, ha⟩ := exec_answered (.setModeSetup q 0)
      (t' := (((s.taken (.setModeSetup q 0)).modAuth fun x => { x with mode := .setup }).clearMap).raise (.mode .setup))
      (st := .ok) (body := []) [.latchEvent (.mode .setup)] (execSetModeSetup.eq_1 ..) hs
      (by
        have hactive : (s.taken (.setModeSetup q 0)).anyActive = false := anyActive_of_none hslots
        simp [isHolder_iff, hq, State.setupAnswer, inSetup_iff, hmode, State.answer, hlist, hactive, hplan])
      (by rfl) (by rfl)
    have hholding (u : Tier) : t.holding u = (s.holding u).clear := by
      rw [ho.reads.2.2.2.2 u]
      simp [State.clearMap, State.holding, State.modArb]
    unfold OnlyPorts at ho
    refine ⟨t, he, by rw [ho]; rfl, ha, by rw [ho]; rfl, by rw [ho]; rfl, committed_zero fun u => ?_, fun u => ?_⟩
    · have h := hholding u
      unfold State.holding at h
      rw [h]
      rfl
    · rw [hholding]
      exact ⟨by simp [Holding.owns, Holding.clear, Holding.initial], rfl, rfl⟩
  · refine exec_unchanged (.setModeSetup q 0) (execSetModeSetup.eq_1 ..) hs ?_
    simp [isHolder_iff, hq, State.setupAnswer, inSetup_iff, hmode, State.answer]

end Sys2Proof.Machine

/-! SUPPORT. The bytes of numbers and the fields of a payload (R181), and with them the requests read from frames (O11)
and the records that travel as their write requests (O12). -/

namespace Sys2Proof.Machine

open Sys2Proof

/-! ### Numbers as bytes -/

@[simp] theorem beBytes_length (k n : Nat) : (beBytes k n).length = k := by
  induction k with
  | zero => rfl
  | succ k ih => simp [beBytes, ih]

@[simp] theorem beSigned_length (k : Nat) (x : Int) : (beSigned k x).length = k := beBytes_length ..

/-- The number that bytes spell, high byte first, behind what was read before. -/
def spelled (acc : Nat) (l : List Byte) : Nat := l.foldl (fun acc b => acc * 256 + b.toNat) acc

theorem spelled_lt {l : List Byte} {acc m : Nat} (h : acc < m) : spelled acc l < m * 256 ^ l.length := by
  induction l generalizing acc m with
  | nil => simpa [spelled] using h
  | cons b rest ih =>
    have hb := b.isLt
    have := ih (acc := acc * 256 + b.toNat) (m := m * 256) (by omega)
    rw [List.length_cons, Nat.pow_succ']
    simpa [spelled, Nat.mul_assoc] using this

theorem field_lt (l : List Byte) (i k : Nat) : field l i k < 256 ^ k := by
  have h := spelled_lt (l := (l.drop i).take k) (acc := 0) (m := 1) Nat.one_pos
  refine h.trans_le ?_
  rw [Nat.one_mul]
  exact Nat.pow_le_pow_right (by decide) (List.length_take_le _ _)

theorem spelled_beBytes (acc k n : Nat) : spelled acc (beBytes k n) = acc * 256 ^ k + n % 256 ^ k := by
  induction k generalizing acc with
  | zero => simp [spelled, beBytes, Nat.mod_one]
  | succ k ih =>
    have h : spelled acc (beBytes (k + 1) n) = spelled (acc * 256 + n / 256 ^ k % 256) (beBytes k n) := by
      simp [spelled, beBytes]
    rw [h, ih, Nat.mod_pow_succ, Nat.pow_succ']
    ring

/-- A field of a number's bytes, with anything behind them. -/
theorem field_beBytes {k n : Nat} (h : n < 256 ^ k) (rest : List Byte) : field (beBytes k n ++ rest) 0 k = n := by
  have ht : ((beBytes k n ++ rest).drop 0).take k = beBytes k n := by
    rw [List.drop_zero]
    exact List.take_left' (beBytes_length k n)
  have hf : field (beBytes k n ++ rest) 0 k = spelled 0 (((beBytes k n ++ rest).drop 0).take k) := rfl
  rw [hf, ht, spelled_beBytes, Nat.mod_eq_of_lt h, Nat.zero_mul, Nat.zero_add]

/-- A field past the first bytes of a payload. -/
theorem field_skip {pre : List Byte} {i : Nat} (h : pre.length ≤ i) (l : List Byte) (k : Nat) :
    field (pre ++ l) i k = field l (i - pre.length) k := by
  unfold field
  rw [List.drop_append, List.drop_eq_nil_of_le h, List.nil_append]

/-! ### Fields are in form -/

theorem isByte_field (l : List Byte) (i : Nat) : isByte (field l i 1) = true := decide_eq_true (field_lt l i 1)
theorem isWord_field (l : List Byte) (i : Nat) : isWord (field l i 2) = true := decide_eq_true (field_lt l i 2)

theorem isSigned16_signed16 (l : List Byte) (i : Nat) : isSigned16 (signed16 l i) = true := by
  refine decide_eq_true ?_
  have h := BitVec.le_toInt (BitVec.ofNat 16 (field l i 2))
  have h' := BitVec.toInt_lt (x := BitVec.ofNat 16 (field l i 2))
  unfold signed16
  omega

theorem isByte_numbers (l : List Byte) (i k : Nat) : (numbers l i k).all isByte = true := by
  simp only [numbers, List.all_map, List.all_eq_true]
  exact fun b _ => decide_eq_true b.isLt

theorem isByte_numbers_length (l : List Byte) (i : Nat) {k : Nat} (h : k < 256) : isByte (numbers l i k).length = true := by
  refine decide_eq_true (lt_of_le_of_lt ?_ h)
  simp only [numbers, List.length_map]
  exact List.length_take_le ..

theorem hallOf_wf (l : List Byte) : (hallOf l).wf = true := by
  simp [HallRec.wf, hallOf, isByte_field, isWord_field]

theorem tiltOf_wf (l : List Byte) (i : Nat) : (tiltOf l i).wf = true := by
  simp [TiltRec.wf, tiltOf, isByte_field, isWord_field]

theorem tierOf_wf (l : List Byte) : (tierOf l).wf = true := by
  have hover : field l 10 4 < 4294967296 := field_lt l 10 4
  have htilt : (tierOf l).tilt.all TiltRec.wf = true := by
    unfold tierOf
    dsimp only
    split <;> simp [tiltOf_wf]
  have hflag : ((tierOf l).tilt.isSome == ((tierOf l).tiltFlag == 1)) = true := by
    unfold tierOf
    dsimp only
    split
    · next h => simp [h]
    · next h => simp [h]
  unfold TierWrite.wf
  rw [htilt, hflag]
  simp [tierOf, isByte_field, isWord_field, isSigned16_signed16, isByte_numbers, hover,
    isByte_numbers_length l 17 (field_lt l 16 1)]

theorem axisOf_wf (l : List Byte) : (axisOf l).wf = true := by
  have hzero : field l 19 3 < 16777216 := field_lt l 19 3
  simp [AxisRec.wf, axisOf, isByte_field, isWord_field, hzero]

theorem stepOf_wf (l : List Byte) (i : Nat) : (stepOf l i).wf = true := by
  simp [RawStep.wf, stepOf, isByte_field, isWord_field]

/-! ### Requests read from frames -/

theorem ofLength_request {l : List Byte} {n : Nat} {c d : Instr} : ofLength l n c = .request d ↔ l.length = n ∧ c = d := by
  unfold ofLength
  split <;> simp_all

theorem ofLength_known (l : List Byte) (n : Nat) (c : Instr) : ofLength l n c ≠ .unknownKind := by
  unfold ofLength
  split <;> simp

/-- A request read from a frame is in form and carries the frame's source. -/
theorem parseRequest_inForm {q : Src} {kind : Byte} {l : List Byte} {c : Instr} (h : parseRequest q kind l = .request c) :
    c.wf = true ∧ requestSrc c = some q := by
  unfold parseRequest at h
  split at h
  case h_35 => cases h
  all_goals obtain ⟨-, rfl⟩ := ofLength_request.mp h
  case h_12 =>
    split
    · exact ⟨rfl, rfl⟩
    · next hm => exact ⟨by simp [Instr.wf, isByte_field, hm], rfl⟩
  case h_17 =>
    split
    · exact ⟨rfl, rfl⟩
    · next hm => exact ⟨by simp [Instr.wf, isByte_field, hm], rfl⟩
  case h_26 =>
    split
    · exact ⟨by simp [Instr.wf, isByte_field], rfl⟩
    · next hm => exact ⟨by simp [Instr.wf, isByte_field, isSigned16_signed16, hm], rfl⟩
  all_goals
    refine ⟨?_, rfl⟩
    simp [Instr.wf, isByte_field, isWord_field, isSigned16_signed16, hallOf_wf, tierOf_wf, axisOf_wf, isByte_numbers,
      isByte_numbers_length _ _ (field_lt _ _ 1), stepOf_wf, List.all_map]

/-- A KIND outside the table is unknown, and only such a KIND. -/
theorem parseRequest_unknown_iff (q : Src) (kind : Byte) (l : List Byte) :
    parseRequest q kind l = .unknownKind ↔
      kind.toNat ∉ [0x01, 0x02, 0x03, 0x04, 0x05, 0x06, 0x07, 0x10, 0x11, 0x12, 0x13, 0x14, 0x15, 0x18, 0x19, 0x1A, 0x1B,
        0x20, 0x21, 0x22, 0x23, 0x28, 0x29, 0x2A, 0x2B, 0x2C, 0x2D, 0x2E, 0x30, 0x31, 0x32, 0x33, 0x38, 0x39] := by
  unfold parseRequest
  split
  case h_35 => simp_all
  all_goals
    next hk =>
    rw [hk]
    exact iff_of_false (ofLength_known _ _ _) (by decide)

/-- Settles O11. -/
theorem requestsAreReadInForm : Obligations.RequestsAreReadInForm := by
  refine ⟨fun q kind l c h => parseRequest_inForm h, parseRequest_unknown_iff, fun q tier mk t1 t0 cls h1 h0 => ?_⟩
  simp [parseRequest, ofLength, field]

/-! ### Records read back -/

theorem field_beBytes_end {k n : Nat} (h : n < 256 ^ k) : field (beBytes k n) 0 k = n := by
  simpa using field_beBytes h []

theorem signed16_skip {pre : List Byte} {i : Nat} (h : pre.length ≤ i) (l : List Byte) :
    signed16 (pre ++ l) i = signed16 l (i - pre.length) := by
  rw [signed16, field_skip h, ← signed16]

theorem signed16_beSigned {x : Int} (h : isSigned16 x = true) (rest : List Byte) : signed16 (beSigned 2 x ++ rest) 0 = x := by
  have hx := of_decide_eq_true h
  have hlt : (BitVec.ofInt (8 * 2) x).toNat < 256 ^ 2 := (BitVec.ofInt (8 * 2) x).isLt
  rw [signed16, beSigned, field_beBytes hlt, BitVec.ofNat_toNat, BitVec.setWidth_eq, BitVec.toInt_ofInt]
  exact Int.bmod_eq_of_le (by omega) (by omega)

theorem signed16_beSigned_end {x : Int} (h : isSigned16 x = true) : signed16 (beSigned 2 x) 0 = x := by
  simpa using signed16_beSigned h []

/-- A hall record's bytes are its write request. -/
theorem hallOf_hallBytes {w : HallRec} (h : w.wf = true) : hallOf (hallBytes w) = w := by
  simp only [HallRec.wf, Bool.and_eq_true, isWord, isByte, decide_eq_true_eq] at h
  obtain ⟨⟨⟨⟨h1, h2⟩, h3⟩, h4⟩, h5⟩ := h
  simp [hallOf, hallBytes, field_skip, field_beBytes, field_beBytes_end, h1, h2, h3, h4, h5]

theorem axisOf_axisBytes (a : Axis) {w : AxisRec} (h : w.wf = true) : axisOf (axisBytes a w) = w := by
  simp only [AxisRec.wf, Bool.and_eq_true, isWord, isByte, decide_eq_true_eq] at h
  obtain ⟨⟨⟨⟨⟨⟨⟨⟨⟨⟨⟨h1, h2⟩, h3⟩, h4⟩, h5⟩, h6⟩, h7⟩, h8⟩, h9⟩, h10⟩, h11⟩, h12⟩ := h
  have h12 : w.zero < 16777216 := h12
  simp [axisOf, axisBytes, field_skip, field_beBytes, field_beBytes_end, h1, h2, h3, h4, h5, h6, h7, h8, h9, h10, h11, h12]

theorem axisCode_lt (a : Axis) : axisCode a < 24 := by
  obtain ⟨t, r⟩ := a
  cases t <;> cases r <;> decide

theorem num_lt (n : Idx8) : Idx8.num n < 9 := by cases n <;> decide

theorem tiltOf_tiltBytes {g : TiltRec} (h : g.wf = true) : tiltOf (tiltBytes g) 0 = g := by
  simp only [TiltRec.wf, Bool.and_eq_true, isWord, isByte, decide_eq_true_eq] at h
  obtain ⟨⟨⟨⟨⟨⟨⟨h1, h2⟩, h3⟩, h4⟩, h5⟩, h6⟩, h7⟩, h8⟩ := h
  have h9 : g.raised.toNat < 18446744073709551616 := g.raised.isLt
  simp [tiltOf, tiltBytes, cellSetBytes, field_skip, field_beBytes, field_beBytes_end, h1, h2, h3, h4, h5, h6, h7, h8, h9]

theorem tiltOf_skip {pre : List Byte} {i : Nat} (h : pre.length ≤ i) (l : List Byte) :
    tiltOf (pre ++ l) i = tiltOf l (i - pre.length) := by
  have skip (d k : Nat) : field (pre ++ l) (i + d) k = field l (i - pre.length + d) k := by
    rw [field_skip (by omega), Nat.sub_add_comm h]
  simp only [tiltOf, skip, field_skip h]

/-- The bytes of a list of one-byte numbers. -/
theorem flatMap_beBytes_one (l : List Nat) : l.flatMap (beBytes 1) = l.map (BitVec.ofNat 8) := by
  induction l with
  | nil => rfl
  | cons n rest ih => simp [ih, beBytes_one]

theorem numbers_bytes {pre : List Byte} {l : List Nat} (h : l.all isByte = true) (rest : List Byte) :
    numbers (pre ++ (l.flatMap (beBytes 1) ++ rest)) pre.length l.length = l := by
  have hmap : (l.map (BitVec.ofNat 8)).map BitVec.toNat = l := by
    rw [List.map_map]
    refine (List.map_congr_left fun n hn => ?_).trans (List.map_id l)
    have := of_decide_eq_true (List.all_eq_true.mp h n hn)
    simpa using this
  rw [numbers, List.drop_left, flatMap_beBytes_one, List.take_left' (List.length_map _), hmap]

theorem cellsOf_getLsbD (l : List Nat) (i : Nat) : (cellsOf l).getLsbD i = (decide (i < 64) && decide (i ∈ l)) := by
  have h (acc : CellSet) : (l.foldl (fun acc c => acc ||| cellBit c) acc).getLsbD i =
      (acc.getLsbD i || (decide (i < 64) && decide (i ∈ l))) := by
    induction l generalizing acc with
    | nil => simp
    | cons c rest ih =>
      rw [List.foldl_cons, ih, BitVec.getLsbD_or, cellBit_getLsbD, Bool.or_assoc]
      simp only [List.mem_cons, Bool.decide_or, Bool.and_or_distrib_left]
  rw [cellsOf, h]
  simp

theorem cellsOf_cellList (c : CellSet) : cellsOf (cellList c) = c := by
  refine BitVec.eq_of_getLsbD_eq fun i hi => ?_
  rw [cellsOf_getLsbD]
  simp [mem_cellList, hi]

/-- The bytes of a step, as PLAN_WRITE sends it. -/
def rawStepBytes (x : RawStep) : List Byte :=
  beBytes 1 x.tier ++ beBytes 1 x.kind ++ beBytes 2 x.target ++ beBytes 1 x.cls ++ beBytes 1 x.cond

theorem stepOf_rawStepBytes {x : RawStep} (h : x.wf = true) (rest : List Byte) : stepOf (rawStepBytes x ++ rest) 0 = x := by
  simp only [RawStep.wf, Bool.and_eq_true, isWord, isByte, decide_eq_true_eq] at h
  obtain ⟨⟨⟨⟨h1, h2⟩, h3⟩, h4⟩, h5⟩ := h
  simp [stepOf, rawStepBytes, field_skip, field_beBytes, h1, h2, h3, h4, h5]

theorem stepOf_skip {pre : List Byte} {i : Nat} (h : pre.length ≤ i) (l : List Byte) :
    stepOf (pre ++ l) i = stepOf l (i - pre.length) := by
  have skip (d k : Nat) : field (pre ++ l) (i + d) k = field l (i - pre.length + d) k := by
    rw [field_skip (by omega), Nat.sub_add_comm h]
  simp only [stepOf, skip, field_skip h]

theorem steps_read {l : List RawStep} (h : l.all RawStep.wf = true) :
    ((List.range l.length).map fun i => stepOf (l.flatMap rawStepBytes) (6 * i)) = l := by
  induction l with
  | nil => rfl
  | cons x rest ih =>
    obtain ⟨hx, hrest⟩ : x.wf = true ∧ rest.all RawStep.wf = true := by simpa using h
    have hnext (i : Nat) : stepOf (rawStepBytes x ++ rest.flatMap rawStepBytes) (6 * (i + 1)) =
        stepOf (rest.flatMap rawStepBytes) (6 * i) := by
      have hl : (rawStepBytes x).length = 6 := by simp [rawStepBytes]
      rw [stepOf_skip (by omega), hl, Nat.mul_succ, Nat.add_sub_cancel]
    rw [List.length_cons, List.range_succ_eq_map, List.map_cons, List.map_map, List.flatMap_cons]
    refine congrArg₂ _ (stepOf_rawStepBytes hx _) ?_
    simpa [Function.comp_def, hnext] using ih hrest

theorem field_flagByte (b : Bool) (l : List Byte) : field (flagByte b ++ l) 0 1 = if b then 1 else 0 := by
  cases b <;> simp [flagByte, field]

/-- The tier record that a write spells. -/
def writtenRecord (w : TierWrite) : TierRec :=
  ⟨w.present == 1, w.travelMin, w.travelMax, w.lockTime, w.presence, w.overload, w.cells, w.rotDemand, w.tilt⟩

/-- The 17 bytes of a tier record before its cell addresses. -/
def tierHead (t : Tier) (r : TierRec) : List Byte :=
  beBytes 1 (Idx8.num t) ++ (flagByte r.present ++ (beSigned 2 r.travelMin ++ (beSigned 2 r.travelMax ++
    (beBytes 2 r.lockTime ++ (beBytes 2 r.presence ++ (beBytes 4 r.overload ++ (beBytes 2 r.rotDemand ++
      beBytes 1 r.cells.length)))))))

theorem tierBytes_eq (t : Tier) (r : TierRec) :
    tierBytes t r = tierHead t r ++ (r.cells.flatMap (beBytes 1) ++ presence (r.tilt.map tiltBytes)) := by
  simp only [tierBytes, tierHead, List.append_assoc]

theorem tierHead_length (t : Tier) (r : TierRec) : (tierHead t r).length = 17 := by simp [tierHead, flagByte]

theorem flatMap_beBytes_one_length (l : List Nat) : (l.flatMap (beBytes 1)).length = l.length := by
  simp [flatMap_beBytes_one]

/-- The flag of the tilt group and, behind it, the part. -/
theorem tierBytes_tilt (t : Tier) (r : TierRec) (hr : r.tilt.all TiltRec.wf = true) :
    field (tierBytes t r) (17 + r.cells.length) 1 = (if r.tilt.isSome then 1 else 0) ∧
      ∀ g, r.tilt = some g → tiltOf (tierBytes t r) (18 + r.cells.length) = g := by
  have hhead := tierHead_length t r
  have hcells := flatMap_beBytes_one_length r.cells
  rw [tierBytes_eq]
  constructor
  · rw [field_skip (by omega), field_skip (by omega), hhead, hcells, Nat.add_sub_cancel_left, Nat.sub_self]
    cases r.tilt <;> simp [presence, field]
  · intro g hg
    have hg' : g.wf = true := by simpa [hg] using hr
    have hat : 18 + r.cells.length - 17 - r.cells.length = 1 := by omega
    rw [tiltOf_skip (by omega), tiltOf_skip (by omega), hhead, hcells, hat, hg]
    exact (tiltOf_skip (pre := [1]) le_rfl _).trans (tiltOf_tiltBytes hg')

theorem tierBytes_length (t : Tier) (r : TierRec) :
    (tierBytes t r).length = 18 + r.cells.length + if r.tilt.isSome then 23 else 0 := by
  rw [tierBytes_eq, List.length_append, List.length_append, tierHead_length, flatMap_beBytes_one_length]
  cases r.tilt <;> simp [presence, tiltBytes, cellSetBytes] <;> omega

/-- A tier record's bytes are its write request. -/
theorem tierOf_tierBytes (t : Tier) {w : TierWrite} (h : w.wf = true) (hp : w.present ≤ 1) (ht : w.tiltFlag ≤ 1) :
    tierOf (tierBytes t (writtenRecord w)) = w ∧
      (tierBytes t (writtenRecord w)).length = tierLength (tierBytes t (writtenRecord w)) ∧
      field (tierBytes t (writtenRecord w)) 0 1 = Idx8.num t := by
  simp only [TierWrite.wf, Bool.and_eq_true, isWord, isByte, decide_eq_true_eq] at h
  obtain ⟨⟨⟨⟨⟨⟨⟨⟨⟨⟨⟨-, hmin⟩, hmax⟩, hlock⟩, hpresence⟩, hover⟩, hdemand⟩, hcount⟩, hcells⟩, -⟩, hsome⟩, htilt⟩ := h
  have hnum := num_lt t
  have hover : w.overload < 4294967296 := hover
  obtain ⟨hflag, hpart⟩ := tierBytes_tilt t (writtenRecord w) htilt
  have hc : (writtenRecord w).cells = w.cells := rfl
  have hti : (writtenRecord w).tilt = w.tilt := rfl
  have hlen := tierBytes_length t (writtenRecord w)
  simp only [hc, hti] at hflag hpart hlen
  have hcount' : field (tierBytes t (writtenRecord w)) 16 1 = w.cells.length := by
    have hf : (flagByte (w.present == 1)).length = 1 := rfl
    simp only [tierBytes_eq, tierHead, writtenRecord]
    generalize flagByte (w.present == 1) = flag at hf
    simp [field_skip, field_beBytes, hf, hcount]
  have hnumbers : numbers (tierBytes t (writtenRecord w)) 17 w.cells.length = w.cells := by
    have := numbers_bytes (pre := tierHead t (writtenRecord w)) hcells (presence (w.tilt.map tiltBytes))
    rw [tierHead_length] at this
    rw [tierBytes_eq]
    exact this
  have hfields : (tierOf (tierBytes t (writtenRecord w))).present = w.present ∧
      (tierOf (tierBytes t (writtenRecord w))).travelMin = w.travelMin ∧
      (tierOf (tierBytes t (writtenRecord w))).travelMax = w.travelMax ∧
      (tierOf (tierBytes t (writtenRecord w))).lockTime = w.lockTime ∧
      (tierOf (tierBytes t (writtenRecord w))).presence = w.presence ∧
      (tierOf (tierBytes t (writtenRecord w))).overload = w.overload ∧
      (tierOf (tierBytes t (writtenRecord w))).rotDemand = w.rotDemand := by
    have hone : (if (w.present == 1) = true then 1 else 0) = w.present := by
      obtain h0 | h1 : w.present = 0 ∨ w.present = 1 := by omega
      · simp [h0]
      · simp [h1]
    refine ⟨?_, ?_⟩
    · refine Eq.trans ?_ hone
      simp only [tierOf, tierBytes_eq, tierHead, List.append_assoc]
      rw [field_skip (by simp)]
      exact field_flagByte ..
    · have hf : (flagByte (w.present == 1)).length = 1 := rfl
      simp only [tierOf, tierBytes_eq, tierHead, writtenRecord]
      generalize flagByte (w.present == 1) = flag at hf
      simp [field_skip, signed16_skip, field_beBytes, signed16_beSigned, hf, hmin, hmax, hlock, hpresence, hover, hdemand]
  have hflag : field (tierBytes t (writtenRecord w)) (17 + w.cells.length) 1 = w.tiltFlag := by
    rw [hflag]
    rw [beq_iff_eq] at hsome
    obtain h0 | h1 : w.tiltFlag = 0 ∨ w.tiltFlag = 1 := by omega
    · simp [hsome, h0]
    · simp [hsome, h1]
  have htilt' : (if w.tiltFlag = 1 then some (tiltOf (tierBytes t (writtenRecord w)) (18 + w.cells.length)) else none) =
      w.tilt := by
    cases hg : w.tilt with
    | none => simpa [hg] using hsome
    | some g =>
      have h1 : w.tiltFlag = 1 := by simpa [hg] using hsome
      rw [if_pos h1, hpart g hg]
  obtain ⟨f1, f2, f3, f4, f5, f6, f7⟩ := hfields
  refine ⟨?_, ?_, ?_⟩
  · obtain ⟨present, travelMin, travelMax, lockTime, presence, overload, rotDemand, cells, tiltFlag, tilt⟩ := w
    simp only [tierOf, TierWrite.mk.injEq] at f1 f2 f3 f4 f5 f6 f7 hcount' hnumbers hflag htilt' ⊢
    simp only [hcount', hnumbers, hflag, htilt', true_and]
    exact ⟨f1, f2, f3, f4, f5, f6, f7, trivial⟩
  · rw [hlen, tierLength, hcount', hflag]
    rw [beq_iff_eq] at hsome
    by_cases h1 : w.tiltFlag = 1
    · simp [hsome, h1]
      omega
    · simp [hsome, h1]
  · simp only [tierBytes_eq, tierHead, List.append_assoc]
    exact field_beBytes (by omega) _

/-- Settles O12. -/
theorem recordsTravelAsTheirWriteRequests : Obligations.RecordsTravelAsTheirWriteRequests := by
  refine ⟨fun q w hw => ?_, fun q a w hw => ?_, fun q t w hw hp ht => ?_, fun q t b c hb => ⟨?_, cellsOf_cellList c⟩,
    fun q t n x hx => ?_, fun q p l hl hw => ?_⟩
  · have hlen : (hallBytes w).length = 9 := by simp [hallBytes]
    rw [← hallOf_hallBytes hw]
    simp [parseRequest, ofLength, hlen, hallOf_hallBytes hw]
  · have hlen : (axisBytes a w).length = 22 := by simp [axisBytes]
    have hcode : field (axisBytes a w) 0 1 = axisCode a := by
      have := axisCode_lt a
      simp only [axisBytes, List.append_assoc]
      exact field_beBytes (by omega) _
    simp [parseRequest, ofLength, hlen, axisOf_axisBytes a hw, hcode]
  · obtain ⟨hread, hlen, htier⟩ := tierOf_tierBytes t hw hp ht
    change parseRequest q 0x29 (tierBytes t (writtenRecord w)) = _
    simp [parseRequest, ofLength, ← hlen, hread, htier]
  · have hcount : cellCount c < 256 := by
      have : (cellList c).length ≤ 64 := (List.length_filter_le _ _).trans (by simp)
      exact lt_of_le_of_lt this (by decide)
    have hbytes : (cellList c).all isByte = true := by
      refine List.all_eq_true.mpr fun n hn => decide_eq_true ?_
      have := (mem_cellList.mp hn).1
      omega
    have hnum := num_lt t
    have htier : field (bandBytes t b c) 0 1 = Idx8.num t := by
      simp only [bandBytes, List.append_assoc]
      exact field_beBytes (by omega) _
    have hband : field (bandBytes t b c) 1 1 = b := by
      simp only [bandBytes, List.append_assoc]
      rw [field_skip (by simp)]
      simpa using field_beBytes (k := 1) (by omega : b < 256 ^ 1) _
    have hlen : field (bandBytes t b c) 2 1 = (cellList c).length := by
      simp only [bandBytes, List.append_assoc]
      rw [field_skip (by simp), field_skip (by simp)]
      simpa [cellCount] using field_beBytes (k := 1) hcount _
    have hcells : numbers (bandBytes t b c) 3 (cellList c).length = cellList c := by
      have := numbers_bytes (pre := beBytes 1 (Idx8.num t) ++ beBytes 1 b ++ beBytes 1 (cellCount c)) hbytes []
      simpa [bandBytes] using this
    have hall : (bandBytes t b c).length = 3 + (cellList c).length := by
      simp [bandBytes, flatMap_beBytes_one]
      omega
    simp [parseRequest, ofLength, htier, hband, hlen, hcells, hall]
  · have hnum := num_lt t
    have hn := num_lt n
    have e : stationBytes t n (some x) = beBytes 1 (Idx8.num t) ++ (beBytes 1 (Idx8.num n) ++ ([0] ++ beSigned 2 x)) := by
      simp [stationBytes]
    have htier : field (stationBytes t n (some x)) 0 1 = Idx8.num t := by
      rw [e]
      exact field_beBytes (by omega) _
    have hstation : field (stationBytes t n (some x)) 1 1 = Idx8.num n := by
      rw [e, field_skip (by simp)]
      simpa using field_beBytes (k := 1) (by omega : Idx8.num n < 256 ^ 1) _
    have hform : field (stationBytes t n (some x)) 2 1 = 0 := by
      rw [e, field_skip (by simp), field_skip (by simp)]
      simp [field]
    have hangle : signed16 (stationBytes t n (some x)) 3 = x := by
      rw [e, signed16_skip (by simp), signed16_skip (by simp), signed16_skip (by simp)]
      simpa using signed16_beSigned_end hx
    have hlen : (stationBytes t n (some x)).length = 5 := by simp [e]
    simp [parseRequest, ofLength, htier, hstation, hform, hangle, hlen]
  · have hnum := num_lt p
    change parseRequest q 0x30 (beBytes 1 (Idx8.num p) ++ beBytes 1 l.length ++ l.flatMap rawStepBytes) = _
    have hplan : field (beBytes 1 (Idx8.num p) ++ beBytes 1 l.length ++ l.flatMap rawStepBytes) 0 1 = Idx8.num p := by
      rw [List.append_assoc]
      exact field_beBytes (by omega) _
    have hcount : field (beBytes 1 (Idx8.num p) ++ beBytes 1 l.length ++ l.flatMap rawStepBytes) 1 1 = l.length := by
      rw [List.append_assoc, field_skip (by simp)]
      simpa using field_beBytes (k := 1) (by omega : l.length < 256 ^ 1) _
    have hsteps (i : Nat) : stepOf (beBytes 1 (Idx8.num p) ++ beBytes 1 l.length ++ l.flatMap rawStepBytes) (2 + 6 * i) =
        stepOf (l.flatMap rawStepBytes) (6 * i) := by
      rw [stepOf_skip (by simp)]
      simp
    have hlen : (beBytes 1 (Idx8.num p) ++ beBytes 1 l.length ++ l.flatMap rawStepBytes).length = 2 + 6 * l.length := by
      simp [rawStepBytes, List.length_flatMap]
      omega
    simp only [parseRequest, ofLength, hplan, hcount, hsteps, hlen]
    simp [steps_read hw]

end Sys2Proof.Machine

/-! SUPPORT. The link ports: reception (O8, O9), dispatch and transmission (O10), and the notices of the latch (O13). -/

namespace Sys2Proof.Machine

open Sys2Proof

/-! ### What a scan makes of some bytes -/

theorem scan_without_sync {l : List Byte} (h : ∀ b ∈ l, b ≠ syncByte) (fuel : Nat) : scan fuel l = (.hunt, [], []) := by
  induction l generalizing fuel with
  | nil => cases fuel <;> rfl
  | cons b rest ih =>
    cases fuel with
    | zero => rfl
    | succ fuel => rw [scan, if_pos (h b List.mem_cons_self), ih fun x hx => h x (List.mem_cons_of_mem _ hx)]

/-- A frame in reception behind its SYNC. -/
theorem scan_partway {l : List Byte} {ph : RxPhase} (h : readAfterSync l = .partway ph) (fuel : Nat) :
    scan (fuel + 1) (syncByte :: l) = (ph, l, []) := by
  rw [scan, if_neg (by simp), h]

/-- A whole frame behind its SYNC, and no byte behind it. -/
theorem scan_complete {l : List Byte} {f : Frame} (h : readAfterSync l = .complete f []) (fuel : Nat) :
    scan (fuel + 1) (syncByte :: l) = (.hunt, [], [f]) := by
  rw [scan, if_neg (by simp), h]
  cases fuel <;> rfl

/-- A frame dropped with no SYNC among its bytes. -/
theorem scan_dropped {l : List Byte} (h : readAfterSync l = .dropped) (hsync : ∀ b ∈ l, b ≠ syncByte) (fuel : Nat) :
    scan (fuel + 1) (syncByte :: l) = (.hunt, [], []) := by
  rw [scan, if_neg (by simp), h]
  exact scan_without_sync hsync fuel

/-- The receiver in HUNT, with an empty buffer and its gap timer stopped. -/
def hunting : Receiver := ⟨.hunt, [], none⟩

theorem receive_hunting {x : LinkPort} {l : List Byte} {gap : Nat} (h : scan l.length l = (.hunt, [], [])) :
    x.receive l gap = { x with rx := hunting } := by
  simp [LinkPort.receive, h, hunting]

theorem receive_partway {x : LinkPort} {l : List Byte} {ph : RxPhase} {gap : Nat} (h : readAfterSync l = .partway ph)
    (hph : ph ≠ .hunt) : x.receive (syncByte :: l) gap = { x with rx := ⟨ph, l, some gap⟩ } := by
  simp [LinkPort.receive, scan_partway h, hph]

theorem receive_complete {x : LinkPort} {l : List Byte} {f : Frame} {gap : Nat} (h : readAfterSync l = .complete f [])
    (hroom : x.input.length < 4) :
    x.receive (syncByte :: l) gap = { x with rx := hunting, input := x.input ++ [f] } := by
  have hroom : x.input.length < Config.inputCapacity := hroom
  simp [LinkPort.receive, scan_complete h, LinkPort.accept, hroom, hunting]

/-! ### The bytes of a frame -/

/-- The bytes of a frame between SYNC and CRC: LEN, KIND, TAG and the payload. -/
def frameBody (f : Frame) : List Byte := BitVec.ofNat 8 (f.payload.length + 2) :: f.kind :: f.tag :: f.payload

theorem frameBytes_eq (f : Frame) : frameBytes f = syncByte :: (frameBody f ++ crcBytes (crc16 (frameBody f))) := rfl

theorem frame_length {f : Frame} (h : f.payload.length ≤ 246) :
    (BitVec.ofNat 8 (f.payload.length + 2)).toNat = f.payload.length + 2 := by
  rw [BitVec.toNat_ofNat]
  exact Nat.mod_eq_of_lt (by omega)

/-- A frame of up to 246 payload bytes is read whole. -/
theorem readAfterSync_frame {f : Frame} (h : f.payload.length ≤ 246) :
    readAfterSync (frameBody f ++ crcBytes (crc16 (frameBody f))) = .complete f [] := by
  obtain ⟨kind, tag, payload⟩ := f
  have hn := frame_length h
  have hcrc : (crcBytes (crc16 (frameBody ⟨kind, tag, payload⟩))).length = 2 := rfl
  generalize hc : crcBytes (crc16 (frameBody ⟨kind, tag, payload⟩)) = crc at hcrc
  have hbody : (kind :: tag :: payload).length = payload.length + 2 := by simp
  unfold frameBody at hc ⊢
  dsimp only at h hn hc
  rw [List.cons_append, readAfterSync]
  dsimp only
  rw [hn, List.take_left' hbody, List.drop_left' hbody, List.take_of_length_le hcrc.le, hc, if_neg (by simp; omega),
    if_neg (by simp), if_neg (by simp [hcrc]), if_pos rfl]
  simp [hcrc]

/-- A proper beginning of a frame's bytes is a frame in reception. -/
theorem readAfterSync_prefix {f : Frame} (h : f.payload.length ≤ 246) {l rest : List Byte} (hrest : rest ≠ [])
    (e : l ++ rest = frameBody f ++ crcBytes (crc16 (frameBody f))) :
    ∃ ph, readAfterSync l = .partway ph ∧ ph ≠ .hunt := by
  cases l with
  | nil => exact ⟨.length, rfl, by decide⟩
  | cons len l =>
    have hlen : l.length + rest.length = f.payload.length + 2 + 2 := by
      have := congrArg List.length e
      simp [frameBody, crcBytes] at this
      omega
    have hrest : 0 < rest.length := List.length_pos_iff.mpr hrest
    have hhead : len = BitVec.ofNat 8 (f.payload.length + 2) := by
      simp only [frameBody, List.cons_append, List.cons.injEq] at e
      exact e.1
    have hn := frame_length h
    rw [← hhead] at hn
    rw [readAfterSync]
    dsimp only
    rw [hn, if_neg (by simp; omega)]
    split
    · exact ⟨.body, rfl, by decide⟩
    · rw [if_pos (by omega)]
      exact ⟨.check, rfl, by decide⟩

/-! ### Reception -/

/-- A port changed, and then let dispatch. -/
theorem kicked (c : Instr) (s : State) (p : Port) (f : LinkPort → LinkPort) :
    OnlyPorts s (((s.taken c).modPort p f).kick p) ∧ Mailed s (((s.taken c).modPort p f).kick p) c p [] ∧
      (((s.taken c).modPort p f).kick p).ports = s.ports.setPort p (f (s.port p)) := by
  obtain e | e := kick_eq ((s.taken c).modPort p f) p <;> rw [e]
  · exact ⟨rfl, .inl (by simp), rfl⟩
  · exact ⟨rfl, .inr (by simp), rfl⟩

theorem exec_byte (p : Port) (b : Byte) {s : State} (hs : s.held = false) :
    exec (.byteReceived p b false) s =
      .next (((s.taken (.byteReceived p b false)).modPort p fun x => x.receive (x.rx.held ++ [b]) 0).kick p) :=
  (exec_live (.byteReceived p b false) (execByteReceived.eq_1 ..) hs).trans (by simp)

/-- A byte received that leaves the port as `y`. -/
theorem exec_byte_leaves (p : Port) (b : Byte) {s : State} {y : LinkPort} (hs : s.held = false)
    (hy : (s.port p).receive ((s.port p).rx.held ++ [b]) 0 = y) :
    ∃ t, exec (.byteReceived p b false) s = .next t ∧ OnlyPorts s t ∧ Mailed s t (.byteReceived p b false) p [] ∧
      t.ports = s.ports.setPort p y := by
  obtain ⟨ho, hm, hp⟩ := kicked (.byteReceived p b false) s p fun x => x.receive (x.rx.held ++ [b]) 0
  exact ⟨_, exec_byte p b hs, ho, hm, hp.trans (by rw [hy])⟩

/-- A gap timer that has run out for a frame after which the receiver is in HUNT. -/
theorem exec_gap_leaves (p : Port) {s : State} {y : LinkPort} (hs : s.held = false) (hgap : (s.port p).rx.gapOut = true)
    (hy : (s.port p).receive (s.port p).rx.buffer ((s.port p).rx.gap.getD 0) = y) (hhunt : y.rx = hunting) :
    ∃ t, exec (.gapTimerExpiry p) s = .next t ∧ OnlyPorts s t ∧ Mailed s t (.gapTimerExpiry p) p [] ∧
      t.ports = s.ports.setPort p y := by
  obtain ⟨ho, hm, hp⟩ := kicked (.gapTimerExpiry p) s p fun x => x.receive x.rx.buffer (x.rx.gap.getD 0)
  rw [hy] at hp
  refine ⟨_, (exec_live (.gapTimerExpiry p) (execGapTimerExpiry.eq_1 ..) hs).trans ?_, ho, hm, hp⟩
  have hgap' : ((s.taken (.gapTimerExpiry p)).port p).rx.gapOut = true := hgap
  rw [if_pos hgap', State.gapExpired]
  have hrx : ((((s.taken (.gapTimerExpiry p)).modPort p fun x => x.receive x.rx.buffer (x.rx.gap.getD 0)).kick p).port
      p).rx = hunting := by
    rw [State.port, hp, Both.port_setPort_self, hhunt]
  simp only [taken_port] at hrx ⊢
  rw [hrx]
  rfl

/-- Settles O8: each event by what the receiver makes of the bytes it holds. -/
theorem receiverEventsOfR182 : Obligations.ReceiverEventsOfR182 := by
  refine fun p s hs => ⟨fun b => ?_, fun b hph => ?_, fun b hph hbuf hb => ?_, fun n c b body hph hbuf hlen h2 h248 hcrc
    hsync => ?_, fun hgap => ?_, fun hgap hsync => ?_, fun f hgap hlen hbuf hroom => ?_⟩
  · exact ⟨_, exec_live (.byteReceived p b true) (execByteReceived.eq_1 ..) hs, rfl⟩
  · refine exec_byte_leaves p b hs ?_
    have hheld : (s.port p).rx.held = [] := by simp [Receiver.held, hph]
    rw [hheld, List.nil_append]
    by_cases hb : b = syncByte
    · rw [hb]
      exact receive_partway (l := []) rfl (by decide)
    · rw [receive_hunting (scan_without_sync (by simpa using hb) _), if_neg (show ¬b = 0xA5 from hb)]
      rfl
  · refine exec_byte_leaves p b hs ?_
    have hheld : (s.port p).rx.held = [syncByte] := by simp [Receiver.held, hph, hbuf]
    rw [hheld]
    refine receive_hunting (scan_dropped (l := [b]) ?_ ?_ _)
    · rw [readAfterSync]
      exact if_pos (by simpa using hb)
    · have h165 : syncByte.toNat = 165 := by decide
      rintro x hx rfl
      rw [List.mem_singleton.mp hx] at h165
      omega
  · refine exec_byte_leaves p b hs ?_
    have hheld : (s.port p).rx.held ++ [b] = syncByte :: (n :: body ++ [c, b]) := by
      simp [Receiver.held, hph, hbuf]
    rw [hheld]
    refine receive_hunting (scan_dropped ?_ hsync _)
    rw [List.cons_append, readAfterSync]
    dsimp only
    rw [List.take_left' hlen, List.drop_left' hlen, if_neg (by simp; omega), if_neg (by simp [hlen]),
      if_neg (by simp [hlen]), if_neg (by simpa using hcrc)]
  · refine ⟨_, exec_live (.gapTimerExpiry p) (execGapTimerExpiry.eq_1 ..) hs, if_neg ?_⟩
    simp [hgap]
  · exact exec_gap_leaves p hs hgap (receive_hunting (scan_without_sync hsync _)) rfl
  · refine exec_gap_leaves p hs hgap ?_ rfl
    rw [hbuf, frameBytes_eq]
    exact receive_complete (readAfterSync_frame hlen) hroom

theorem OnlyPorts.held {s t : State} (h : OnlyPorts s t) : t.held = s.held := by
  unfold OnlyPorts at h
  rw [h]

/-- The rest of a frame's bytes, received at a port that holds those before them. -/
theorem receiveAll_rest {p : Port} {f : Frame} (h : f.payload.length ≤ 246) {rest l : List Byte} {s : State}
    (hs : s.held = false) (hph : (s.port p).rx.phase ≠ .hunt) (hbuf : (s.port p).rx.buffer = l)
    (e : l ++ rest = frameBody f ++ crcBytes (crc16 (frameBody f))) (hrest : rest ≠ []) (hroom : (s.port p).input.length < 4) :
    ∃ t, receiveAll p rest s = .next t ∧ (t.port p).input = (s.port p).input ++ [f] ∧ (t.port p).rx = hunting := by
  induction rest generalizing l s with
  | nil => exact absurd rfl hrest
  | cons b rest ih =>
    have hheld : (s.port p).rx.held ++ [b] = syncByte :: (l ++ [b]) := by
      unfold Receiver.held
      split
      · next hh => exact absurd hh hph
      · rw [hbuf]
        rfl
    by_cases hlast : rest = []
    · subst hlast
      obtain ⟨t, he, -, -, hp⟩ := exec_byte_leaves p b hs (y := { s.port p with
        rx := hunting, input := (s.port p).input ++ [f] }) (by
          rw [hheld, e]
          exact receive_complete (readAfterSync_frame h) hroom)
      refine ⟨t, by rw [receiveAll, he]; rfl, ?_⟩
      rw [State.port, hp, Both.port_setPort_self]
      exact ⟨rfl, rfl⟩
    · have e' : l ++ [b] ++ rest = frameBody f ++ crcBytes (crc16 (frameBody f)) := by simpa using e
      obtain ⟨ph, hread, hph'⟩ := readAfterSync_prefix h hlast e'
      obtain ⟨t, he, ho, -, hp⟩ := exec_byte_leaves p b hs (y := { s.port p with rx := ⟨ph, l ++ [b], some 0⟩ }) (by
        rw [hheld]
        exact receive_partway hread hph')
      have hport : t.port p = { s.port p with rx := ⟨ph, l ++ [b], some 0⟩ } := by
        rw [State.port, hp, Both.port_setPort_self]
      obtain ⟨u, hu, hin, hrx⟩ := ih (s := t) (l := l ++ [b]) (ho.held.trans hs) (by rw [hport]; exact hph')
        (by rw [hport]) e' hlast (by rw [hport]; exact hroom)
      refine ⟨u, by rw [receiveAll, he]; exact hu, ?_, hrx⟩
      rw [hin, hport]

/-- Settles O9: SYNC puts the receiver in reception, and the rest of the frame is read behind it. -/
theorem everyFrameSentIsReceivedWhole : Obligations.EveryFrameSentIsReceivedWhole := by
  intro p f s hs hlen hrx hroom
  obtain ⟨t, he, ho, -, hp⟩ := exec_byte_leaves p syncByte hs (y := { s.port p with rx := ⟨.length, [], some 0⟩ }) (by
    rw [hrx]
    exact receive_partway (l := []) rfl (by decide))
  have hport : t.port p = { s.port p with rx := ⟨.length, [], some 0⟩ } := by rw [State.port, hp, Both.port_setPort_self]
  obtain ⟨u, hu, hin, hrx'⟩ := receiveAll_rest hlen (s := t) (p := p) (l := []) (ho.held.trans hs)
    (by rw [hport]; exact (by decide : RxPhase.length ≠ .hunt)) (by rw [hport]) rfl (by simp [frameBody]) (by rw [hport]; exact hroom)
  refine ⟨u, by rw [frameBytes_eq, receiveAll, he]; exact hu, ?_, hrx'⟩
  rw [hin, hport]

/-! ### Dispatch and transmission -/

/-- A port that answers a frame itself. -/
theorem answered_by_port (s : State) (p : Port) (f : Frame) (rest : List Frame) (st : Status) :
    OnlyPorts s (((s.taken (.frameDispatch p)).modPort p fun x => { x with input := rest }).putReply ⟨p, f.tag⟩
        (f.kind + 0x80) st []) ∧
      Answered (s.modPort p fun x => { x with input := rest })
        (((s.taken (.frameDispatch p)).modPort p fun x => { x with input := rest }).putReply ⟨p, f.tag⟩ (f.kind + 0x80) st [])
        (.frameDispatch p) ⟨p, f.tag⟩ f.kind st [] [] := by
  obtain ⟨hr, ho, hm⟩ :=
    putReply_eq ((s.taken (.frameDispatch p)).modPort p fun x => { x with input := rest }) ⟨p, f.tag⟩ f.kind st []
  refine ⟨?_, hr, ?_⟩
  · unfold OnlyPorts at ho ⊢
    rw [ho]
    rfl
  · simpa [Mailed] using hm

/-- A dispatch that may be made, by what the port reads in the frame. -/
theorem exec_dispatch {p : Port} {s : State} {f : Frame} {rest : List Frame} (hs : s.held = false)
    (hin : (s.port p).input = f :: rest) (hcan : (s.taken (.frameDispatch p)).canDispatch p = true) {r : Parsed}
    (hr : parseRequest ⟨p, f.tag⟩ f.kind f.payload = r) :
    exec (.frameDispatch p) s = .next (
      let s1 := (s.taken (.frameDispatch p)).modPort p fun x => { x with input := rest }
      match r with
      | .unknownKind => s1.putReply ⟨p, f.tag⟩ (f.kind + 0x80) .unknownKind []
      | .badLength => s1.putReply ⟨p, f.tag⟩ (f.kind + 0x80) .badLength []
      | .request c => s1.emit c) := by
  refine (exec_live (.frameDispatch p) (execFrameDispatch.eq_1 ..) hs).trans ?_
  simp only [taken_port, hin, hcan, if_true, hr]
  cases r <;> rfl

/-- Settles O10: the three readings of a frame, and the pump after a transmission. -/
theorem dispatchAndTransmission : Obligations.DispatchAndTransmission := by
  refine fun p s hs => ⟨fun f rest hin hcan => ?_, ?_⟩
  · generalize hr : parseRequest ⟨p, f.tag⟩ f.kind f.payload = r
    have he := exec_dispatch hs hin hcan hr
    cases r with
    | unknownKind =>
      obtain ⟨ho, ha⟩ := answered_by_port s p f rest .unknownKind
      exact ⟨_, he, ho, fun _ => ha, fun h => (by cases h), fun c h => (by cases h)⟩
    | badLength =>
      obtain ⟨ho, ha⟩ := answered_by_port s p f rest .badLength
      exact ⟨_, he, ho, fun h => (by cases h), fun _ => ha, fun c h => (by cases h)⟩
    | request c =>
      refine ⟨_, he, rfl, fun h => (by cases h), fun h => (by cases h), fun d hd => ?_⟩
      cases hd
      exact ⟨(parseRequest_inForm hr).2, rfl, rfl⟩
  · refine ⟨_, exec_live (.transmitDone p) (execTransmitDone.eq_1 ..) hs, ?_⟩
    have hpump : ({ s.port p with sending := none } : LinkPort).pump =
        match (s.port p).reply, (s.port p).notices with
        | some f, _ => { s.port p with sending := some (frameBytes f), reply := none }
        | none, f :: rest => { s.port p with sending := some (frameBytes f), notices := rest }
        | none, [] => { s.port p with sending := none } := by
      cases hr : (s.port p).reply <;> cases hn : (s.port p).notices <;> simp [LinkPort.pump, hr, hn]
    obtain ⟨ho, hm, hp⟩ := kicked (.transmitDone p) s p fun x => ({ x with sending := none } : LinkPort).pump
    have e : ((s.taken (.transmitDone p)).modPort p fun x => { x with sending := none }).serve p =
        ((s.taken (.transmitDone p)).modPort p fun x => ({ x with sending := none } : LinkPort).pump).kick p := by
      simp only [State.serve, State.modPort, Both.port_setPort_self, Both.setPort_setPort]
    rw [e]
    exact ⟨ho, hm, hp.trans (congrArg _ hpump)⟩

/-! ### The latch -/

/-- What the latch makes of a port, by its transmitter, its reply slot and the queue that the notice has joined. -/
theorem latches_eq (x : LinkPort) (latched : EventSet) (k : EventKind) (f : Frame) (queue : List Frame) (attn : Bool)
    (hq : queue = if x.enabled.getLsbD (eventBit k) = true ∧ x.notices.length < 8 then x.notices ++ [f] else x.notices)
    (ha : attn = ((latched &&& x.enabled) != 0)) :
    x.latches latched k f = ({ x with notices := queue, attn := attn } : LinkPort).pump := by
  subst hq ha
  unfold LinkPort.latches LinkPort.judgedBy LinkPort.notify
  simp only [Bool.and_eq_true, decide_eq_true_eq]
  split
  · next h =>
    have h : _ ∧ x.notices.length < 8 := h
    rw [if_pos h]
  · next h =>
    have h : ¬(_ ∧ x.notices.length < 8) := h
    rw [if_neg h]

/-- Settles O13: each port takes the notice by itself, and the fields of each kind. -/
theorem theLatchTakesAnEvent : Obligations.TheLatchTakesAnEvent := by
  refine ⟨fun e s hs => ?_, fun s => ⟨fun o => rfl, fun p st => ⟨?_, fun k x => ?_, fun k r => ?_, fun r => ?_⟩, fun st k => ?_,
    fun k t a took => ?_, fun u m => ?tier, fun u valid occupied net => ?load, fun m st lost => ?_, fun n => ?_, fun m => rfl,
    fun h => rfl⟩⟩
  · obtain ⟨hl, hp, hf⟩ := latch_frame (s.taken (.latchEvent e)) e
    refine ⟨_, exec_live (.latchEvent e) (execLatchEvent.eq_1 ..) hs, hl, fun p queue attn hq ha => ?_, hf⟩
    rw [hl] at ha
    have hx := latches_eq (s.port p) (s.latched ||| eventSet (eventKind e)) (eventKind e) (noticeOf s e) queue attn hq ha
    rw [hp]
    refine hx.trans ?_
    cases hsend : (s.port p).sending <;> cases hr : (s.port p).reply <;> cases hn : queue <;>
      simp [LinkPort.pump, hsend, hr]
  case tier =>
    have hstage : stageByte ((s.seq u).jog.map (·.stage)) = [((s.seq u).jog.map fun j => stageCode j.stage).getD 0] := by
      cases (s.seq u).jog <;> rfl
    simp [noticeOf, noticePayload, eventKind, eventBit, beBytes_one, flagByte, hstage]
  case load => cases valid <;> simp [noticeOf, noticePayload, eventKind, eventBit, beBytes_one, flagByte, longBytes]
  all_goals
    simp [noticeOf, noticePayload, eventKind, eventBit, beBytes_one, kindByte, idxByte, axisByte, flagByte,
      planDetailBytes]

end Sys2Proof.Machine

/-! SUPPORT. The queries: their frame and the bytes of their replies (O16, O17). -/

namespace Sys2Proof.Machine

open Sys2Proof

/-! ### A query leaves its block as it stands -/

theorem moveStatusAnswer_state (s : State) (n : Nat) : (s.moveStatusAnswer n).1 = s := by
  unfold State.moveStatusAnswer
  split
  · rfl
  · split
    · rfl
    · split
      · rfl
      · split <;> rfl

theorem tableAnswer_state (s : State) (selector first second : Nat) : (s.tableAnswer selector first second).1 = s := by
  unfold State.tableAnswer
  split
  · rfl
  · split <;> rfl
  · split <;> rfl
  · split
    · split <;> rfl
    · rfl
  · split <;> rfl
  · rfl

/-- A query whose block answers from the state as it stands. -/
theorem exec_query (c : Instr) {q : Src} {k : Byte} {f : State → Answer} {s : State} (he : exec c s = request c q k f s)
    (hs : s.held = false) (hf : (f (s.taken c)).1 = s.taken c) :
    ∃ t st body, exec c s = .next t ∧ OnlyPorts s t ∧ Answered s t c q k st body [] := by
  obtain ⟨t, h⟩ := exec_unchanged c he hs (Prod.ext hf rfl)
  exact ⟨t, _, _, h⟩

/-- Every query changes nothing but the reply at its port. -/
theorem queries_answered {c : Instr} {kind : Byte} {q : Src} {s : State} (hs : s.held = false)
    (hk : queryKind c = some kind) (hq : requestSrc c = some q) :
    ∃ t st body, exec c s = .next t ∧ OnlyPorts s t ∧ Answered s t c q kind st body [] := by
  cases c <;> try (cases hk; done)
  all_goals
    obtain rfl := Option.some.inj hk
    obtain rfl := Option.some.inj hq
  case hallStatus => exact exec_query _ (execHallStatus.eq_1 ..) hs rfl
  case tierStatus => exact exec_query _ (execTierStatus.eq_1 ..) hs (by split <;> rfl)
  case moveStatus => exact exec_query _ (execMoveStatus.eq_1 ..) hs (moveStatusAnswer_state ..)
  case readCells => exact exec_query _ (execReadCells.eq_1 ..) hs rfl
  case readTable => exact exec_query _ (execReadTable.eq_1 ..) hs (tableAnswer_state ..)
  case planStatus => exact exec_query _ (execPlanStatus.eq_1 ..) hs (by split <;> rfl)
  case readFault => exact exec_query _ (execReadFault.eq_1 ..) hs rfl

/-- A query's reply. -/
theorem query_replied (c : Instr) {q : Src} {k : Byte} {f : State → Answer} {s : State} {st : Status} {body : List Byte}
    (he : exec c s = request c q k f s) (hs : s.held = false) (hf : f (s.taken c) = (s.taken c, st, body)) :
    ∃ t, exec c s = .next t ∧ Replied s t q k st body := by
  obtain ⟨t, h, -, ha, -⟩ := exec_unchanged c he hs hf
  exact ⟨t, h, ha⟩

/-! ### READ_CELLS, READ_TABLE and PLAN_STATUS -/

/-- The bytes of a READ_CELLS reply. -/
theorem readCellsBytes_eq (s : State) : readCellsBytes s =
    [modeCode s.auth.mode] ++
      ((List.range 64).flatMap fun c =>
        (match Idx8.all.find? fun u => (s.holding u).owns.getLsbD c with
         | none => [0, 0]
         | some u =>
           [BitVec.ofNat 8 (Idx8.num u),
            match (s.holding u).standing.getLsbD c, (s.holding u).reserved.getLsbD c with
            | true, true => 3
            | false, true => 2
            | true, false => 1
            | false, false => 0]) ++
        [BitVec.ofNat 8 (numOr0 ((s.arb.owed.find? fun o => o.cell == c).map (·.tier)))]) ++
      (Idx8.all.flatMap fun u =>
        [BitVec.ofNat 8 ((s.holding u).band.getD 0xFF), BitVec.ofNat 8 (cellCount (s.holding u).standing),
         BitVec.ofNat 8 (cellCount (s.holding u).reserved), BitVec.ofNat 8 (cellCount (s.arb.owedSet u))] ++
        beBytes 2 (s.holding u).demand) ++
      beBytes 2 s.tables.hall.capacity ++ beBytes 2 s.arb.committed ++
      beBytes 2 (s.tables.hall.capacity - s.arb.committed) ++ [if s.arb.armed then 1 else 0] := by
  have hentry (c : Nat) : cellEntry s.arb c =
      (match Idx8.all.find? fun u => (s.holding u).owns.getLsbD c with
       | none => [0, 0]
       | some u =>
         [BitVec.ofNat 8 (Idx8.num u),
          match (s.holding u).standing.getLsbD c, (s.holding u).reserved.getLsbD c with
          | true, true => 3
          | false, true => 2
          | true, false => 1
          | false, false => 0]) ++
      [BitVec.ofNat 8 (numOr0 ((s.arb.owed.find? fun o => o.cell == c).map (·.tier)))] := by
    have howner : s.arb.owner c = Idx8.all.find? fun u => (s.holding u).owns.getLsbD c := rfl
    unfold cellEntry
    rw [howner]
    cases Idx8.all.find? fun u => (s.holding u).owns.getLsbD c with
    | none => simp [idxByte, beBytes_one, Arbiter.oldestOwed]
    | some u =>
      have hcode : beBytes 1 (holdingCode (s.arb.tiers.get u) c) =
          [match (s.holding u).standing.getLsbD c, (s.holding u).reserved.getLsbD c with
            | true, true => 3
            | false, true => 2
            | true, false => 1
            | false, false => 0] := by
        unfold holdingCode State.holding
        cases (s.arb.tiers.get u).standing.getLsbD c <;> cases (s.arb.tiers.get u).reserved.getLsbD c <;> rfl
      simp only [hcode]
      simp [idxByte, beBytes_one, Arbiter.oldestOwed]
  have htier (u : Tier) : holdingBytes s.arb u =
      [BitVec.ofNat 8 ((s.holding u).band.getD 0xFF), BitVec.ofNat 8 (cellCount (s.holding u).standing),
        BitVec.ofNat 8 (cellCount (s.holding u).reserved), BitVec.ofNat 8 (cellCount (s.arb.owedSet u))] ++
      beBytes 2 (s.holding u).demand := by
    simp only [holdingBytes, beBytes_one]
    rfl
  simp only [readCellsBytes, funext hentry, funext htier, flagByte]

/-- The bytes of a PLAN_STATUS reply. -/
theorem planStatusBytes_eq (s : State) (named : Option PlanNo) : planStatusBytes s named =
    [BitVec.ofNat 8 (numOr0 s.plans.plan), planCode s.plans.state, BitVec.ofNat 8 (s.plans.next.getD 0),
      BitVec.ofNat 8 (s.plans.failing.getD 0)] ++
      ((s.plans.reason.map planReasonBytes).getD [0, 0] ++ BitVec.ofNat 8 s.plans.steps.length ::
        s.plans.steps.flatMap stepRunBytes) ++
      (match named with
       | none => []
       | some p => BitVec.ofNat 8 (s.plans.store.get p).length :: (s.plans.store.get p).flatMap stepBytes) := by
  unfold planStatusBytes
  cases hr : s.plans.reason <;> cases named <;> simp [idxByte, beBytes_one, hr]

/-- Settles O16. -/
theorem queriesChangeNothingButTheReply : Obligations.QueriesChangeNothingButTheReply := by
  refine ⟨fun c kind q s hs hk hq => queries_answered hs hk hq, fun q s hs => ⟨?_, ?_, fun u => ?_, fun a => ?_,
    fun u b hb => ?_, fun u n => ?_, fun n hn => ?_, fun n hn => ?_⟩⟩
  · obtain ⟨t, he, hr⟩ := query_replied (.readCells q) (execReadCells.eq_1 ..) hs rfl
    exact ⟨t, readCellsBytes s, he, hr, by simp [readCellsBytes_length], readCellsBytes_eq s⟩
  · exact query_replied (.readTable q 0 0 0) (execReadTable.eq_1 ..) hs rfl
  · refine query_replied (.readTable q 1 (Idx8.num u) 0) (execReadTable.eq_1 ..) hs ?_
    simp [State.tableAnswer, ofNat?_num, State.answer]
  · refine query_replied (.readTable q 2 (axisCode a) 0) (execReadTable.eq_1 ..) hs ?_
    simp [State.tableAnswer, axisOfCode_code, State.answer]
  · refine query_replied (.readTable q 3 (Idx8.num u) b) (execReadTable.eq_1 ..) hs ?_
    simp [State.tableAnswer, ofNat?_num, hb, State.answer]
  · refine query_replied (.readTable q 4 (Idx8.num u) (Idx8.num n)) (execReadTable.eq_1 ..) hs ?_
    simp [State.tableAnswer, ofNat?_num, State.answer]
  · refine query_replied (.readTable q n 0 0) (execReadTable.eq_1 ..) hs ?_
    unfold State.tableAnswer
    split <;> first | omega | rfl
  · refine query_replied (.planStatus q n) (execPlanStatus.eq_1 ..) hs ?_
    rw [if_neg (by omega), planStatusBytes_eq]
    rfl

/-! ### HALL_STATUS, READ_FAULT and TIER_STATUS -/

/-- The bytes of a READ_FAULT reply. -/
theorem readFaultBytes_eq (s : State) : readFaultBytes s =
    stopCode s.man.state ::
      (match s.man.record with
       | none => [0]
       | some r =>
         [1, BitVec.ofNat 8 (kindCode r.kind), BitVec.ofNat 8 (numOr0 r.tier),
           (match r.axis with | some a => BitVec.ofNat 8 (axisCode a) | none => 0xFF)] ++
         beBytes 2 (r.number.getD 0) ++
         (match r.demand with | some d => 1 :: beSigned 4 d | none => [0]) ++
         (match r.actual with | some x => 1 :: beSigned 4 x | none => [0]) ++ beBytes 4 r.time.toNat) ++
      beBytes 4 s.man.seen.toNat ++
      [BitVec.ofNat 8 s.man.further, if s.man.contactor then 1 else 0, if s.man.estop then 1 else 0] ++
      (BitVec.ofNat 8 s.limitsActive.length :: s.limitsActive.map fun a => BitVec.ofNat 8 (axisCode a)) ++
      (BitVec.ofNat 8 s.drivesNotReady.length :: s.drivesNotReady.map fun a => BitVec.ofNat 8 (axisCode a)) ++
      (match s.man.repower with
       | some tm => 1 :: beBytes 4 (tm.duration - (s.clock - tm.start).toNat)
       | none => [0]) := by
  have hlist (l : List Axis) : axisListBytes l = BitVec.ofNat 8 l.length :: l.map fun a => BitVec.ofNat 8 (axisCode a) := by
    simp only [axisListBytes, beBytes_one, List.singleton_append, List.cons.injEq, true_and]
    induction l with
    | nil => rfl
    | cons a rest ih => simp [ih]
  have hrec (r : FaultRec) : faultRecBytes r =
      [BitVec.ofNat 8 (kindCode r.kind), BitVec.ofNat 8 (numOr0 r.tier),
        (match r.axis with | some a => BitVec.ofNat 8 (axisCode a) | none => 0xFF)] ++
      beBytes 2 (r.number.getD 0) ++
      (match r.demand with | some d => 1 :: beSigned 4 d | none => [0]) ++
      (match r.actual with | some x => 1 :: beSigned 4 x | none => [0]) ++ beBytes 4 r.time.toNat := by
    unfold faultRecBytes
    cases r.axis <;> cases r.demand <;> cases r.actual <;>
      simp [beBytes_one, idxByte, axisByte, presence, longBytes, clockBytes]
  have hleft (tm : Timer) : tm.left s.clock = tm.duration - (s.clock - tm.start).toNat := rfl
  unfold readFaultBytes
  simp only [hlist, flagByte, beBytes_one]
  cases s.man.record <;> cases s.man.repower <;> simp [presence, hrec, hleft]

/-- The number whose bits, from bit 0 on, are a list of flags. -/
def flagsValue (bs : List Bool) : Nat := bs.foldr Nat.bit 0

theorem flagsValue_testBit (bs : List Bool) (i : Nat) : (flagsValue bs).testBit i = bs.getD i false := by
  induction bs generalizing i with
  | nil => simp [flagsValue]
  | cons b rest ih =>
    cases i with
    | zero => exact Nat.testBit_bit_zero b _
    | succ i => exact (Nat.testBit_bit_succ i b _).trans ((ih i).trans (by simp))

theorem flags_summed (bs : List Bool) (k acc : Nat) :
    (bs.zipIdx k).foldl (fun acc (b, i) => if b then acc + 2 ^ i else acc) acc = acc + 2 ^ k * flagsValue bs := by
  induction bs generalizing k acc with
  | nil => simp [flagsValue]
  | cons b rest ih =>
    have hcons : flagsValue (b :: rest) = 2 * flagsValue rest + b.toNat := Nat.bit_val b _
    rw [List.zipIdx_cons, List.foldl_cons, ih, hcons]
    cases b <;> simp <;> ring

/-- A flag of a byte of flags. -/
theorem bitsByte_getLsbD (bs : List Bool) (i : Nat) (hi : i < 8) : (bitsByte bs).getLsbD i = bs.getD i false := by
  rw [bitsByte, flags_summed, BitVec.getLsbD_ofNat, Nat.zero_add, Nat.pow_zero, Nat.one_mul, flagsValue_testBit]
  simp [hi]

theorem axisBlock_length (a : Axis) (x : AxisCtl) : (axisBlock a x).length = 15 := by simp [axisBlock, longBytes]

theorem cellBlock_length (n : Nat) (c : LoadCell) : (cellBlock n c).length = 8 := by simp [cellBlock, longBytes]

/-- Settles O17. -/
theorem statusRepliesCarryTheirFigures : Obligations.StatusRepliesCarryTheirFigures := by
  refine ⟨fun q s hs => ?_, fun q s hs => ?_, fun s t => ?_, fun s t hcells => ?_, fun q s t hs => ?_, fun q n s hs hn => ?_⟩
  · refine query_replied (.hallStatus q) (execHallStatus.eq_1 ..) hs ?_
    simp [hallStatusBytes, State.answer, beBytes_one, eventSetBytes, kindByte, clockBytes]
    exact ⟨rfl, rfl⟩
  · refine query_replied (.readFault q) (execReadFault.eq_1 ..) hs ?_
    exact congrArg _ (readFaultBytes_eq (s.taken (.readFault q)))
  · refine ⟨_, fun a => bitsByte [(s.axis a).valid, (s.axis a).encoderMiss, (s.axis a).saturated, (s.axis a).released,
      (s.axis a).limit, (s.axis a).ready], fun c => bitsByte [c.reading.isSome, c.saturated], fun i hi => bitsByte_getLsbD _ i hi,
      fun a i hi => bitsByte_getLsbD _ i hi, fun c i hi => bitsByte_getLsbD _ i hi, ?_⟩
    have hstage (x : Option Stage) : stageByte x = [(x.map stageCode).getD 0] := by cases x <;> rfl
    have haxis (a : Axis) : axisBlock a (s.axis a) = BitVec.ofNat 8 (axisCode a) :: (beSigned 4 (s.axis a).position ++
        beSigned 4 (s.axis a).demand ++ beBytes 2 (s.axis a).v ++ beSigned 2 (s.axis a).speed ++
        [phaseCode (s.axis a).phase, bitsByte [(s.axis a).valid, (s.axis a).encoderMiss, (s.axis a).saturated,
          (s.axis a).released, (s.axis a).limit, (s.axis a).ready]]) := by
      simp [axisBlock, beBytes_one, longBytes]
    have hcell (x : Nat × LoadCell) : cellBlock x.1 x.2 = BitVec.ofNat 8 x.1 :: (beSigned 4 (x.2.reading.getD 0) ++
        [bitsByte [x.2.reading.isSome, x.2.saturated], BitVec.ofNat 8 x.2.misses, cellStateCode x.2.state]) := by
      simp [cellBlock, beBytes_one, longBytes]
    have hok : statusCode .ok = 0 := rfl
    simp only [tierStatusBytes, haxis, hcell, hstage, beBytes_one, idxByte, longBytes, hok]
    simp [Function.comp_def]
    rcases (s.seq t).inhibit with _ | _ | _ | _ <;> rfl
  · have hzip : ((s.tier t).cells.zip (s.loadOf t).cells).length = (s.tier t).cells.length := by
      rw [List.length_zip, hcells, min_self]
    have hstage (x : Option Stage) : (stageByte x).length = 1 := by cases x <;> rfl
    simp [tierStatusBytes, List.length_flatMap, axisBlock_length, cellBlock_length, hstage, idxByte, longBytes, hzip]
    omega
  · refine query_replied (.tierStatus q (Idx8.num t)) (execTierStatus.eq_1 ..) hs ?_
    rw [ofNat?_num]
    rfl
  · refine query_replied (.tierStatus q n) (execTierStatus.eq_1 ..) hs ?_
    have hnone : Idx8.ofNat? n = none := by
      unfold Idx8.ofNat?
      split <;> first | omega | rfl
    rw [hnone]
    rfl

end Sys2Proof.Machine

/-! SUPPORT. The table writes of axes and stations (O38, O39). -/

namespace Sys2Proof.Machine

open Sys2Proof

theorem writeGuard_of_holder {s : State} {q : Src} (hm : s.auth.mode = .setup) (hq : s.auth.holder = some q.port)
    (f : Answer) : s.writeGuard q f = f := by
  unfold State.writeGuard
  rw [if_neg (by simp [inSetup_iff, hm]), if_neg (by simp [isHolder_iff, hq])]

/-! ### Axis records -/

/-- An axis record replaced in its table. -/
def State.setAxisRec (s : State) (a : Axis) (r : AxisRec) : State :=
  s.modTables fun x => { x with axes := x.axes.set a.tier ((x.axes.get a.tier).set a.role r) }

theorem setAxisRec_axisRec (s : State) (a : Axis) (r : AxisRec) (b : Axis) :
    (s.setAxisRec a r).axisRec b = if b = a then r else s.axisRec b := by
  obtain ⟨t, o⟩ := a
  obtain ⟨u, p⟩ := b
  simp only [State.setAxisRec, State.axisRec, State.modTables_tables, Eight.get_set, Axis.mk.injEq]
  by_cases hu : u = t
  · subst hu
    simp [Axes.get_set]
  · simp [hu]

/-- An axis record replaced with another zero offset, which moves the position at once. -/
def State.rezeroed (s : State) (a : Axis) (r : AxisRec) : State :=
  ((s.setAxisRec a r).modAxis a fun x => x.rezero r.zero).reportJack a

theorem storeAxis_eq (s : State) (a : Axis) (r : AxisRec) :
    s.storeAxis a r = if (s.axisRec a).zero = r.zero then s.setAxisRec a r else s.rezeroed a r := rfl

theorem reportJack_frame (s : State) (a : Axis) : s.reportJack a = { s with mail := (s.reportJack a).mail } := by
  obtain ⟨t, r⟩ := a
  cases r <;> rfl

theorem reportJack_axis (s : State) (a b : Axis) : (s.reportJack a).axis b = s.axis b := by
  rw [reportJack_frame]
  rfl

theorem reportJack_axisRec (s : State) (a b : Axis) : (s.reportJack a).axisRec b = s.axisRec b := by
  rw [reportJack_frame]
  rfl

theorem rezeroed_axisRec (s : State) (a : Axis) (r : AxisRec) (b : Axis) :
    (s.rezeroed a r).axisRec b = if b = a then r else s.axisRec b :=
  (reportJack_axisRec ..).trans (setAxisRec_axisRec s a r b)

theorem rezeroed_axis (s : State) (a : Axis) (r : AxisRec) (b : Axis) :
    (s.rezeroed a r).axis b = if b = a then (s.axis a).rezero r.zero else s.axis b :=
  (reportJack_axis ..).trans (State.modAxis_axis ..)

theorem rezeroed_frame (s : State) (a : Axis) (r : AxisRec) :
    s.rezeroed a r = { s with
      tables := { s.tables with axes := (s.rezeroed a r).tables.axes }, axes := (s.rezeroed a r).axes
      mail := (s.rezeroed a r).mail } := by
  rw [State.rezeroed, reportJack_frame]
  rfl

/-- The axis after its zero offset moved under a count. -/
theorem rezero_of_count {x : AxisCtl} {c : Count} (h : x.count = some c) (offset : Nat) :
    x.rezero offset =
      { x with position := (c.toNat : Int) - offset, demand := (c.toNat : Int) - offset
               previous := some ((c.toNat : Int) - offset) } := by
  unfold AxisCtl.rezero
  rw [h]

theorem clampAxis_eq (w : AxisRec) : clampAxis w =
    { vLim := min 4095 (max 1 w.vLim), a := min 255 (max 1 w.a)
      aQs := max (min 255 (max 1 w.a)) (min 255 (max 1 w.aQs)), kff := min 8191 w.kff, kp := min 255 w.kp
      feLimit := min 4095 (max 1 w.feLimit), window := min 65535 (max 1 w.window)
      settleCount := min 100 (max 1 w.settleCount), settleTimeout := min 1000 (max 1 w.settleTimeout)
      liftTime := min 2000 w.liftTime, setTime := min 2000 w.setTime, zero := min 16777215 w.zero } := by
  simp [clampAxis, clampNat, Config.zeroMax]

/-- What a record stored does to the axis that it is of. -/
theorem storeAxis_axis (s : State) (a : Axis) (r : AxisRec) :
    ((s.storeAxis a r).axisRec a = r ∧
      ∀ b, b ≠ a → (s.storeAxis a r).axisRec b = s.axisRec b ∧ (s.storeAxis a r).axis b = s.axis b) ∧
      (r.zero = (s.axisRec a).zero → (s.storeAxis a r).axis a = s.axis a) ∧
      (r.zero ≠ (s.axisRec a).zero → (s.storeAxis a r).axis a = (s.axis a).rezero r.zero) ∧
      s.storeAxis a r = { s with
        tables := { s.tables with axes := (s.storeAxis a r).tables.axes }, axes := (s.storeAxis a r).axes
        mail := (s.storeAxis a r).mail } := by
  rw [storeAxis_eq]
  split
  · next h =>
    refine ⟨⟨(setAxisRec_axisRec ..).trans (if_pos rfl), fun b hb => ⟨(setAxisRec_axisRec ..).trans (if_neg hb), rfl⟩⟩,
      fun _ => rfl, fun hne => absurd h.symm hne, rfl⟩
  · next h =>
    refine ⟨⟨(rezeroed_axisRec ..).trans (if_pos rfl), fun b hb => ⟨(rezeroed_axisRec ..).trans (if_neg hb),
      (rezeroed_axis ..).trans (if_neg hb)⟩⟩, fun he => absurd he.symm h, fun _ => (rezeroed_axis ..).trans (if_pos rfl),
      rezeroed_frame ..⟩

/-- What a write of axis tables leaves, with the ports and the reports in flight of the reply. -/
theorem OnlyPorts.of_axisWrite {s x t : State} {c : Instr} (ho : OnlyPorts x t)
    (hf : x = { s.taken c with tables := { s.tables with axes := x.tables.axes }, axes := x.axes, mail := x.mail }) :
    t = { s with tables := { s.tables with axes := t.tables.axes }, axes := t.axes, ports := t.ports, mail := t.mail } := by
  unfold OnlyPorts at ho
  rw [ho, hf]
  rfl

theorem OnlyPorts.axisRec {s t : State} (h : OnlyPorts s t) (a : Axis) : t.axisRec a = s.axisRec a := by
  unfold OnlyPorts at h
  rw [h]
  rfl

/-- SET_AXIS from the holder. -/
theorem setAxis_stores (q : Src) (a : Axis) {s : State} (hs : s.held = false) (hm : s.auth.mode = .setup)
    (hq : s.auth.holder = some q.port) (hbusy : s.tierBusy a.tier = false) (w : AxisRec) :
    ∃ t, exec (.setAxis q (axisCode a) w) s = .next t ∧
      OnlyPorts ((s.taken (.setAxis q (axisCode a) w)).storeAxis a (clampAxis w)) t ∧
      Replied s t q 0x2A (writeStatus (decide (clampAxis w ≠ w))) (axisBytes a (clampAxis w)) := by
  have hbusy : (s.taken (.setAxis q (axisCode a) w)).tierBusy a.tier = false := hbusy
  obtain ⟨t, he, ho, hr, -⟩ := exec_replied (.setAxis q (axisCode a) w)
    (t' := (s.taken (.setAxis q (axisCode a) w)).storeAxis a (clampAxis w))
    (st := writeStatus (decide (clampAxis w ≠ w))) (body := axisBytes a (clampAxis w)) (execSetAxis.eq_1 ..) hs (by
      refine (writeGuard_of_holder (s := s.taken _) hm hq _).trans ?_
      rw [axisOfCode_code]
      exact if_neg (by simp [hbusy]))
    (by rw [(storeAxis_axis ..).2.2.2]; rfl)
  exact ⟨t, he, ho, hr⟩

/-- SET_POSITION from the holder. -/
theorem setPosition_stores (q : Src) (a : Axis) {s : State} (hs : s.held = false) (hm : s.auth.mode = .setup)
    (hq : s.auth.holder = some q.port) (hbusy : s.tierBusy a.tier = false) (x : Int) {c : Count}
    (hvalid : (s.axis a).valid = true) (hcount : (s.axis a).count = some c) {v wanted : Int} {offset : Nat}
    (hv : v = positionClamp a.role x) (hwanted : wanted = (c.toNat : Int) - 256 * v)
    (hoffset : offset = (clampInt 0 Config.zeroMax wanted).toNat) :
    ∃ t, exec (.setPosition q (axisCode a) x) s = .next t ∧
      OnlyPorts ((s.taken (.setPosition q (axisCode a) x)).rezeroed a { s.axisRec a with zero := offset }) t ∧
      Replied s t q 0x2D (writeStatus (decide (v ≠ x) || decide ((offset : Int) ≠ wanted)))
        (beSigned 4 ((s.axis a).rezero offset).position ++ beBytes 3 offset) := by
  have hbusy : (s.taken (.setPosition q (axisCode a) x)).tierBusy a.tier = false := hbusy
  subst hv hwanted hoffset
  obtain ⟨t, he, ho, hr, -⟩ := exec_replied (.setPosition q (axisCode a) x)
    (t' := (s.taken (.setPosition q (axisCode a) x)).rezeroed a _)
    (st := _) (body := _) (execSetPosition.eq_1 ..) hs (by
      refine (writeGuard_of_holder (s := s.taken _) hm hq _).trans ?_
      simp only [axisOfCode_code]
      refine (if_neg (by simp [hbusy])).trans ?_
      simp only [taken_axis, hvalid, hcount]
      rfl)
    (by rw [rezeroed_frame]; rfl)
  refine ⟨t, he, ho, ?_⟩
  have hax := (rezeroed_axis (s.taken (.setPosition q (axisCode a) x)) a { s.axisRec a with
    zero := (clampInt 0 Config.zeroMax ((c.toNat : Int) - 256 * positionClamp a.role x)).toNat } a).trans (if_pos rfl)
  have hpos := congrArg (fun y : AxisCtl => beSigned 4 y.position ++
    beBytes 3 (clampInt 0 Config.zeroMax ((c.toNat : Int) - 256 * positionClamp a.role x)).toNat) hax
  exact hpos ▸ hr

/-- Settles O38. -/
theorem axisRecordsAndPositionsAreTaught : Obligations.AxisRecordsAndPositionsAreTaught := by
  refine fun q a s hs hm hq hbusy => ⟨fun w => ?_, fun x c hvalid hcount v wanted hv hwanted => ?_⟩
  · obtain ⟨t, he, ho, hr⟩ := setAxis_stores q a hs hm hq hbusy w
    obtain ⟨⟨hrec, hother⟩, hsame, hmoved, hf⟩ := storeAxis_axis (s.taken (.setAxis q (axisCode a) w)) a (clampAxis w)
    have hrec' : t.axisRec a = clampAxis w := (ho.axisRec a).trans hrec
    refine ⟨t, he, hrec'.trans (clampAxis_eq w), fun b hb => ?_, fun hz => ?_, fun c hc hz => ?_, ?_, ho.of_axisWrite hf⟩
    · rw [ho.axisRec, ho.reads.2.2.2.1]
      exact hother b hb
    · rw [ho.reads.2.2.2.1]
      rw [hrec'] at hz
      exact hsame hz
    · rw [ho.reads.2.2.2.1, hrec']
      rw [hrec'] at hz
      exact (hmoved hz).trans (rezero_of_count hc _)
    · rw [hrec']
      convert hr using 2
      by_cases h : clampAxis w = w <;> simp [writeStatus, h]
  · obtain ⟨t, he, ho, hr⟩ := setPosition_stores q a hs hm hq hbusy x hvalid hcount (v := v) (wanted := wanted)
      (by rw [hv]; cases a.role <;> simp [positionClamp, clampInt]) hwanted rfl
    have hrec (b : Axis) := (ho.axisRec b).trans (rezeroed_axisRec ..)
    have hax (b : Axis) := (ho.reads.2.2.2.1 b).trans (rezeroed_axis ..)
    have hzero : (t.axisRec a).zero = (clampInt 0 Config.zeroMax wanted).toNat := by rw [hrec, if_pos rfl]
    have hclamp : ((clampInt 0 Config.zeroMax wanted).toNat : Int) = min 16777215 (max 0 wanted) := by
      simp only [clampInt, Config.zeroMax]
      omega
    have hmoved : t.axis a = (s.axis a).rezero (t.axisRec a).zero := by
      rw [hax, if_pos rfl, hzero]
      rfl
    refine ⟨t, he, by rw [hzero, hclamp], by rw [hzero, hrec, if_pos rfl], hmoved.trans (rezero_of_count hcount _),
      fun b hb => ⟨(hrec b).trans (if_neg hb), (hax b).trans (if_neg hb)⟩, ?_, ho.of_axisWrite (rezeroed_frame ..)⟩
    rw [hmoved, hzero]
    convert hr using 2
    by_cases h : v = x <;> by_cases h' : ((clampInt 0 Config.zeroMax wanted).toNat : Int) = wanted <;>
      simp [writeStatus, h, h']

/-! ### Stations -/

/-- A station entry replaced in its table. -/
def State.setStationEntry (s : State) (t : Tier) (n : Station) (x : Option Int) : State :=
  s.modTables fun y => { y with stations := y.stations.set t ((y.stations.get t).set n x) }

theorem setStationEntry_stationAngle (s : State) (t : Tier) (n : Station) (x : Option Int) (v : Tier) (m : Station) :
    (s.setStationEntry t n x).stationAngle v m = if v = t ∧ m = n then x else s.stationAngle v m := by
  simp only [State.setStationEntry, State.stationAngle, State.modTables_tables, Eight.get_set]
  by_cases hv : v = t
  · subst hv
    simp [Eight.get_set]
  · simp [hv]

/-- A station entry stored: the entry, the current station, and the rest as it was. -/
theorem storeStation_spec (s : State) (t : Tier) (n : Station) (x : Option Int) :
    (∀ v m, (s.storeStation t n x).stationAngle v m = if v = t ∧ m = n then x else s.stationAngle v m) ∧
      (s.storeStation t n x).seq t = { s.seq t with
        station := if (s.seq t).station = some n ∧ (x = none ∨ s.stationAngle t n ≠ x) then none else (s.seq t).station } ∧
      (∀ v, v ≠ t → (s.storeStation t n x).seq v = s.seq v) ∧
      s.storeStation t n x = { s with
        tables := { s.tables with stations := (s.storeStation t n x).tables.stations }
        arb := { s.arb with passRequested := (s.storeStation t n x).arb.passRequested }, seqs := (s.storeStation t n x).seqs
        mail := (s.storeStation t n x).mail } := by
  have hentry := setStationEntry_stationAngle s t n x
  have hstore : s.storeStation t n x =
      if (s.seq t).station = some n ∧ (x = none ∨ s.stationAngle t n ≠ x) then
        ((s.setStationEntry t n x).modSeq t fun q => { q with station := none }).when (s.tier t).present State.requestPass
      else s.setStationEntry t n x := by
    unfold State.storeStation State.when State.setStationEntry
    simp only [Bool.and_eq_true, decide_eq_true_eq]
    rfl
  rw [hstore]
  split
  · have hseq := State.modSeq_seq (s.setStationEntry t n x) t fun q => { q with station := none }
    cases (s.tier t).present
    · exact ⟨hentry, (hseq t).trans (if_pos rfl), fun v hv => (hseq v).trans (if_neg hv), rfl⟩
    · rw [State.when, if_pos rfl, requestPass_eq]
      exact ⟨hentry, (hseq t).trans (if_pos rfl), fun v hv => (hseq v).trans (if_neg hv), rfl⟩
  · exact ⟨hentry, rfl, fun _ _ => rfl, rfl⟩

/-- A station taught by any of the three forms. -/
theorem station_taught {c : Instr} {q : Src} {f : State → Answer} {s : State} {u : Tier} {n : Station} {entry : Option Int}
    (he : exec c s = request c q 0x2C f s) (hs : s.held = false) (hf : f (s.taken c) = (s.taken c).teach u n entry) :
    ∃ t, exec c s = .next t ∧ t.stationAngle u n = entry ∧
      (∀ v m, v ≠ u ∨ m ≠ n → t.stationAngle v m = s.stationAngle v m) ∧
      t.seq u = { s.seq u with
        station := if (s.seq u).station = some n ∧ (entry = none ∨ s.stationAngle u n ≠ entry) then none else (s.seq u).station } ∧
      (∀ v, v ≠ u → t.seq v = s.seq v) ∧ Replied s t q 0x2C .ok (stationBytes u n entry) ∧
      t = { s with
        tables := { s.tables with stations := t.tables.stations }
        arb := { s.arb with passRequested := t.arb.passRequested }, seqs := t.seqs, ports := t.ports, mail := t.mail } := by
  obtain ⟨hangle, hseq, hother, hframe⟩ := storeStation_spec (s.taken c) u n entry
  obtain ⟨t, he, ho, hr, -⟩ := exec_replied c he hs hf (by rw [hframe]; rfl)
  have hseqs := ho.reads.1
  have hang (v : Tier) (m : Station) : t.stationAngle v m = ((s.taken c).storeStation u n entry).stationAngle v m := by
    unfold OnlyPorts at ho
    rw [ho]
    rfl
  refine ⟨t, he, (hang u n).trans ((hangle u n).trans (if_pos ⟨rfl, rfl⟩)), fun v m hne => ?_, (hseqs u).trans hseq,
    fun v hv => (hseqs v).trans (hother v hv), hr, ?_⟩
  · exact (hang v m).trans ((hangle v m).trans (if_neg fun h => hne.elim (· h.1) (· h.2)))
  · unfold OnlyPorts at ho
    rw [ho, hframe]
    rfl

/-- Settles O39: the three forms that teach, and HERE at an invalid position. -/
theorem stationsAreTaught : Obligations.StationsAreTaught := by
  intro q u n s hs hm hq hbusy
  have guarded (c : Instr) (f : Answer) : (s.taken c).writeGuard q f = f :=
    writeGuard_of_holder (s := s.taken c) hm hq f
  have hbusy (c : Instr) : (s.taken c).tierBusy u = false := hbusy
  refine ⟨fun c entry hc => ?_, fun hvalid => ?_⟩
  · obtain ⟨x, rfl, rfl, hmin, hmax⟩ | ⟨x, rfl, rfl⟩ | ⟨rfl, hvalid, rfl, hmin, hmax⟩ := hc
    · refine station_taught (execSetStation.eq_1 ..) hs ((guarded _ _).trans ?_)
      rw [ofNat?_num, ofNat?_num]
      simp [State.angleInside, hmin, hmax, hbusy]
    · refine station_taught (execSetStation.eq_1 ..) hs ((guarded _ _).trans ?_)
      rw [ofNat?_num, ofNat?_num]
      simp [hbusy]
    · refine station_taught (execSetStationHere.eq_1 ..) hs ((guarded _ _).trans ?_)
      simp [State.teachHere, ofNat?_num, State.angleInside, hmin, hmax, hbusy, hvalid]
  · refine exec_unchanged _ (execSetStationHere.eq_1 ..) hs ((guarded _ _).trans ?_)
    simp [State.teachHere, ofNat?_num, hbusy, hvalid, State.refuse]

end Sys2Proof.Machine

/-! SUPPORT. The table writes: their refusals, SET_HALL and SET_BAND (O37). -/

namespace Sys2Proof.Machine

open Sys2Proof

/-! ### Refusals -/

/-- A table write in RUN. -/
theorem write_in_run (c : Instr) {q : Src} {k : Byte} {g : State → Answer} {s : State}
    (he : exec c s = request c q k (fun s => s.writeGuard q (g s)) s) (hs : s.held = false) (hm : s.auth.mode = .run) :
    ∃ t, exec c s = .next t ∧ OnlyPorts s t ∧ Answered s t c q k .mode [] [] := by
  refine exec_unchanged c he hs ?_
  unfold State.writeGuard
  exact if_pos (by simp [State.inSetup, hm])

/-- A table write of the holder in SETUP that its own checks refuse. -/
theorem write_refused (c : Instr) {q : Src} {k : Byte} {g : State → Answer} {s : State} {st : Status}
    (he : exec c s = request c q k (fun s => s.writeGuard q (g s)) s) (hs : s.held = false) (hm : s.auth.mode = .setup)
    (hq : s.auth.holder = some q.port) (hg : g (s.taken c) = (s.taken c).refuse st) :
    ∃ t, exec c s = .next t ∧ OnlyPorts s t ∧ Answered s t c q k st [] [] :=
  exec_unchanged c he hs ((writeGuard_of_holder (s := s.taken c) hm hq _).trans hg)

/-- What R2 says of the refusals of one table write whose own checks are `g`. -/
theorem write_refusals (c : Instr) {q : Src} {k : Byte} {g : State → Answer} {s : State}
    (he : exec c s = request c q k (fun s => s.writeGuard q (g s)) s) (hs : s.held = false)
    (hbad : TableUnsound s c → g (s.taken c) = (s.taken c).refuse .badValue)
    (hbusy : ¬TableUnsound s c → ∀ u, TableConcerns c u → s.tierBusy u = true → g (s.taken c) = (s.taken c).refuse .busy) :
    (s.auth.mode = .run → ∃ t, exec c s = .next t ∧ OnlyPorts s t ∧ Answered s t c q k .mode [] []) ∧
      (s.auth.mode = .setup → s.auth.holder = some q.port →
        (TableUnsound s c → ∃ t, exec c s = .next t ∧ OnlyPorts s t ∧ Answered s t c q k .badValue [] []) ∧
        (¬ TableUnsound s c → ∀ u, TableConcerns c u → TierInMotion s u →
          ∃ t, exec c s = .next t ∧ OnlyPorts s t ∧ Answered s t c q k .busy [] [])) :=
  ⟨fun hm => write_in_run c he hs hm, fun hm hq => ⟨fun h => write_refused c he hs hm hq (hbad h),
    fun h u hu hmove => write_refused c he hs hm hq (hbusy h u hu ((tierBusy_iff s u).mpr hmove))⟩⟩

theorem ofNat?_eq_none_iff (n : Nat) : Idx8.ofNat? n = none ↔ n = 0 ∨ 8 < n := by
  constructor
  · intro h
    by_contra hn
    obtain ⟨h1, h8⟩ : 1 ≤ n ∧ n ≤ 8 := by omega
    interval_cases n <;> cases h
  · intro h
    unfold Idx8.ofNat?
    split <;> first | omega | rfl

theorem ofNat?_eq_some_iff {n : Nat} {t : Idx8} : Idx8.ofNat? n = some t ↔ n = Idx8.num t := by
  constructor
  · intro h
    unfold Idx8.ofNat? at h
    split at h <;> cases h <;> rfl
  · rintro rfl
    exact ofNat?_num t

/-- Every number is that of a tier, station or plan, or of none. -/
theorem ofNat?_cases (n : Nat) : (Idx8.ofNat? n = none ∧ (n = 0 ∨ 8 < n)) ∨ ∃ t, n = Idx8.num t ∧ Idx8.ofNat? n = some t := by
  cases h : Idx8.ofNat? n with
  | none => exact .inl ⟨rfl, (ofNat?_eq_none_iff n).mp h⟩
  | some t => exact .inr ⟨t, ofNat?_eq_some_iff.mp h, rfl⟩

theorem num_injective {t u : Idx8} (h : Idx8.num t = Idx8.num u) : t = u := by
  have := ofNat?_num t
  rw [h, ofNat?_num] at this
  exact (Option.some.inj this).symm

theorem num_pos (t : Idx8) : 0 < Idx8.num t := by cases t <;> decide

/-- A SET_TIER of a tier is unsound when its checks say so. -/
theorem tierSound_iff (s : State) (t : Tier) (w : TierWrite) (q : Src) :
    s.tierSound t w = true ↔ ¬TableUnsound s (.setTier q (Idx8.num t) w) := by
  have hlt := num_lt t
  have hpos := num_pos t
  have hother (x : Nat) : (∃ u, Idx8.num u ≠ Idx8.num t ∧ x ∈ (s.tier u).cells) ↔ ∃ u, u ≠ t ∧ x ∈ (s.tier u).cells :=
    exists_congr fun u => and_congr_left fun _ => not_congr ⟨num_injective, congrArg _⟩
  simp only [State.tierSound, State.cellsSound, TableUnsound, hother, noRepeat, Bool.and_eq_true, decide_eq_true_eq,
    List.all_eq_true, Idx8.mem_all, true_implies, Bool.or_eq_true, beq_iff_eq, Bool.not_eq_true', not_or, not_exists, not_and]
  constructor
  · rintro ⟨⟨h1, h2⟩, ⟨⟨h3, h4⟩, h5⟩, h6⟩
    refine ⟨by omega, by omega, by omega, by omega, by omega, not_not.mpr h5, fun x hx => ?_⟩
    have h4 := h4 x hx
    refine ⟨by omega, by omega, fun u hu => ?_⟩
    simpa using ((h6 u).resolve_left hu) x hx
  · rintro ⟨-, -, h1, h2, h3, h5, h⟩
    refine ⟨⟨by omega, by omega⟩, ⟨⟨by omega, fun x hx => ?_⟩, not_not.mp h5⟩, fun u => ?_⟩
    · obtain ⟨h8, h119, -⟩ := h x hx
      omega
    · refine or_iff_not_imp_left.mpr fun hu x hx => ?_
      simpa using (h x hx).2.2 u hu

theorem bandSound_iff (l : List Nat) : bandSound l = true ↔ l.length ≤ 64 ∧ l.Nodup ∧ ∀ c ∈ l, c < 64 := by
  simp [bandSound, noRepeat, and_right_comm, and_assoc]

/-! ### The refusals of each table write -/

theorem teachHere_unsound {s : State} {n k : Nat} (h : n = 0 ∨ 8 < n ∨ k = 0 ∨ 8 < k) :
    s.teachHere n k = s.refuse .badValue := by
  unfold State.teachHere
  obtain ⟨hn, -⟩ | ⟨t, rfl, hn⟩ := ofNat?_cases n
  · rw [hn]
  · have := num_lt t
    have := num_pos t
    rw [hn, (ofNat?_eq_none_iff k).mpr (by omega)]

theorem teachHere_busy {s : State} {u : Tier} {k : Nat} (hk : ¬(k = 0 ∨ 8 < k)) (hbusy : s.tierBusy u = true) :
    s.teachHere (Idx8.num u) k = s.refuse .busy := by
  unfold State.teachHere
  obtain ⟨-, hbad⟩ | ⟨m, rfl, hm⟩ := ofNat?_cases k
  · exact absurd hbad hk
  · rw [ofNat?_num, hm]
    exact if_pos hbusy

/-- The SET_STATION checks after those of mode and holder. -/
def State.stationAnswer (s : State) (n k form : Nat) (x : Int) : Answer :=
  match form, Idx8.ofNat? n, Idx8.ofNat? k with
  | 0, some t, some m =>
    if !s.angleInside t x then s.refuse .badValue
    else if s.tierBusy t then s.refuse .busy
    else s.teach t m (some x)
  | 1, _, _ => s.teachHere n k
  | 2, some t, some m => if s.tierBusy t then s.refuse .busy else s.teach t m none
  | _, _, _ => s.refuse .badValue

theorem setStation_unsound {s : State} {q : Src} {n k form : Nat} {x : Int}
    (h : TableUnsound s (.setStation q n k form x)) : s.stationAnswer n k form x = s.refuse .badValue := by
  unfold State.stationAnswer
  obtain ⟨hn, hn'⟩ | ⟨t, rfl, hn⟩ := ofNat?_cases n
  · rw [hn]
    match form with
    | 0 => rfl
    | 1 => exact teachHere_unsound (hn'.imp_right .inl)
    | 2 => rfl
    | _ + 3 => rfl
  obtain ⟨hk, hk'⟩ | ⟨m, rfl, hk⟩ := ofNat?_cases k
  · rw [hn, hk]
    match form with
    | 0 => rfl
    | 1 => exact teachHere_unsound (.inr (.inr hk'))
    | 2 => rfl
    | _ + 3 => rfl
  · have ht := num_lt t
    have ht' := num_pos t
    have hm := num_lt m
    have hm' := num_pos m
    rw [hn, hk]
    obtain h | h | h | h | h | ⟨rfl, u, hu, h⟩ := h
    any_goals omega
    · match form with
      | 0 | 1 | 2 => omega
      | _ + 3 => rfl
    · obtain rfl := num_injective hu
      exact if_pos (show (!s.angleInside u x) = true by simp [State.angleInside] at h ⊢; omega)

theorem setStation_busy {s : State} {q : Src} {u : Tier} {k form : Nat} {x : Int}
    (h : ¬TableUnsound s (.setStation q (Idx8.num u) k form x)) (hbusy : s.tierBusy u = true) :
    s.stationAnswer (Idx8.num u) k form x = s.refuse .busy := by
  simp only [TableUnsound, not_or, not_and, not_exists] at h
  obtain ⟨-, -, hk0, hk8, hform, hangle⟩ := h
  unfold State.stationAnswer
  obtain ⟨-, hbad⟩ | ⟨m, rfl, hm⟩ := ofNat?_cases k
  · omega
  · rw [ofNat?_num, hm]
    match form with
    | 0 =>
      exact (if_neg (show ¬(!s.angleInside u x) = true by simpa [State.angleInside] using hangle rfl u rfl)).trans
        (if_pos hbusy)
    | 1 => exact teachHere_busy (by omega) hbusy
    | 2 => exact if_pos hbusy
    | _ + 3 => omega

/-- Every table write in RUN, unsound, or of a tier in motion. -/
theorem tableWrite_refused {c : Instr} {kind : Byte} {q : Src} {s : State} (hs : s.held = false)
    (hk : tableKind c = some kind) (hq : requestSrc c = some q) :
    (s.auth.mode = .run → ∃ t, exec c s = .next t ∧ OnlyPorts s t ∧ Answered s t c q kind .mode [] []) ∧
    (s.auth.mode = .setup → s.auth.holder = some q.port →
      (TableUnsound s c → ∃ t, exec c s = .next t ∧ OnlyPorts s t ∧ Answered s t c q kind .badValue [] []) ∧
      (¬ TableUnsound s c → ∀ u, TableConcerns c u → TierInMotion s u →
        ∃ t, exec c s = .next t ∧ OnlyPorts s t ∧ Answered s t c q kind .busy [] [])) := by
  cases c <;> try (cases hk; done)
  all_goals
    obtain rfl := Option.some.inj hk
    cases hq
  case setHall => exact write_refusals _ (execSetHall.eq_1 ..) hs (fun h => h.elim) fun _ _ h => h.elim
  case setTier n w =>
    refine write_refusals _ (execSetTier.eq_1 ..) hs (fun hbad => ?_) fun hgood u hu hbusy => ?_
    · obtain ⟨hn, -⟩ | ⟨t, rfl, hn⟩ := ofNat?_cases n
      · rw [hn]
      · have hunsound : s.tierSound t w = false :=
          Bool.not_eq_true _ ▸ fun h => (tierSound_iff s t w _).mp h hbad
        rw [hn]
        exact if_pos (show (!s.tierSound t w) = true by simp [hunsound])
    · obtain rfl : n = Idx8.num u := hu
      have hsound := (tierSound_iff s u w _).mpr hgood
      rw [ofNat?_num]
      exact (if_neg (show ¬(!s.tierSound u w) = true by simp [hsound])).trans (if_pos hbusy)
  case setAxis n w =>
    refine write_refusals _ (execSetAxis.eq_1 ..) hs (fun hbad => ?_) fun hgood u hu hbusy => ?_
    · rw [(axisOfCode_none_iff n).mpr hbad]
    · obtain ⟨r, rfl⟩ := hu
      rw [axisOfCode_code]
      exact if_pos hbusy
  case setBand n b l =>
    have hsound : ¬TableUnsound s (.setBand q n b l) ↔
        (∃ t, n = Idx8.num t) ∧ (decide (b < 36) && bandSound l) = true := by
      have hnum : (∃ t, n = Idx8.num t) ↔ ¬(n = 0 ∨ 8 < n) := by
        rw [← ofNat?_eq_none_iff, Option.eq_none_iff_forall_ne_some]
        simp [ofNat?_eq_some_iff]
      rw [hnum, Bool.and_eq_true, bandSound_iff]
      simp only [TableUnsound, decide_eq_true_eq, not_or, not_exists, not_and, not_lt, not_not]
      exact ⟨fun ⟨h1, h2, h3, h4, h5, h6⟩ => ⟨⟨h1, h2⟩, by omega, h4, h5, fun c hc => by have := h6 c hc; omega⟩,
        fun ⟨⟨h1, h2⟩, h3, h4, h5, h6⟩ => ⟨h1, h2, by omega, h4, h5, fun c hc => by have := h6 c hc; omega⟩⟩
    refine write_refusals _ (execSetBand.eq_1 ..) hs (fun hbad => ?_) fun hgood u hu hbusy => ?_
    · obtain ⟨hn, -⟩ | ⟨t, rfl, hn⟩ := ofNat?_cases n
      · rw [hn]
      · rw [hn]
        refine if_pos ?_
        by_contra hno
        exact hsound.mpr ⟨⟨t, rfl⟩, by simpa using hno⟩ hbad
    · obtain rfl : n = Idx8.num u := hu
      rw [ofNat?_num]
      exact (if_neg (by simpa using (hsound.mp hgood).2)).trans (if_pos hbusy)
  case setStation n k form x =>
    refine write_refusals _ (execSetStation.eq_1 ..) hs (fun hbad => ?_) fun hgood u hu hbusy => ?_
    · exact setStation_unsound (q := q) hbad
    · obtain rfl : n = Idx8.num u := hu
      exact setStation_busy (q := q) hgood hbusy
  case setStationHere n k =>
    refine write_refusals _ (execSetStationHere.eq_1 ..) hs (fun hbad => teachHere_unsound hbad) fun hgood u hu hbusy => ?_
    obtain rfl : n = Idx8.num u := hu
    have hk : ¬(k = 0 ∨ 8 < k) := fun h => hgood (.inr (.inr h))
    exact teachHere_busy hk hbusy
  case setPosition n x =>
    refine write_refusals _ (execSetPosition.eq_1 ..) hs (fun hbad => ?_) fun hgood u hu hbusy => ?_
    · rw [(axisOfCode_none_iff n).mpr hbad]
    · obtain ⟨r, rfl⟩ := hu
      rw [axisOfCode_code]
      exact if_pos hbusy

/-! ### SET_HALL and SET_BAND -/

theorem clampHall_eq (w : HallRec) : clampHall w =
    ⟨min 4000 (max 1 w.capacity), min 15 (max 1 w.bypassLimit), min 1000 w.releaseMargin, min 2000 (max 100 w.tEn),
      min 60000 (max 1000 w.tEsc)⟩ := by
  simp [clampHall, clampNat]

/-- OK for a record stored as sent, ADJUSTED for one clamped. -/
theorem writeStatus_of_ne {α : Type} [DecidableEq α] (x y : α) :
    writeStatus (decide (x ≠ y)) = if x = y then .ok else .adjusted := by
  by_cases h : x = y <;> simp [writeStatus, h]

/-- SET_HALL from the holder in SETUP. -/
theorem setHall_stores (q : Src) {s : State} (hs : s.held = false) (hm : s.auth.mode = .setup)
    (hq : s.auth.holder = some q.port) (w : HallRec) :
    ∃ t, exec (.setHall q w) s = .next t ∧
      t = { s with
        tables := { s.tables with hall :=
          ⟨min 4000 (max 1 w.capacity), min 15 (max 1 w.bypassLimit), min 1000 w.releaseMargin,
            min 2000 (max 100 w.tEn), min 60000 (max 1000 w.tEsc)⟩ }
        ports := t.ports, mail := t.mail } ∧
      Answered s t (.setHall q w) q 0x28 (if t.tables.hall = w then .ok else .adjusted) (hallBytes t.tables.hall) [] := by
  rw [← clampHall_eq]
  obtain ⟨t, he, ho, ha⟩ := exec_answered (.setHall q w)
    (t' := (s.taken (.setHall q w)).modTables fun x => { x with hall := clampHall w })
    (st := writeStatus (decide (clampHall w ≠ w))) (body := hallBytes (clampHall w)) [] (execSetHall.eq_1 ..) hs
    (writeGuard_of_holder (s := s.taken _) hm hq _) (by rfl) (by simp)
  unfold OnlyPorts at ho
  have hhall : t.tables.hall = clampHall w := by
    rw [ho]
    rfl
  refine ⟨t, he, by rw [ho]; rfl, ?_⟩
  rwa [hhall, ← writeStatus_of_ne]

/-- A band entry replaced. -/
theorem setBand_bandCells (s : State) (u : Tier) {b : Nat} (hb : b < 36) (x : CellSet) (v : Tier) (d : Nat) :
    (s.modTables fun y => { y with bands := y.bands.set u ((y.bands.get u).setIfInBounds b x) }).bandCells v d =
      if v = u ∧ d = b then x else s.bandCells v d := by
  simp only [State.bandCells, State.modTables_tables, Eight.get_set]
  by_cases hv : v = u
  · subst hv
    by_cases hd : d = b
    · subst hd
      simp [Vector.getD, hb]
    · by_cases h36 : d < 36 <;> simp [Vector.getD, h36, hd, Ne.symm hd]
  · simp [hv]

/-- SET_BAND from the holder in SETUP. -/
theorem setBand_stores (q : Src) {s : State} (hs : s.held = false) (hm : s.auth.mode = .setup)
    (hq : s.auth.holder = some q.port) (u : Tier) {b : Nat} {l : List Nat} (hbusy : s.tierBusy u = false) (hb : b < 36)
    (hlen : l.length ≤ 64) (hcells : ∀ c ∈ l, c < 64) (hnodup : l.Nodup) :
    ∃ t, exec (.setBand q (Idx8.num u) b l) s = .next t ∧
      t = { s with tables := { s.tables with bands := t.tables.bands }, ports := t.ports, mail := t.mail } ∧
      (∀ c, (t.bandCells u b).getLsbD c = decide (c ∈ l)) ∧
      (∀ v d, v ≠ u ∨ d ≠ b → t.bandCells v d = s.bandCells v d) ∧
      Answered s t (.setBand q (Idx8.num u) b l) q 0x2B .ok (bandBytes u b (t.bandCells u b)) [] := by
  have hsound : bandSound l = true := (bandSound_iff l).mpr ⟨hlen, hnodup, hcells⟩
  have hbusy : (s.taken (.setBand q (Idx8.num u) b l)).tierBusy u = false := hbusy
  obtain ⟨t, he, ho, ha⟩ := exec_answered (.setBand q (Idx8.num u) b l)
    (t' := (s.taken (.setBand q (Idx8.num u) b l)).modTables fun x =>
      { x with bands := x.bands.set u ((x.bands.get u).setIfInBounds b (cellsOf l)) })
    (st := .ok) (body := bandBytes u b (cellsOf l)) [] (execSetBand.eq_1 ..) hs (by
      refine (writeGuard_of_holder (s := s.taken _) hm hq _).trans ?_
      rw [ofNat?_num]
      simp [hsound, hb, hbusy, State.answer]) (by rfl) (by simp)
  have hband := setBand_bandCells (s.taken (.setBand q (Idx8.num u) b l)) u hb (cellsOf l)
  have hat (v : Tier) (d : Nat) : t.bandCells v d = if v = u ∧ d = b then cellsOf l else s.bandCells v d := by
    refine Eq.trans ?_ (hband v d)
    unfold OnlyPorts at ho
    rw [ho]
    rfl
  unfold OnlyPorts at ho
  refine ⟨t, he, by rw [ho]; rfl, fun c => ?_, fun v d hne => (hat v d).trans (if_neg fun h => hne.elim (· h.1) (· h.2)), ?_⟩
  · rw [hat, if_pos ⟨rfl, rfl⟩, cellsOf_getLsbD]
    by_cases hc : c ∈ l
    · simp [hc, hcells c hc]
    · simp [hc]
  · rwa [hat, if_pos ⟨rfl, rfl⟩]

end Sys2Proof.Machine

/-! SUPPORT. SET_TIER: a tier record stored and what follows from it, operation by operation (O37). -/

namespace Sys2Proof.Machine

open Sys2Proof

/-! ### What the blocks of one tier do -/

/-- From `s` to `t` the blocks of tier `u` have met its record: those of every other tier are as they were, nothing that was
sent is taken back, and nothing else differs but a pass asked for. -/
structure TierSteps (u : Tier) (s t : State) : Prop where
  others : ∀ v, v ≠ u → t.seq v = s.seq v ∧ t.pair v = s.pair v ∧ t.loadOf v = s.loadOf v
  sent : ∀ m ∈ s.mail, m ∈ t.mail
  pass : s.arb.passRequested = true → t.arb.passRequested = true
  frame : t = { s with
    arb := { s.arb with passRequested := t.arb.passRequested }, seqs := t.seqs, pairs := t.pairs, mon := t.mon, mail := t.mail }

theorem TierSteps.refl (u : Tier) (s : State) : TierSteps u s s := ⟨fun _ _ => ⟨rfl, rfl, rfl⟩, fun _ h => h, id, rfl⟩

theorem TierSteps.trans {u : Tier} {s t v : State} (h : TierSteps u s t) (g : TierSteps u t v) : TierSteps u s v where
  others w hw := by
    obtain ⟨h1, h2, h3⟩ := h.others w hw
    obtain ⟨g1, g2, g3⟩ := g.others w hw
    exact ⟨g1.trans h1, g2.trans h2, g3.trans h3⟩
  sent m hm := g.sent m (h.sent m hm)
  pass hp := g.pass (h.pass hp)
  frame := by rw [g.frame, h.frame]

/-- The figures and the tables that the blocks of a tier read stand. -/
theorem TierSteps.reads {u : Tier} {s t : State} (h : TierSteps u s t) :
    (∀ v, t.tier v = s.tier v) ∧ (∀ a, t.axisRec a = s.axisRec a) ∧ t.auth = s.auth := by
  rw [h.frame]
  exact ⟨fun _ => rfl, fun _ => rfl, rfl⟩

/-! ### Steps that leave the load figures -/

theorem tierSteps_modPair (u : Tier) (s : State) (f : PairUnit → PairUnit) : TierSteps u s (s.modPair u f) :=
  ⟨fun _ hv => ⟨rfl, (State.modPair_pair ..).trans (if_neg hv), rfl⟩, fun _ h => h, id, rfl⟩

theorem tierSteps_modSeq (u : Tier) (s : State) (f : Seq → Seq) : TierSteps u s (s.modSeq u f) :=
  ⟨fun _ hv => ⟨(State.modSeq_seq ..).trans (if_neg hv), rfl, rfl⟩, fun _ h => h, id, rfl⟩

theorem tierSteps_emit (u : Tier) (s : State) (c : Instr) : TierSteps u s (s.emit c) :=
  ⟨fun _ _ => ⟨rfl, rfl, rfl⟩, fun _ h => List.mem_append_left _ h, id, rfl⟩

theorem tierSteps_requestPass (u : Tier) (s : State) : TierSteps u s s.requestPass := by
  rw [requestPass_eq]
  refine ⟨fun _ _ => ⟨rfl, rfl, rfl⟩, fun m hm => ?_, fun _ => rfl, rfl⟩
  dsimp only
  split
  · exact hm
  · exact List.mem_append_left _ hm

theorem tierSteps_seqReport (u : Tier) (s : State) : TierSteps u s (s.seqReport u) := by
  obtain ⟨-, hothers, hf, hm⟩ := seqReport_eq s u
  have hrest : (s.seqReport u).pairs = s.pairs ∧ (s.seqReport u).mon = s.mon ∧ (s.seqReport u).arb = s.arb := by
    rw [hf]
    exact ⟨rfl, rfl, rfl⟩
  obtain ⟨hpairs, hmon, harb⟩ := hrest
  refine ⟨fun v hv => ⟨hothers v hv, ?_, ?_⟩, hm, fun h => harb ▸ h, ?_⟩
  · unfold State.pair
    rw [hpairs]
  · unfold State.loadOf
    rw [hmon]
  · rw [hf]

/-! ### The stowed condition in SETUP -/

/-- A loss of the stowed condition meets no jog and, in SETUP, no move. -/
theorem seqStowed_idle {s : State} {u : Tier} (hm : s.auth.mode = .setup) (hj : (s.seq u).jog = none) (stowed : Bool) :
    s.seqStowed u stowed = s := by
  have hrun : s.inRun = false := by simp [State.inRun, hm]
  unfold State.seqStowed
  cases hs : (s.seq u).slot <;> simp [hj, hrun]

theorem modPair_pair_self (s : State) (u : Tier) (f : PairUnit → PairUnit) : (s.modPair u f).pair u = f (s.pair u) :=
  (State.modPair_pair ..).trans (if_pos rfl)

theorem seqReport_pair (s : State) (t u : Tier) : (s.seqReport t).pair u = s.pair u := by
  rw [(seqReport_eq s t).2.2.1]
  rfl

/-- From `s` to `t` the pair unit of tier `u` has met its record and is `p`, its stowed condition reported where it differs
from the one told, and the sequencer of the tier has at most made its reports. -/
def PairMet (u : Tier) (s t : State) (p : PairUnit) : Prop :=
  TierSteps u s t ∧ t.mon = s.mon ∧ (t.seq u = s.seq u ∨ t.seq u = told (s.seq u)) ∧ t.pair u = p ∧
    (p.toldStowed ≠ (s.pair u).toldStowed → Instr.stowedChangeReport u p.toldStowed ∈ t.mail)

theorem PairMet.refl (u : Tier) (s : State) : PairMet u s s (s.pair u) :=
  ⟨.refl u s, rfl, .inl rfl, rfl, fun h => absurd rfl h⟩

theorem PairMet.of_modPair {u : Tier} {s t : State} {f : PairUnit → PairUnit} {p : PairUnit}
    (h : PairMet u (s.modPair u f) t p) (hf : (f (s.pair u)).toldStowed = (s.pair u).toldStowed) : PairMet u s t p := by
  obtain ⟨hs, hmon, hq, hp, hmail⟩ := h
  rw [modPair_pair_self, hf] at hmail
  exact ⟨(tierSteps_modPair u s f).trans hs, hmon, hq, hp, hmail⟩

/-- The report of the stowed condition in SETUP, of a tier with no jog. -/
theorem reportStowed_spec {s : State} {u : Tier} (hm : s.auth.mode = .setup) (hj : (s.seq u).jog = none) :
    PairMet u s (s.reportStowed u) { s.pair u with
      toldStowed := if (s.tier u).present then (s.pair u).stowed else (s.pair u).toldStowed } := by
  unfold State.reportStowed
  dsimp only
  split
  · next h =>
    rw [Bool.and_eq_true, decide_eq_true_eq] at h
    obtain ⟨hp, hne⟩ := h
    rw [seqStowed_idle (by exact hm) (by exact hj), if_pos hp]
    have h1 := ((tierSteps_modPair u s fun p => { p with toldStowed := p.stowed }).trans
      (tierSteps_emit u _ (.stowedChangeReport u (s.pair u).stowed)))
    obtain ⟨hq, -, hf, hmail⟩ := seqReport_eq
      ((s.modPair u fun p => { p with toldStowed := p.stowed }).emit (.stowedChangeReport u (s.pair u).stowed)) u
    refine ⟨h1.trans (tierSteps_seqReport u _), by rw [hf]; rfl, .inr hq, ?_, fun _ => hmail _ (by simp)⟩
    exact (seqReport_pair ..).trans (modPair_pair_self s u fun p => { p with toldStowed := p.stowed })
  · next h =>
    have htold : (if (s.tier u).present = true then (s.pair u).stowed else (s.pair u).toldStowed) =
        (s.pair u).toldStowed := by
      split
      · next hp => simpa [hp] using h
      · rfl
    rw [htold]
    exact .refl u s

/-- The stowed decision in SETUP, of a tier with no jog. -/
theorem decideStowed_spec {s : State} {u : Tier} (hm : s.auth.mode = .setup) (hj : (s.seq u).jog = none) :
    PairMet u s (s.decideStowed u) { s.pair u with
      stowed := s.stowedNow u
      toldStowed := if (s.tier u).present then s.stowedNow u else (s.pair u).toldStowed } := by
  have h := reportStowed_spec (s := s.modPair u fun p => { p with stowed := s.stowedNow u }) (u := u) hm hj
  rw [modPair_pair_self] at h
  exact h.of_modPair rfl

/-- What a new record leaves of the pair unit `p` of a tier, where `low` says whether its jacks lie low now. -/
def pairAfter (p : PairUnit) (old new : TierRec) (low : Bool) : PairUnit :=
  match old.tilt, new.tilt with
  | some _, none =>
    { p.brake with
      degrade := false, skew := none, markSkew := false, markSevere := false, stowed := true, phase := .idle
      served := .none, toldStowed := new.present || p.toldStowed }
  | none, some _ =>
    { p with
      degrade := false, markSkew := false, markSevere := false, stowed := low, skew := skewOf p.latest
      toldStowed := if new.present then low else p.toldStowed }
  | _, _ => if !old.present && new.present then { p with stowed := low, toldStowed := low } else p

/-- The pair unit meets a new record in SETUP. -/
theorem pairMeets_spec {s : State} {u : Tier} (hm : s.auth.mode = .setup) (hj : (s.seq u).jog = none) (old new : TierRec)
    (hnew : s.tier u = new) :
    PairMet u s (s.pairMeets u old new) (pairAfter (s.pair u) old new (s.stowedNow u)) := by
  have hother : PairMet u s (if (!old.present && new.present) = true then s.decideStowed u else s)
      (if (!old.present && new.present) = true then
        { s.pair u with stowed := s.stowedNow u, toldStowed := s.stowedNow u } else s.pair u) := by
    split
    · next h =>
      have hp : (s.tier u).present = true := by simp [hnew] at h ⊢; exact h.2
      have hd := decideStowed_spec (s := s) (u := u) hm hj
      rwa [if_pos hp] at hd
    · exact .refl u s
  unfold State.pairMeets pairAfter
  cases ho : old.tilt <;> cases hn : new.tilt <;> dsimp only
  case none.none => exact hother
  case some.some => exact hother
  case some.none =>
    have h := reportStowed_spec (s := s.modPair u fun p => { p.brake with
      degrade := false, skew := none, markSkew := false, markSevere := false, stowed := true, phase := .idle
      served := .none }) (u := u) hm hj
    rw [modPair_pair_self] at h
    have hp : (s.tier u).present = new.present := by rw [hnew]
    simp only [State.modPair_tier, hp] at h
    have h := h.of_modPair rfl
    unfold State.dropTilt
    convert h using 2
    cases new.present <;> simp [PairUnit.brake]
  case none.some =>
    have h := decideStowed_spec (s := s.modPair u fun p =>
      { p with degrade := false, markSkew := false, markSevere := false, skew := skewOf p.latest }) (u := u) hm hj
    rw [modPair_pair_self] at h
    have hp : (s.tier u).present = new.present := by rw [hnew]
    have hlow : (s.modPair u fun p =>
      { p with degrade := false, markSkew := false, markSevere := false, skew := skewOf p.latest }).stowedNow u =
        s.stowedNow u := by
      unfold State.stowedNow
      rw [modPair_pair_self]
      rfl
    simp only [State.modPair_tier, hp, hlow] at h
    exact h.of_modPair rfl

/-! ### Tier causes and a tier made present -/

theorem modSeq_seq_self (s : State) (u : Tier) (f : Seq → Seq) : (s.modSeq u f).seq u = f (s.seq u) :=
  (State.modSeq_seq ..).trans (if_pos rfl)

theorem requestPass_seq (s : State) (u : Tier) : s.requestPass.seq u = s.seq u := by
  rw [requestPass_eq]
  rfl

theorem requestPass_pair (s : State) (u : Tier) : s.requestPass.pair u = s.pair u := by
  rw [requestPass_eq]
  rfl

theorem requestPass_mon (s : State) : s.requestPass.mon = s.mon := by
  rw [requestPass_eq]

/-- A tier cause of a present tier: it is reported, and sets the inhibit when that is clear. -/
theorem tierCause_spec {s : State} {u : Tier} (hp : (s.tier u).present = true) (k : TierCause) :
    TierSteps u s (s.tierCause u k) ∧ (s.tierCause u k).mon = s.mon ∧ (∀ v, (s.tierCause u k).pair v = s.pair v) ∧
      (s.tierCause u k).seq u =
        { s.seq u with inhibit := if (s.seq u).inhibit = none then some k else (s.seq u).inhibit } ∧
      Instr.tierCauseReport u k ((s.seq u).slot.map (·.move.number)) ∈ (s.tierCause u k).mail ∧
      ((s.seq u).inhibit = none → Instr.latchEvent (.tier u .inhibitSet) ∈ (s.tierCause u k).mail) := by
  have hreport := tierSteps_emit u s (.tierCauseReport u k ((s.seq u).slot.map fun a => a.move.number))
  unfold State.tierCause
  rw [if_pos hp]
  dsimp only
  cases hi : (s.seq u).inhibit with
  | some c =>
    simp only [Option.isSome_some, if_true]
    refine ⟨hreport, rfl, fun _ => rfl, ?_, by simp, fun h => (by cases h)⟩
    rw [if_neg (by simp), ← hi]
    rfl
  | none =>
    rw [if_neg (by simp), if_pos rfl]
    have hset := (hreport.trans (tierSteps_modSeq u _ fun q => { q with inhibit := some k })).trans
      (tierSteps_requestPass u _)
    refine ⟨hset.trans (tierSteps_emit u _ _), requestPass_mon _, fun v => requestPass_pair _ v, ?_, ?_, fun _ => by simp⟩
    · exact (requestPass_seq ..).trans (modSeq_seq_self (s.emit _) u fun q => { q with inhibit := some k })
    · exact List.mem_append_left _ ((tierSteps_requestPass u _).sent _ (by simp))

/-- A tier made present: a CONFLICTED lock sets its inhibit, and a pass is asked for. -/
theorem madePresent_spec {s : State} {u : Tier} (hp : (s.tier u).present = true) :
    TierSteps u s (s.madePresent u) ∧ (s.madePresent u).mon = s.mon ∧ (s.madePresent u).pair u = s.pair u ∧
      (s.madePresent u).seq u = { s.seq u with
        inhibit := if (s.seq u).lockState = .conflicted ∧ (s.seq u).inhibit = none then some .lockConflict
          else (s.seq u).inhibit } ∧
      (s.madePresent u).arb.passRequested = true ∧
      ((s.seq u).lockState = .conflicted →
        Instr.tierCauseReport u .lockConflict ((s.seq u).slot.map (·.move.number)) ∈ (s.madePresent u).mail ∧
        ((s.seq u).inhibit = none → Instr.latchEvent (.tier u .inhibitSet) ∈ (s.madePresent u).mail)) := by
  have hpass (x : State) : x.requestPass.arb.passRequested = true := by rw [requestPass_eq]
  unfold State.madePresent State.when
  by_cases hc : (s.seq u).lockState = .conflicted
  · rw [if_pos (by simp [hc])]
    obtain ⟨hs, hmon, hpair, hseq, hreport, hevent⟩ := tierCause_spec hp .lockConflict
    have hq := tierSteps_requestPass u (s.tierCause u .lockConflict)
    refine ⟨hs.trans hq, (requestPass_mon _).trans hmon, (requestPass_pair _ _).trans (hpair u), ?_, hpass _,
      fun _ => ⟨hq.sent _ hreport, fun hi => hq.sent _ (hevent hi)⟩⟩
    rw [requestPass_seq, hseq]
    simp [hc]
  · rw [if_neg (by simp [hc])]
    refine ⟨tierSteps_requestPass u s, requestPass_mon s, requestPass_pair s u, ?_, hpass _, fun h => absurd h hc⟩
    rw [requestPass_seq]
    simp [hc]

/-- A tier made present when the write says so. -/
theorem madeWhen_spec {s : State} {u : Tier} {made : Bool} (hp : made = true → (s.tier u).present = true) :
    TierSteps u s (s.when made fun s => s.madePresent u) ∧ (s.when made fun s => s.madePresent u).mon = s.mon ∧
      (s.when made fun s => s.madePresent u).pair u = s.pair u ∧
      (s.when made fun s => s.madePresent u).seq u = { s.seq u with
        inhibit := if made = true ∧ (s.seq u).lockState = .conflicted ∧ (s.seq u).inhibit = none then some .lockConflict
          else (s.seq u).inhibit } ∧
      (made = true → (s.when made fun s => s.madePresent u).arb.passRequested = true) ∧
      (made = true → (s.seq u).lockState = .conflicted →
        Instr.tierCauseReport u .lockConflict ((s.seq u).slot.map (·.move.number)) ∈
          (s.when made fun s => s.madePresent u).mail ∧
        ((s.seq u).inhibit = none →
          Instr.latchEvent (.tier u .inhibitSet) ∈ (s.when made fun s => s.madePresent u).mail)) := by
  cases made with
  | false => exact ⟨.refl u s, rfl, rfl, by simp [State.when], nofun, nofun⟩
  | true =>
    obtain ⟨hs, hmon, hpair, hseq, hpass, hreport⟩ := madePresent_spec (hp rfl)
    exact ⟨hs, hmon, hpair, hseq.trans (by simp), fun _ => hpass, fun _ => hreport⟩

/-! ### A new load cell list -/

/-- A recomputation takes no pass back. -/
theorem recomputeLoad_pass {s : State} (u : Tier) (h : s.arb.passRequested = true) :
    (s.recomputeLoad u).arb.passRequested = true := by
  unfold State.recomputeLoad
  dsimp only
  rw [(checkOverload_found _ u).2.2.2.2]
  dsimp only
  unfold State.when
  split
  · exact requestPass_passRequested _
  · exact h

/-- The cells started afresh: figures found again, a poll in flight for one of them lost. -/
theorem restartCells_spec (s : State) (u : Tier) (n : Nat) :
    TierSteps u s (s.restartCells u n) ∧ (s.restartCells u n).seq u = s.seq u ∧ (s.restartCells u n).pair u = s.pair u ∧
      ((s.restartCells u n).loadOf u).cells = List.replicate n ⟨none, false, 0, .failed⟩ ∧
      ((s.restartCells u n).loadOf u).tare = 0 ∧ FoundAgain s (s.restartCells u n) u ∧
      (s.restartCells u n).mon.pollAt = s.mon.pollAt ∧ (s.restartCells u n).mon.recoveryOwed = s.mon.recoveryOwed ∧
      (∀ i, s.mon.transaction = .poll u i → (s.restartCells u n).mon.transaction = .lost) ∧
      ((∀ i, s.mon.transaction ≠ .poll u i) → (s.restartCells u n).mon.transaction = s.mon.transaction) := by
  let s2 : State := (s.modLoad u fun l => { l with cells := List.replicate n LoadCell.initial, tare := 0 }).modMon fun m =>
    { m with
      transaction :=
        match m.transaction with
        | .poll v _ => if v = u then .lost else m.transaction
        | x => x }
  have hstart : s.restartCells u n = s2.recomputeLoad u := rfl
  have hload (v : Tier) : s2.loadOf v =
      if v = u then { s.loadOf u with cells := List.replicate n LoadCell.initial, tare := 0 } else s.loadOf v :=
    State.modLoad_loadOf s u (fun l => { l with cells := List.replicate n LoadCell.initial, tare := 0 }) v
  have hloadu := (hload u).trans (if_pos rfl)
  have hs2 : TierSteps u s s2 := ⟨fun v hv => ⟨rfl, rfl, (hload v).trans (if_neg hv)⟩, fun _ h => h, id, rfl⟩
  obtain ⟨hfound, hcells, htare, hothers, hsent, hf⟩ := recomputeLoad_found s2 u
  rw [hstart]
  have hpass := recomputeLoad_pass (s := s2) u
  have hrest : (∀ v, (s2.recomputeLoad u).seq v = s.seq v) ∧ (∀ v, (s2.recomputeLoad u).pair v = s.pair v) ∧
      (s2.recomputeLoad u).mon.pollAt = s.mon.pollAt ∧ (s2.recomputeLoad u).mon.recoveryOwed = s.mon.recoveryOwed ∧
      (s2.recomputeLoad u).mon.transaction = s2.mon.transaction := by
    rw [hf]
    exact ⟨fun _ => rfl, fun _ => rfl, rfl, rfl, rfl⟩
  obtain ⟨hseq, hpair, hpoll, hrec, htrans⟩ := hrest
  have hsteps : TierSteps u s2 (s2.recomputeLoad u) :=
    ⟨fun v hv => ⟨hseq v, hpair v, hothers v hv⟩, hsent, hpass, by rw [hf]⟩
  rw [hloadu] at hcells htare
  refine ⟨hs2.trans hsteps, hseq u, hpair u, hcells, htare, ?_, hpoll, hrec, fun i hi => ?_, fun hno => ?_⟩
  · unfold FoundAgain at hfound ⊢
    rw [hloadu] at hfound
    exact hfound
  · rw [htrans]
    show (match s.mon.transaction with
        | .poll v _ => if v = u then Transaction.lost else s.mon.transaction
        | x => x) = _
    rw [hi]
    exact if_pos rfl
  · rw [htrans]
    show (match s.mon.transaction with
        | .poll v _ => if v = u then Transaction.lost else s.mon.transaction
        | x => x) = _
    split
    · next v i hi =>
      refine if_neg fun h => hno i ?_
      rw [← h]
      exact hi
    · rfl

/-! ### A tier record stored -/

/-- A tier record replaced in its table. -/
def State.setTierRec (s : State) (u : Tier) (r : TierRec) : State :=
  s.modTables fun x => { x with tiers := x.tiers.set u r }

theorem setTierRec_tier (s : State) (u : Tier) (r : TierRec) (v : Tier) :
    (s.setTierRec u r).tier v = if v = u then r else s.tier v := by
  simp only [State.setTierRec, State.tier, State.modTables_tables, Eight.get_set]

/-- A unit's stowed decision, as R122 states it. -/
theorem stowedNow_iff (s : State) (u : Tier) :
    s.stowedNow u = true ↔ ∀ g, (s.tier u).tilt = some g → ∀ j, ((s.pair u).latest.jack j).valid = true ∧
      ((s.pair u).latest.jack j).position ≤ 256 * (g.stow : Int) + (s.axisRec (jackAxis u j)).window := by
  have hjack (g : TiltRec) (w : Nat) (p : Reported) :
      jackLow g w p = true ↔ p.valid = true ∧ p.position ≤ 256 * (g.stow : Int) + w := by
    unfold jackLow
    rw [Bool.and_eq_true, decide_eq_true_eq, mul_comm]
    rfl
  unfold State.stowedNow
  cases (s.tier u).tilt with
  | none => simp
  | some g =>
    simp only [Bool.and_eq_true, hjack, Option.some.injEq, forall_eq']
    exact ⟨fun ⟨ha, hb⟩ j => by cases j <;> assumption, fun h => ⟨h .A, h .B⟩⟩

theorem told_inhibit {q x : Seq} (h : x = q ∨ x = told q) (i : Option TierCause) :
    told { x with inhibit := i } = told { q with inhibit := i } := by
  obtain rfl | rfl := h <;> rfl

/-- The figures found again stand where the tier's load stands and nothing is taken back. -/
theorem FoundAgain.mono {s x t : State} {u : Tier} (h : FoundAgain s x u) (hload : t.loadOf u = x.loadOf u)
    (hpass : x.arb.passRequested = true → t.arb.passRequested = true) (hmail : ∀ m ∈ x.mail, m ∈ t.mail) :
    FoundAgain s t u := by
  obtain ⟨hv, hn, ho, hc, ht, hk, hover⟩ := h
  unfold FoundAgain
  rw [hload]
  exact ⟨hv, hn, ho, fun hp hd => ⟨hpass (hc hp hd).1, hmail _ (hc hp hd).2⟩, ht, hk,
    fun n hn => ⟨(hover n hn).1, fun hf hz => hmail _ ((hover n hn).2 hf hz)⟩⟩

/-- The pair unit, the sequencer's reports and a tier made present, behind what the cell list brings. -/
theorem tierRecord_met {s x : State} {u : Tier} {new : TierRec} (hm : x.auth.mode = .setup) (hj : (x.seq u).jog = none)
    (hnew : x.tier u = new) (hseq : x.seq u = s.seq u) (hpair : x.pair u = s.pair u)
    (hrec : ∀ a, x.axisRec a = s.axisRec a) {t : State}
    (ht : t = ((x.pairMeets u (s.tier u) new).when (!(s.tier u).present && new.present) fun s => s.madePresent u).seqReport u)
    (hothers : ∀ v, v ≠ u → x.seq v = s.seq v ∧ x.pair v = s.pair v ∧ x.loadOf v = s.loadOf v) :
    TierSteps u x t ∧ t.mon = x.mon ∧ TierMet s t u := by
  obtain ⟨hs3, hmon3, hseq3, hpair3, hmail3⟩ := pairMeets_spec hm hj (s.tier u) new hnew
  generalize x.pairMeets u (s.tier u) new = y at ht hs3 hmon3 hseq3 hpair3 hmail3
  rw [hpair] at hpair3 hmail3
  rw [hseq] at hseq3
  obtain ⟨hs4, hmon4, hpair4, hseq4, hpass4, hreport4⟩ := madeWhen_spec (s := y) (u := u)
    (made := !(s.tier u).present && new.present) (fun h => by
      rw [hs3.reads.1 u, hnew]
      rw [Bool.and_eq_true] at h
      exact h.2)
  generalize y.when (!(s.tier u).present && new.present) (fun s => s.madePresent u) = z at ht hs4 hmon4 hpair4 hseq4 hpass4 hreport4
  obtain ⟨hseq5, -, hf5, hmail5⟩ := seqReport_eq z u
  have hs5 := tierSteps_seqReport u z
  have hpair5 := seqReport_pair z u u
  have hmon5 : (z.seqReport u).mon = z.mon := by rw [hf5]
  rw [← ht] at hseq5 hs5 hpair5 hmail5 hmon5
  have hsteps := (hs3.trans hs4).trans hs5
  have hp : t.pair u = pairAfter (s.pair u) (s.tier u) new (x.stowedNow u) := hpair5.trans (hpair4.trans hpair3)
  have htier : t.tier u = new := (hsteps.reads.1 u).trans hnew
  have hslot : (y.seq u).slot = (s.seq u).slot ∧ (y.seq u).lockState = (s.seq u).lockState ∧
      (y.seq u).inhibit = (s.seq u).inhibit := by
    obtain h | h := hseq3 <;> rw [h] <;> exact ⟨rfl, rfl, rfl⟩
  obtain ⟨hslot, hlock, hinhibit⟩ := hslot
  rw [hlock, hinhibit] at hseq4 hreport4
  rw [hslot] at hreport4
  refine ⟨hsteps, hmon5.trans (hmon4.trans hmon3), fun v hv => ?_, fun made low hmade hlow => ?_⟩
  · obtain ⟨h1, h2, h3⟩ := hsteps.others v hv
    obtain ⟨g1, g2, g3⟩ := hothers v hv
    exact ⟨h1.trans g1, h2.trans g2, h3.trans g3⟩
  · rw [htier] at hmade hlow
    have hlow' : x.stowedNow u = low := by
      rw [Bool.eq_iff_iff, stowedNow_iff, hlow, hnew, hpair]
      simp only [hrec]
    subst hmade
    rw [hlow'] at hp
    refine ⟨fun h => hs5.pass (hpass4 h), ?_, fun h hc => ?_, ?_, fun hne => ?_⟩
    · rw [hseq5, hseq4]
      exact told_inhibit hseq3 _
    · obtain ⟨hcause, hevent⟩ := hreport4 h hc
      exact ⟨hmail5 _ hcause, fun hi => hmail5 _ (hevent hi)⟩
    · rw [hp, htier]
      unfold pairAfter
      cases (s.tier u).tilt <;> cases new.tilt <;> rfl
    · have hp' : t.pair u = y.pair u := hpair5.trans hpair4
      rw [hp', hpair3] at hne ⊢
      exact hmail5 _ (hs4.sent _ (hmail3 hne))

theorem storeTier_eq (s : State) (u : Tier) (new : TierRec) :
    s.storeTier u new =
      ((((s.setTierRec u new).when (decide ((s.tier u).cells ≠ new.cells)) fun s =>
        s.restartCells u new.cells.length).pairMeets u (s.tier u) new).when (!(s.tier u).present && new.present) fun s =>
        s.madePresent u).seqReport u := rfl

/-- Storing a tier record in SETUP with no jog of the tier. -/
theorem storeTier_spec {s t : State} {u : Tier} (hm : s.auth.mode = .setup) (hj : (s.seq u).jog = none) {new : TierRec}
    (ht : t = s.storeTier u new) :
    TierSteps u (s.setTierRec u new) t ∧ TierMet s t u ∧
      (new.cells ≠ (s.tier u).cells →
        (t.loadOf u).cells = List.replicate new.cells.length ⟨none, false, 0, .failed⟩ ∧ (t.loadOf u).tare = 0 ∧
        FoundAgain (s.setTierRec u new) t u ∧ t.mon.pollAt = s.mon.pollAt ∧ t.mon.recoveryOwed = s.mon.recoveryOwed ∧
        (∀ i, s.mon.transaction = .poll u i → t.mon.transaction = .lost) ∧
        ((∀ i, s.mon.transaction ≠ .poll u i) → t.mon.transaction = s.mon.transaction)) ∧
      (new.cells = (s.tier u).cells → t.mon = s.mon) := by
  have hnew : (s.setTierRec u new).tier u = new := (setTierRec_tier ..).trans (if_pos rfl)
  by_cases hcells : new.cells = (s.tier u).cells
  · have hx : t = (((s.setTierRec u new).pairMeets u (s.tier u) new).when (!(s.tier u).present && new.present)
        fun s => s.madePresent u).seqReport u := by
      have hwhen : (s.setTierRec u new).when (decide ((s.tier u).cells ≠ new.cells))
          (fun s => s.restartCells u new.cells.length) = s.setTierRec u new := if_neg (by simp [hcells])
      rw [ht, storeTier_eq, hwhen]
    obtain ⟨hs, hmon, hmet⟩ := tierRecord_met (s := s) (x := s.setTierRec u new) hm hj hnew rfl rfl (fun _ => rfl) hx
      fun _ _ => ⟨rfl, rfl, rfl⟩
    exact ⟨hs, hmet, fun h => absurd hcells h, fun _ => hmon⟩
  · obtain ⟨hs, hseq, hpair, hc, htare, hfound, hpoll, hrec, hlost, hkept⟩ :=
      restartCells_spec (s.setTierRec u new) u new.cells.length
    have hx : t = ((((s.setTierRec u new).restartCells u new.cells.length).pairMeets u (s.tier u) new).when
        (!(s.tier u).present && new.present) fun s => s.madePresent u).seqReport u := by
      have hwhen : (s.setTierRec u new).when (decide ((s.tier u).cells ≠ new.cells))
          (fun s => s.restartCells u new.cells.length) = (s.setTierRec u new).restartCells u new.cells.length :=
        if_pos (by simpa using Ne.symm hcells)
      rw [ht, storeTier_eq, hwhen]
    generalize (s.setTierRec u new).restartCells u new.cells.length = x at hx hs hseq hpair hc htare hfound hpoll hrec hlost hkept
    obtain ⟨htier, hrecs, hauth⟩ := hs.reads
    obtain ⟨hs', hmon, hmet⟩ := tierRecord_met (s := s) (x := x) (by rw [hauth]; exact hm) (by rw [hseq]; exact hj)
      ((htier u).trans hnew) hseq hpair hrecs hx hs.others
    have hload : t.loadOf u = x.loadOf u := by
      unfold State.loadOf
      rw [hmon]
    refine ⟨hs.trans hs', hmet, fun _ => ⟨by rw [hload, hc], by rw [hload, htare], hfound.mono hload hs'.pass hs'.sent, ?_, ?_,
      fun i hi => ?_, fun hno => ?_⟩, fun h => absurd h hcells⟩
    · rw [hmon, hpoll]
      rfl
    · rw [hmon, hrec]
      rfl
    · rw [hmon]
      exact hlost i hi
    · rw [hmon]
      exact hkept hno

theorem storedTier_eq (w : TierWrite) : storedTier w =
    { present := w.present == 1
      travelMin := min 18000 (max (-18000) w.travelMin), travelMax := min 18000 (max (-18000) w.travelMax)
      lockTime := min 10000 (max 100 w.lockTime), presence := min 10000 (max 10 w.presence)
      overload := max (min 10000 (max 10 w.presence)) (min 200000 (max 100 w.overload))
      cells := w.cells, rotDemand := min 1000 w.rotDemand
      tilt := w.tilt.map fun g =>
        { jackMin := min 20000 g.jackMin, jackMax := min 20000 g.jackMax
          stow := min (min 20000 g.jackMax) (max (min 20000 g.jackMin) (min 20000 g.stow))
          skewWarn := min 500 (max 1 g.skewWarn)
          skewTrip := max (min 500 (max 1 g.skewWarn)) (min 1000 (max 1 g.skewTrip))
          ks := min 255 g.ks, demandA := min 1000 g.demandA, demandB := min 1000 g.demandB, raised := g.raised } } := by
  have htilt : clampTilt = fun g : TiltRec =>
      { jackMin := min 20000 g.jackMin, jackMax := min 20000 g.jackMax
        stow := min (min 20000 g.jackMax) (max (min 20000 g.jackMin) (min 20000 g.stow))
        skewWarn := min 500 (max 1 g.skewWarn)
        skewTrip := max (min 500 (max 1 g.skewWarn)) (min 1000 (max 1 g.skewTrip))
        ks := min 255 g.ks, demandA := min 1000 g.demandA, demandB := min 1000 g.demandB, raised := g.raised } := by
    funext g
    simp [clampTilt, clampNat]
  rw [storedTier, htilt]
  simp [clampNat, clampInt]

/-- What a tier has met stands in a state that differs in ports and in reports sent on. -/
theorem TierMet.of_ports {s x t : State} {u : Tier} (h : TierMet s x u) (ho : OnlyPorts x t) (hm : ∀ m ∈ x.mail, m ∈ t.mail) :
    TierMet s t u := by
  unfold OnlyPorts at ho
  obtain ⟨hothers, hmet⟩ := h
  have hreads : (∀ v, t.seq v = x.seq v) ∧ (∀ v, t.pair v = x.pair v) ∧ (∀ v, t.loadOf v = x.loadOf v) ∧
      (∀ v, t.tier v = x.tier v) ∧ t.arb = x.arb := by
    rw [ho]
    exact ⟨fun _ => rfl, fun _ => rfl, fun _ => rfl, fun _ => rfl, rfl⟩
  obtain ⟨hseq, hpair, hload, htier, harb⟩ := hreads
  refine ⟨fun v hv => by rw [hseq, hpair, hload]; exact hothers v hv, fun made low hmade hlow => ?_⟩
  rw [htier] at hmade hlow
  obtain ⟨h1, h2, h3, h4, h5⟩ := hmet made low hmade hlow
  rw [harb, hseq, hpair, htier]
  exact ⟨h1, h2, fun h hc => ⟨hm _ (h3 h hc).1, fun hi => hm _ ((h3 h hc).2 hi)⟩, h4, fun h => hm _ (h5 h)⟩

/-- SET_TIER from the holder in SETUP, of a sound record and a tier at rest. -/
theorem setTier_stores (q : Src) {s : State} (hs : s.held = false) (hm : s.auth.mode = .setup)
    (hq : s.auth.holder = some q.port) {u : Tier} {w : TierWrite} (hbusy : s.tierBusy u = false)
    (hsound : s.tierSound u w = true) :
    ∃ x t, exec (.setTier q (Idx8.num u) w) s = .next t ∧ OnlyPorts x t ∧ (∀ m ∈ x.mail, m ∈ t.mail) ∧
      x = (s.taken (.setTier q (Idx8.num u) w)).storeTier u (storedTier w) ∧
      Replied s t q 0x29 (writeStatus (tierClamped w)) (tierBytes u (storedTier w)) := by
  have hbusy' : (s.taken (.setTier q (Idx8.num u) w)).tierBusy u = false := hbusy
  have hsound : (s.taken (.setTier q (Idx8.num u) w)).tierSound u w = true := hsound
  have hj : (s.seq u).jog = none := by
    by_contra hne
    rw [(tierBusy_iff s u).mpr (.inl hne)] at hbusy
    cases hbusy
  have hf := (storeTier_spec (s := s.taken (.setTier q (Idx8.num u) w)) (u := u) hm hj (new := storedTier w) rfl).1.frame
  obtain ⟨t, he, ho, hr, hmail⟩ := exec_replied (.setTier q (Idx8.num u) w)
    (t' := (s.taken (.setTier q (Idx8.num u) w)).storeTier u (storedTier w))
    (st := writeStatus (tierClamped w)) (body := tierBytes u (storedTier w)) (execSetTier.eq_1 ..) hs (by
      refine (writeGuard_of_holder (s := s.taken _) hm hq _).trans ?_
      rw [ofNat?_num]
      simp [hsound, hbusy', State.answer]) (by rw [hf]; rfl)
  exact ⟨_, t, he, ho, hmail, rfl, hr⟩

/-- Settles O37: the refusals of R2, and the record as stored with what follows from it. -/
theorem acceptedTableWritesStoreTheClampedRecord : Obligations.AcceptedTableWritesStoreTheClampedRecord := by
  refine ⟨fun c kind q s hs hk hq => tableWrite_refused hs hk hq, fun q s hs hm hq => ⟨fun w => setHall_stores q hs hm hq w,
    fun u b l hbusy hb hlen hcells hnodup => setBand_stores q hs hm hq u hbusy hb hlen hcells hnodup,
    fun u w hbusy hsound => ?_⟩⟩
  obtain ⟨x, t, he, ho, hmail, hx, hr⟩ := setTier_stores q hs hm hq hbusy hsound
  have hj : (s.seq u).jog = none := by
    by_contra hne
    rw [(tierBusy_iff s u).mpr (.inl hne)] at hbusy
    cases hbusy
  obtain ⟨hsteps, hmet, hnew, hold⟩ := storeTier_spec (s := s.taken (.setTier q (Idx8.num u) w)) hm hj hx
  have htiers (v : Tier) : t.tier v = if v = u then storedTier w else s.tier v := by
    have h1 : t.tier v = x.tier v := by
      unfold OnlyPorts at ho
      rw [ho]
      rfl
    exact h1.trans ((hsteps.reads.1 v).trans (setTierRec_tier ..))
  have hu : t.tier u = storedTier w := (htiers u).trans (if_pos rfl)
  have hmon : t.mon = x.mon := by
    unfold OnlyPorts at ho
    rw [ho]
  have harb : t.arb = x.arb := by
    unfold OnlyPorts at ho
    rw [ho]
  have hload := ho.reads.2.2.1 u
  have hcells : (storedTier w).cells = w.cells := rfl
  rw [hcells] at hnew hold
  refine ⟨t, he, hu.trans (storedTier_eq w), fun v hv => (htiers v).trans (if_neg hv), hu ▸ hr, fun hne => ?_, fun heq => ?_,
    ?_, ?_, fun i hi hne => ?_, fun hkept => ?_, ?_, hmet.of_ports ho hmail⟩
  · obtain ⟨hc, htare, hfound, -⟩ := hnew hne
    have hfound' := hfound.mono (t := t) hload (fun h => harb ▸ h) hmail
    refine ⟨by rw [hload, hc], by rw [hload, htare], ?_⟩
    have htables : t.tables = ((s.taken (.setTier q (Idx8.num u) w)).setTierRec u (storedTier w)).tables := by
      unfold OnlyPorts at ho
      rw [ho, hsteps.frame]
    rw [htables]
    exact hfound'
  · rw [hload]
    exact congrArg (fun m : LoadMonitor => m.tiers.get u) (hold heq)
  · rw [hmon]
    by_cases h : w.cells = (s.tier u).cells
    · rw [hold h]
      rfl
    · exact (hnew h).2.2.2.1
  · rw [hmon]
    by_cases h : w.cells = (s.tier u).cells
    · rw [hold h]
      rfl
    · exact (hnew h).2.2.2.2.1
  · rw [hmon]
    exact (hnew hne).2.2.2.2.2.1 i hi
  · rw [hmon]
    by_cases h : w.cells = (s.tier u).cells
    · rw [hold h]
      rfl
    · exact (hnew h).2.2.2.2.2.2 (hkept.resolve_left h)
  · unfold OnlyPorts at ho
    rw [ho, hsteps.frame]
    rfl

end Sys2Proof.Machine

/-! SUPPORT. The checks of a grant pass (R50) and the figures they use: bands, paths, reserved sets and demands. -/

namespace Sys2Proof.Machine

open Sys2Proof

/-! ### Bands and paths -/

/-- The band of a position, by its bounds (R15). -/
theorem bandOf_eq_iff (p : Int) (b : Nat) : bandOf p = b ↔
    b ≤ 35 ∧ (b ≠ 0 → 256 * (-18000 + 1000 * (b : Int)) ≤ p) ∧ (b ≠ 35 → p < 256 * (-18000 + 1000 * ((b : Int) + 1))) := by
  have hf : (Config.fine : Int) = 256 := rfl
  unfold bandOf
  rw [hf]
  omega

/-- The bands of a path, whichever way it runs. -/
theorem mem_bandsBetween (s g b : Nat) : b ∈ bandsBetween s g ↔ min s g ≤ b ∧ b ≤ max s g := by
  unfold bandsBetween
  split
  · rw [List.mem_range'_1]
    omega
  · rw [List.mem_reverse, List.mem_range'_1]
    omega

/-- A cell is in the union of some bands when one of them has it. -/
theorem bandUnion_getLsbD (s : State) (t : Tier) (bs : List Nat) (c : Nat) :
    (s.bandUnion t bs).getLsbD c = true ↔ ∃ b ∈ bs, (s.bandCells t b).getLsbD c = true := by
  suffices h : ∀ (l : List Nat) (acc : CellSet), (l.foldl (fun acc b => acc ||| s.bandCells t b) acc).getLsbD c = true ↔
      acc.getLsbD c = true ∨ ∃ b ∈ l, (s.bandCells t b).getLsbD c = true by
    refine (h bs 0).trans ?_
    simp
  intro l
  induction l with
  | nil => simp
  | cons b rest ih =>
    intro acc
    rw [List.foldl_cons, ih, BitVec.getLsbD_or, Bool.or_eq_true, or_assoc]
    simp

/-- The path and the reserved set of a ROTATE (R42). -/
theorem rotate_figures (s : State) (m : MoveRec) (n : Station) (x : Int) (hg : m.goal = .rotate n)
    (hx : s.stationAngle m.tier n = some x) (here there : Nat)
    (hhere : here = bandOf (s.axis ⟨m.tier, .R⟩).position) (hthere : there = bandOf (256 * x)) :
    s.pathOf m = ⟨m.number, true, here, there, here⟩ ∧
      ∀ c : Nat, (s.reservedFor m).getLsbD c = true ↔
        ∃ b, min here there ≤ b ∧ b ≤ max here there ∧ (s.bandCells m.tier b).getLsbD c = true := by
  have hgoal : s.goalBand m.tier n = there := by
    unfold State.goalBand
    rw [hx, hthere, Int.mul_comm]
    rfl
  have hpath : s.pathOf m = ⟨m.number, true, here, there, here⟩ := by
    unfold State.pathOf
    simp only [hg, hgoal, hhere]
  refine ⟨hpath, fun c => ?_⟩
  have hres : s.reservedFor m = s.bandUnion m.tier (bandsBetween here there) := by
    unfold State.reservedFor
    simp only [hg, hpath]
  rw [hres, bandUnion_getLsbD]
  simp only [mem_bandsBetween, and_assoc]

/-- The path and the reserved set of a TILT (R42). -/
theorem tilt_figures (s : State) (m : MoveRec) (h : Nat) (g : TiltRec) (hg : m.goal = .tilt h)
    (ht : (s.tier m.tier).tilt = some g) :
    (∀ b, (s.holding m.tier).band = some b → s.pathOf m = ⟨m.number, false, b, b, b⟩) ∧
      s.reservedFor m = if (s.holding m.tier).stowed = false ∨ g.stow < h then g.raised else 0 := by
  refine ⟨fun b hb => ?_, ?_⟩
  · unfold State.pathOf
    simp only [hg, hb, Option.getD_some]
  · unfold State.reservedFor
    simp only [hg, ht, Bool.or_eq_true, Bool.not_eq_true', decide_eq_true_eq]

/-- The demand of a move: its rated demand, or its half or quarter rounded up (R47). -/
theorem demandOf_eq (s : State) (m : MoveRec) (rated : Nat)
    (h : rated = match m.goal, (s.tier m.tier).tilt with
      | .rotate _, _ => (s.tier m.tier).rotDemand
      | .tilt _, some g => g.demandA + g.demandB
      | .tilt _, none => 0) :
    s.demandOf m = match m.cls with
      | .full => rated
      | .reduced => (rated + 1) / 2
      | .crawl => (rated + 3) / 4 := by
  unfold State.demandOf
  cases hg : m.goal <;> cases ht : (s.tier m.tier).tilt <;> cases hc : m.cls <;>
    simp only [hg, ht] at h <;> simp [h, classDemand, shareUp]

/-! ### The cells that a tier may take -/

theorem owner_eq_none_iff (x : Arbiter) (c : Nat) :
    x.owner c = none ↔ ∀ v, (x.tiers.get v).owns.getLsbD c = false := by
  unfold Arbiter.owner
  rw [List.find?_eq_none]
  exact ⟨fun h v => by simpa using h v (Idx8.mem_all v), fun h v _ => by simp [h v]⟩

/-- What a tier may take: its own cells, and those that are FREE and owed to no other tier (R41). -/
theorem takable_getLsbD (x : Arbiter) (t : Tier) {c : Nat} (hc : c < 64) :
    (x.takable t).getLsbD c =
      ((x.tiers.get t).owns.getLsbD c || (x.owner c).isNone && x.owed.all fun o => o.cell != c || o.tier == t) := by
  unfold Arbiter.takable
  rw [BitVec.getLsbD_or, BitVec.getLsbD_not, BitVec.getLsbD_or, ownedByOthers_getLsbD, owedToOthers_getLsbD _ _ hc,
    decide_eq_true hc, Bool.true_and, Bool.not_or]
  cases hmine : (x.tiers.get t).owns.getLsbD c
  · congr 2
    · rw [Bool.eq_iff_iff]
      simp only [Bool.not_eq_true', List.any_eq_false, Bool.and_eq_true, bne_iff_ne, not_and, Bool.not_eq_true,
        Option.isNone_iff_eq_none, owner_eq_none_iff]
      refine ⟨fun h v => ?_, fun h v _ _ => h v⟩
      obtain rfl | hv := eq_or_ne v t
      · exact hmine
      · exact h v (Idx8.mem_all v) hv
    · rw [List.not_any_eq_all_not]
      congr 1
      funext o
      rw [Bool.not_and, Bool.or_comm, bne, bne, Bool.not_not]
  · rfl

/-! ### The checks -/

theorem busyTier_iff (s : State) (t : Tier) :
    s.busyTier t = true ↔ (s.seq t).slot ≠ none ∨ (s.holding t).active = true := by
  unfold State.busyTier
  rw [Bool.or_eq_true, Option.isSome_iff_ne_none]

theorem drivesFit_iff (s : State) (m : MoveRec) : s.drivesFit m = true ↔
    ∀ a ∈ moveAxes m, (s.axis a).valid = true ∧ (s.axis a).limit = false ∧ (s.axis a).ready = true := by
  unfold State.drivesFit
  simp only [List.all_eq_true, Bool.and_eq_true, Bool.not_eq_true', and_assoc]

theorem postureFits_iff (s : State) (m : MoveRec) : s.postureFits m = true ↔
    match m.goal with
    | .rotate _ => (s.holding m.tier).stowed = true
    | .tilt _ => (s.seq m.tier).lockState = .engaged ∧ (s.seq m.tier).station ≠ none := by
  unfold State.postureFits
  cases m.goal <;> simp [Option.isSome_iff_ne_none]

theorem cellsFit_iff (s : State) (m : MoveRec) : s.cellsFit m = true ↔
    ∀ c < 64, (s.reservedFor m).getLsbD c = true →
      (s.holding m.tier).owns.getLsbD c = true ∨
      (s.arb.owner c = none ∧ ∀ o ∈ s.arb.owed, o.cell = c → o.tier = m.tier) := by
  have bit (c : Nat) (hc : c < 64) : (s.arb.takable m.tier).getLsbD c = true ↔
      (s.holding m.tier).owns.getLsbD c = true ∨
      (s.arb.owner c = none ∧ ∀ o ∈ s.arb.owed, o.cell = c → o.tier = m.tier) := by
    rw [takable_getLsbD _ _ hc]
    simp only [Bool.or_eq_true, Bool.and_eq_true, Option.isNone_iff_eq_none, List.all_eq_true, bne_iff_ne, beq_iff_eq,
      imp_iff_not_or]
    rfl
  unfold State.cellsFit
  rw [beq_iff_eq, and_eq_zero_iff]
  refine ⟨fun h c hc hr => (bit c hc).mp ?_, fun h c hr => ?_⟩
  · simpa [hc] using h c hr
  · have hc : c < 64 := Nat.lt_of_not_le fun hge => by rw [BitVec.getLsbD_of_ge _ _ hge] at hr; cases hr
    simpa [hc] using (bit c hc).mpr (h c hc hr)

theorem fitsPower_iff (s : State) (n : Nat) :
    s.fitsPower n = true ↔ s.arb.committed + n ≤ s.tables.hall.capacity := decide_eq_true_iff

theorem agingFits_iff (s : State) (m : MoveRec) (cells : CellSet) (power : Nat) : s.agingFits m cells power = true ↔
    (∀ c < 64, ((s.reservedFor m).getLsbD c && cells.getLsbD c) = false) ∧
      s.arb.committed + power + s.demandOf m ≤ s.tables.hall.capacity := by
  unfold State.agingFits
  rw [Bool.and_eq_true, beq_iff_eq, decide_eq_true_iff, and_eq_zero_iff]
  refine and_congr ⟨fun h c _ => ?_, fun h c hr => ?_⟩ (by omega)
  · cases hr : (s.reservedFor m).getLsbD c
    · rfl
    · rw [h c hr, Bool.and_false]
  · have hc : c < 64 := Nat.lt_of_not_le fun hge => by rw [BitVec.getLsbD_of_ge _ _ hge] at hr; cases hr
    simpa [hr] using h c hc

/-- Each of the checks 2 to 10 as the pass makes it. -/
theorem grantCheckFails_iff (s : State) (m : MoveRec) (blocked : List Tier) (cells : CellSet) (power : Nat) :
    (GrantCheckFails s m blocked cells power 2 ↔ blocked.contains m.tier = true) ∧
    (GrantCheckFails s m blocked cells power 3 ↔ s.busyTier m.tier = true) ∧
    (GrantCheckFails s m blocked cells power 4 ↔ (s.seq m.tier).inhibit.isSome = true) ∧
    (GrantCheckFails s m blocked cells power 5 ↔ (!((s.loadOf m.tier).valid && !(s.loadOf m.tier).occupied)) = true) ∧
    (GrantCheckFails s m blocked cells power 6 ↔ (!s.drivesFit m) = true) ∧
    (GrantCheckFails s m blocked cells power 7 ↔ (!s.postureFits m) = true) ∧
    (GrantCheckFails s m blocked cells power 8 ↔ (!s.cellsFit m) = true) ∧
    (GrantCheckFails s m blocked cells power 9 ↔ (!s.fitsPower (s.demandOf m)) = true) ∧
    (GrantCheckFails s m blocked cells power 10 ↔ (!s.agingFits m cells power) = true) := by
  simp only [Bool.not_eq_true']
  refine ⟨?_, (busyTier_iff ..).symm, Option.isSome_iff_ne_none.symm, ?_, ?_, ?_, ?_, ?_, ?_⟩
  · exact List.contains_iff_mem.symm
  · rw [Bool.and_eq_false_iff, Bool.not_eq_false']
    exact Iff.rfl
  · rw [← Bool.not_eq_true, drivesFit_iff]
    simp only [GrantCheckFails]
    push Not
    simp only [ne_eq, Bool.not_eq_true]
    refine exists_congr fun a => and_congr_right fun _ => ?_
    cases (s.axis a).valid <;> cases (s.axis a).limit <;> simp
  · rw [← Bool.not_eq_true, postureFits_iff]
    simp only [GrantCheckFails]
    cases m.goal
    · simp
    · simp [imp_iff_not_or]
  · rw [← Bool.not_eq_true, cellsFit_iff]
    simp only [GrantCheckFails]
    push Not
    refine exists_congr fun c => and_congr_right fun _ => and_congr_right fun _ => and_congr ?_ imp_iff_not_or.symm
    exact Bool.not_eq_true _ ▸ Iff.rfl
  · rw [← Bool.not_eq_true, fitsPower_iff, Nat.not_le]
    exact Iff.rfl
  · rw [← Bool.not_eq_true, agingFits_iff, not_and_or, Nat.not_le]
    simp [GrantCheckFails]

/-- A move is granted exactly when all of the checks pass (R50). -/
theorem findMove_eq_grant_iff (s : State) (m : MoveRec) (blocked : List Tier) (cells : CellSet) (power : Nat) :
    s.findMove m blocked cells power = .grant ↔
      blocked.contains m.tier = false ∧ s.busyTier m.tier = false ∧ (s.seq m.tier).inhibit.isSome = false ∧
      ((s.loadOf m.tier).valid && !(s.loadOf m.tier).occupied) = true ∧ s.drivesFit m = true ∧
      s.postureFits m = true ∧ s.cellsFit m = true ∧ s.fitsPower (s.demandOf m) = true ∧
      s.agingFits m cells power = true := by
  unfold State.findMove
  dsimp only
  generalize ((s.loadOf m.tier).valid && !(s.loadOf m.tier).occupied) = load
  split_ifs <;> simp_all

/-- The first check that fails decides what the pass finds (R50). -/
theorem findMove_of_first (s : State) (m : MoveRec) (blocked : List Tier) (cells : CellSet) (power k : Nat)
    (hk : GrantCheckFails s m blocked cells power k) (hmin : ∀ j < k, ¬GrantCheckFails s m blocked cells power j) :
    s.findMove m blocked cells power = findingOf k := by
  obtain ⟨e2, e3, e4, e5, e6, e7, e8, e9, e10⟩ := grantCheckFails_iff s m blocked cells power
  have passed {j : Nat} {P : Prop} (e : GrantCheckFails s m blocked cells power j ↔ P) (hj : j < k) : ¬P :=
    fun hp => hmin j hj (e.mpr hp)
  have p2 := passed e2
  have p3 := passed e3
  have p4 := passed e4
  have p5 := passed e5
  have p6 := passed e6
  have p7 := passed e7
  have p8 := passed e8
  have p9 := passed e9
  unfold State.findMove
  dsimp only
  match k, hk with
  | 2, hk => exact if_pos (e2.mp hk)
  | 3, hk => rw [if_neg (p2 (by decide)), if_pos (e3.mp hk)]; rfl
  | 4, hk => rw [if_neg (p2 (by decide)), if_neg (p3 (by decide)), if_pos (e4.mp hk)]; rfl
  | 5, hk =>
    rw [if_neg (p2 (by decide)), if_neg (p3 (by decide)), if_neg (p4 (by decide)), if_pos (e5.mp hk)]; rfl
  | 6, hk =>
    rw [if_neg (p2 (by decide)), if_neg (p3 (by decide)), if_neg (p4 (by decide)), if_neg (p5 (by decide)),
      if_pos (e6.mp hk)]; rfl
  | 7, hk =>
    rw [if_neg (p2 (by decide)), if_neg (p3 (by decide)), if_neg (p4 (by decide)), if_neg (p5 (by decide)),
      if_neg (p6 (by decide)), if_pos (e7.mp hk)]; rfl
  | 8, hk =>
    rw [if_neg (p2 (by decide)), if_neg (p3 (by decide)), if_neg (p4 (by decide)), if_neg (p5 (by decide)),
      if_neg (p6 (by decide)), if_neg (p7 (by decide)), if_pos (e8.mp hk)]; rfl
  | 9, hk =>
    rw [if_neg (p2 (by decide)), if_neg (p3 (by decide)), if_neg (p4 (by decide)), if_neg (p5 (by decide)),
      if_neg (p6 (by decide)), if_neg (p7 (by decide)), if_neg (p8 (by decide)), if_pos (e9.mp hk)]; rfl
  | 10, hk =>
    rw [if_neg (p2 (by decide)), if_neg (p3 (by decide)), if_neg (p4 (by decide)), if_neg (p5 (by decide)),
      if_neg (p6 (by decide)), if_neg (p7 (by decide)), if_neg (p8 (by decide)), if_neg (p9 (by decide)),
      if_pos (e10.mp hk)]; rfl

/-- Settles O41: each check as the pass makes it is the check as R50 states it. -/
theorem onlyMovesThatPassEveryCheckAreGranted : Obligations.OnlyMovesThatPassEveryCheckAreGranted := by
  refine ⟨bandOf_eq_iff, fun s m => ⟨rotate_figures s m, tilt_figures s m, demandOf_eq s m⟩,
    fun s m blocked cells power => ⟨?_, findMove_of_first s m blocked cells power⟩⟩
  rw [findMove_eq_grant_iff, drivesFit_iff, cellsFit_iff, fitsPower_iff, agingFits_iff,
    Bool.and_eq_true, Bool.not_eq_true', Option.isSome_eq_false_iff, Option.isNone_iff_eq_none, and_assoc,
    ← Bool.not_eq_true, List.contains_iff_mem, ← Bool.not_eq_true (s.busyTier _), busyTier_iff, not_or, not_not,
    Bool.not_eq_true, and_assoc]
  iterate 7 refine Iff.rfl.and ?_
  exact (postureFits_iff s m).and Iff.rfl

end Sys2Proof.Machine

/-! SUPPORT. Progressive release at the arbiter (R56, R57): the cells that a tier gives up and who has them next. -/

namespace Sys2Proof.Machine

open Sys2Proof

/-! ### Cells given up -/

/-- The cells of a set that a tier owns leave its two sets and pass to the oldest claim owing each (R43). -/
theorem release_getLsbD (x : Arbiter) (u : Tier) (cells free : CellSet) (hf : free = cells &&& (x.tiers.get u).owns) :
    (x.release u cells).owed.Sublist x.owed ∧
    (∀ c, ((x.release u cells).owed.filter fun o => o.cell == c) =
      if free.getLsbD c then (x.owed.filter fun o => o.cell == c).drop 1 else x.owed.filter fun o => o.cell == c) ∧
    ∀ v, (x.release u cells).tiers.get v = { x.tiers.get v with
        standing := ((x.release u cells).tiers.get v).standing, reserved := ((x.release u cells).tiers.get v).reserved } ∧
      ∀ c < 64,
        ((x.release u cells).tiers.get v).standing.getLsbD c =
          ((x.tiers.get v).standing.getLsbD c && !(v == u && free.getLsbD c) ||
            free.getLsbD c && (x.owed.find? fun o => o.cell == c).any fun o => o.tier == v) ∧
        ((x.release u cells).tiers.get v).reserved.getLsbD c =
          ((x.tiers.get v).reserved.getLsbD c && !(v == u && free.getLsbD c)) := by
  obtain ⟨hsub, hfil, hget⟩ := passOwed_eq x.owed free (x.giveUp u free).tiers
  have hrel : x.release u cells = (x.giveUp u free).handOver free := by rw [hf]; rfl
  rw [hrel, handOver_eq]
  have left (v : Tier) : (x.giveUp u free).tiers.get v = if v = u then { x.tiers.get u with
      standing := (x.tiers.get u).standing &&& ~~~free, reserved := (x.tiers.get u).reserved &&& ~~~free }
      else x.tiers.get v := Eight.get_set ..
  refine ⟨hsub, hfil, fun v => ?_⟩
  obtain ⟨hv, hstand⟩ := hget v
  have hres : ((passOwed x.owed free (x.giveUp u free).tiers).2.get v).reserved =
      ((x.giveUp u free).tiers.get v).reserved := (congrArg Holding.reserved hv :)
  refine ⟨hv.trans ?_, fun c hc => ⟨(hstand c).trans ?_, (congrArg (·.getLsbD c) hres).trans ?_⟩⟩
  · dsimp only
    rw [show (x.giveUp u free).owed = x.owed from rfl, hres, left]
    split
    · next e => rw [e]
    · rfl
  · rw [left]
    split
    · next e => simp [e, hc]
    · next e => simp [beq_eq_false_iff_ne.mpr e]
  · rw [left]
    split
    · next e => simp [e, hc]
    · next e => simp [beq_eq_false_iff_ne.mpr e]

/-- What follows of a cell given up: where a claim owes it, its tier has it now, and otherwise nobody has. -/
theorem CellsGivenUp.left {s t : State} {u : Tier} {free : CellSet} (h : CellsGivenUp s t u free) {c : Nat} (hc : c < 64)
    (hfree : free.getLsbD c = true) :
    (t.holding u).reserved.getLsbD c = false ∧
      ∀ v, v = u ∨ (s.holding v).owns.getLsbD c = false → (t.holding v).owns.getLsbD c =
        (s.arb.owed.find? fun o => o.cell == c).any fun o => o.tier == v := by
  obtain ⟨-, hcells⟩ := h
  obtain ⟨-, hsets⟩ := hcells c hc
  refine ⟨by rw [(hsets u).2]; simp [hfree], fun v hv => ?_⟩
  rw [owns_getLsbD, (hsets v).1, (hsets v).2, hfree]
  obtain rfl | hv := hv
  · simp
  · rw [owns_getLsbD, Bool.or_eq_false_iff] at hv
    simp [hv.1, hv.2]

/-- What a tier owns and does not give up, it still owns. -/
theorem CellsGivenUp.kept {s t : State} {u : Tier} {free : CellSet} (h : CellsGivenUp s t u free) (v : Tier) (c : Nat)
    (hown : (s.holding v).owns.getLsbD c = true) (hkeep : v = u → free.getLsbD c = false) :
    (t.holding v).owns.getLsbD c = true := by
  have hc : c < 64 := Nat.lt_of_not_le fun hge => by rw [BitVec.getLsbD_of_ge _ _ hge] at hown; cases hown
  obtain ⟨-, hcells⟩ := h
  obtain ⟨-, hsets⟩ := hcells c hc
  have hkeep' : (v == u && free.getLsbD c) = false := by
    rw [Bool.and_eq_false_imp]
    exact fun e => hkeep (beq_iff_eq.mp e)
  rw [owns_getLsbD] at hown ⊢
  rw [(hsets v).1, (hsets v).2, hkeep', Bool.not_false, Bool.and_true, Bool.and_true]
  obtain e | e := Bool.or_eq_true .. |>.mp hown <;> simp [e]

/-! ### The bands of a path -/

/-- A path begins with its first band, and has no other when it is its last too. -/
theorem bandsBetween_dropLast (s g : Nat) :
    (bandsBetween s g).dropLast = if s = g then [] else s :: ((bandsBetween s g).dropLast.drop 1) := by
  unfold bandsBetween
  obtain h | rfl | h := Nat.lt_trichotomy s g
  · obtain ⟨n, rfl⟩ : ∃ n, g = s + 1 + n := ⟨g - (s + 1), by omega⟩
    rw [if_pos h.le, if_neg h.ne, show s + 1 + n + 1 - s = n + 2 by omega]
    simp [List.range'_succ]
  · simp
  · obtain ⟨n, rfl⟩ : ∃ n, s = g + 1 + n := ⟨s - (g + 1), by omega⟩
    rw [if_neg (by omega), if_neg h.ne', show g + 1 + n + 1 - g = n + 2 by omega]
    rw [show n + 2 = (n + 1) + 1 from rfl, List.range'_concat, List.reverse_append, List.range'_concat]
    simp
    omega

/-- The bands that a report releases: the next one, and each further one whose release point has been passed (R56). -/
theorem releasedBands_eq (s : State) (p : Path) (x : Int) :
    (p.next ≠ p.g → s.releasedBands p x =
      p.next :: (p.toRelease.drop 1).takeWhile fun b => (s.releasePoint (pathDir p.s p.g) b).passed x) ∧
    (p.next = p.g → s.releasedBands p x = []) := by
  have h := bandsBetween_dropLast p.next p.g
  unfold State.releasedBands
  refine ⟨fun hne => ?_, fun he => ?_⟩
  · rw [if_neg hne] at h
    rw [show p.toRelease = _ from h]
    rfl
  · rw [if_pos he] at h
    rw [show p.toRelease = _ from h]

/-! ### The release report -/

/-- What a release report leaves: the cells given up, the path moved on, and tR's next release point. -/
theorem releaseBands_spec (s : State) (u : Tier) (p : Path) (x : Int) (t : State) (ht : t = s.releaseBands u p x) :
    (t.holding u).path = some { p with next := p.after (s.releasedBands p x) } ∧
    CellsGivenUp s t u
      ((s.bandUnion u (s.releasedBands p x) &&& ~~~(s.bandUnion u (p.ahead x))) &&& (s.holding u).owns) ∧
    (p.next ≠ p.g → t.arb.passRequested = true) ∧
    (t.axis ⟨u, .R⟩).release = s.nextPoint { p with next := p.after (s.releasedBands p x) } ∧
    t = { s with
      arb := { s.arb with tiers := t.arb.tiers, owed := t.arb.owed, passRequested := t.arb.passRequested }
      axes := t.axes, mail := t.mail } := by
  obtain ⟨cells, hcells⟩ : ∃ cells, cells = s.bandUnion u (s.releasedBands p x) &&& ~~~(s.bandUnion u (p.ahead x)) := ⟨_, rfl⟩
  obtain ⟨hsub, hfil, hget⟩ := release_getLsbD s.arb u cells _ rfl
  obtain ⟨y, hy⟩ : ∃ y, y = ((s.modArb fun x => x.release u cells).modHolding u fun h =>
      { h with path := some { p with next := p.after (s.releasedBands p x) } }).modAxis ⟨u, .R⟩ fun a =>
      { a with release := s.nextPoint { p with next := p.after (s.releasedBands p x) } } := ⟨_, rfl⟩
  have hty : t = y.when (!(s.releasedBands p x).isEmpty) State.requestPass := by
    rw [ht, hy, hcells]
    rfl
  have hold (v : Tier) : t.holding v = y.holding v := by
    rw [hty]
    unfold State.when
    split
    · rw [requestPass_eq]; rfl
    · rfl
  have howed : t.arb.owed = y.arb.owed := by
    rw [hty]
    unfold State.when
    split
    · rw [requestPass_eq]
    · rfl
  have hyv (v : Tier) : y.holding v = if v = u then { (s.arb.release u cells).tiers.get u with
      path := some { p with next := p.after (s.releasedBands p x) } } else (s.arb.release u cells).tiers.get v := by
    rw [hy, State.modAxis_holding, State.modHolding_holding]
    rfl
  have hsets (v : Tier) : (t.holding v).standing = ((s.arb.release u cells).tiers.get v).standing ∧
      (t.holding v).reserved = ((s.arb.release u cells).tiers.get v).reserved := by
    rw [hold, hyv]
    split
    · next e => rw [e]; exact ⟨rfl, rfl⟩
    · exact ⟨rfl, rfl⟩
  have howed' : t.arb.owed = (s.arb.release u cells).owed := howed.trans (by rw [hy]; rfl)
  refine ⟨?_, ⟨howed' ▸ hsub, fun c hc => ⟨?_, fun v => ?_⟩⟩, fun hne => ?_, ?_, ?_⟩
  · rw [hold, hyv, if_pos rfl]
  · rw [howed', ← hcells]
    exact hfil c
  · rw [(hsets v).1, (hsets v).2, ← hcells]
    exact (hget v).2 c hc
  · rw [hty, (releasedBands_eq s p x).1 hne]
    exact requestPass_passRequested _
  · have haxis : t.axis ⟨u, .R⟩ = y.axis ⟨u, .R⟩ := by
      rw [hty]
      unfold State.when
      split
      · rw [requestPass_eq]; rfl
      · rfl
    rw [haxis, hy, State.modAxis_axis, if_pos rfl]
  · rw [hty, hy]
    unfold State.when
    split
    · rw [requestPass_eq]; rfl
    · rfl

/-- Settles O42: the walk of the owed list says who has each cell given up, and the rest is the shape of the path. -/
theorem releaseReportsGiveBackBands : Obligations.ReleaseReportsGiveBackBands := by
  intro u served x s hs
  have he := exec_live (.bandReleaseReport u served x) (s := s) (execBandReleaseReport.eq_1 ..) hs
  refine ⟨fun hno => he.trans ?_, fun p hp hrot hserved => ?_⟩
  · congr 1
    cases hp : ((s.taken (.bandReleaseReport u served x)).holding u).path with
    | none => rfl
    | some p => exact if_neg (hno p hp)
  · obtain ⟨t, ht⟩ : ∃ t, t = (s.taken (.bandReleaseReport u served x)).releaseBands u p x := ⟨_, rfl⟩
    have hnext : exec (.bandReleaseReport u served x) s = .next t := by
      rw [he, ht]
      congr 1
      have hp' : ((s.taken (.bandReleaseReport u served x)).holding u).path = some p := hp
      split
      · next q hq =>
        obtain rfl := Option.some.inj (hp'.symm.trans hq)
        exact if_pos ⟨hrot, hserved⟩
      · next hq => exact absurd (hp'.symm.trans hq) (by simp)
    obtain ⟨hpath, hgiven, hpass, hpoint, hframe⟩ := releaseBands_spec _ u p x t ht
    obtain ⟨hsome, hnone⟩ := releasedBands_eq s p x
    replace hgiven : CellsGivenUp s t u
      ((s.bandUnion u (s.releasedBands p x) &&& ~~~(s.bandUnion u (p.ahead x))) &&& (s.holding u).owns) := hgiven
    refine ⟨t, hnext, hpath, hsome, hnone, hgiven, fun c hc hrel hahead hown => ?_, fun c hahead hown => ?_,
      fun v c hv hown => hgiven.kept v c hown fun e => absurd e hv, hpass, hpoint, hframe⟩
    · have hfree : ((s.bandUnion u (s.releasedBands p x) &&& ~~~(s.bandUnion u (p.ahead x))) &&&
          (s.holding u).owns).getLsbD c = true := by
        simp only [BitVec.getLsbD_and, BitVec.getLsbD_not, hrel, hahead, hown, hc]
        rfl
      obtain ⟨hres, howner⟩ := hgiven.left hc hfree
      refine ⟨hres, ?_⟩
      have hu := howner u (.inl rfl)
      cases hf : s.arb.owed.find? fun o => o.cell == c with
      | none => simpa [hf] using hu
      | some o =>
        refine ⟨?_, fun hne => hu.trans (by rw [hf]; exact beq_eq_false_iff_ne.mpr hne)⟩
        rw [((hgiven.2 c hc).2 o.tier).1, hfree, hf]
        simp
    · exact hgiven.kept u c hown fun _ => by simp [hahead]

end Sys2Proof.Machine

/-! SUPPORT. The standing claim of a tier (R41, R43, R46, R58) and what the arbiter takes from its neighbours. -/

namespace Sys2Proof.Machine

open Sys2Proof

/-! ### Claims -/

/-- A cell of a tier's owed set is owed to it by a claim (R43). -/
theorem owedSet_getLsbD (x : Arbiter) (t : Tier) {c : Nat} (hc : c < 64) :
    (x.owedSet t).getLsbD c = x.owed.any fun o => o.tier == t && o.cell == c := by
  unfold Arbiter.owedSet
  suffices h : ∀ (l : List OwedClaim) (acc : CellSet),
      (l.foldl (fun acc o => if o.tier = t then acc ||| cellBit o.cell else acc) acc).getLsbD c =
        (acc.getLsbD c || l.any fun o => o.tier == t && o.cell == c) by
    simpa using h x.owed 0
  intro l
  induction l with
  | nil => simp
  | cons o rest ih =>
    intro acc
    rw [List.foldl_cons, ih]
    by_cases ho : o.tier = t
    · rw [if_pos ho, with_getLsbD, List.any_cons, beq_iff_eq.mpr ho, Bool.true_and, Bool.or_assoc, decide_eq_true hc,
        Bool.true_and, ← beq_eq_decide, Bool.beq_comm]
    · simp [ho, beq_eq_false_iff_ne.mpr ho]

/-- A list without repetitions has each of its members once. -/
theorem filter_beq_of_nodup {l : List Nat} (h : l.Nodup) (c : Nat) :
    l.filter (· == c) = if c ∈ l then [c] else [] := by
  rw [List.filter_beq]
  split
  · next hm => rw [List.count_eq_one_of_mem h hm]; rfl
  · next hm => rw [List.count_eq_zero_of_not_mem hm]; rfl

theorem cellList_nodup (x : CellSet) : (cellList x).Nodup := List.nodup_range.filter _

/-- The claims on a cell after a tier has taken a standing claim: its own claim stands or is made new where the cell is
claimed and not held, and goes otherwise; the claims of the others stand (R41). -/
theorem claim_owed (x : Arbiter) (u : Tier) (claim : CellSet) (now : Clock) {c : Nat} (hc : c < 64) (held : Bool)
    (hh : held = (claim.getLsbD c && (x.takable u).getLsbD c)) :
    (x.claim u claim now).owed.filter (fun o => o.tier == u && o.cell == c) =
      (if claim.getLsbD c && !held then
        if x.owed.any fun o => o.tier == u && o.cell == c then x.owed.filter fun o => o.tier == u && o.cell == c
        else [⟨u, c, now⟩]
       else []) ∧
    (x.claim u claim now).owed.filter (fun o => o.tier != u && o.cell == c) =
      x.owed.filter fun o => o.tier != u && o.cell == c := by
  obtain ⟨hs, hhs⟩ : ∃ hs, hs = claim &&& x.takable u := ⟨_, rfl⟩
  have hbit : hs.getLsbD c = held := by rw [hhs, BitVec.getLsbD_and, hh]
  have howed : (x.claim u claim now).owed =
      (x.owed.filter fun o => o.tier != u || (claim.getLsbD o.cell && !hs.getLsbD o.cell)) ++
        (cellList (claim &&& ~~~hs &&& ~~~(x.owedSet u))).map fun d => ⟨u, d, now⟩ := by rw [hhs]; rfl
  have hfresh : c ∈ cellList (claim &&& ~~~hs &&& ~~~(x.owedSet u)) ↔
      (claim.getLsbD c && !held) = true ∧ (x.owed.any fun o => o.tier == u && o.cell == c) = false := by
    rw [mem_cellList]
    simp only [BitVec.getLsbD_and, BitVec.getLsbD_not, hbit, owedSet_getLsbD x u hc, hc, decide_true, Bool.true_and,
      Bool.and_eq_true, Bool.not_eq_true', true_and]
  rw [howed, List.filter_append, List.filter_append, List.filter_filter, List.filter_filter, List.filter_map,
    List.filter_map]
  constructor
  · have hnew : (cellList (claim &&& ~~~hs &&& ~~~(x.owedSet u))).filter
        ((fun o : OwedClaim => o.tier == u && o.cell == c) ∘ fun d => ⟨u, d, now⟩) =
        if c ∈ cellList (claim &&& ~~~hs &&& ~~~(x.owedSet u)) then [c] else [] := by
      rw [← filter_beq_of_nodup (cellList_nodup _)]
      refine List.filter_congr fun d _ => ?_
      simp
    have hold : (x.owed.filter fun o => (o.tier == u && o.cell == c) &&
        (o.tier != u || (claim.getLsbD o.cell && !hs.getLsbD o.cell))) =
        if claim.getLsbD c && !held then x.owed.filter fun o => o.tier == u && o.cell == c else [] := by
      rw [← hbit]
      split
      · next h =>
        refine List.filter_congr fun o _ => ?_
        by_cases e : o.tier = u <;> by_cases e' : o.cell = c <;> simp [e, e', h]
      · next h =>
        rw [List.filter_eq_nil_iff]
        intro o _
        by_cases e : o.tier = u <;> by_cases e' : o.cell = c <;> simp_all
    rw [hnew, hold]
    cases hcl : claim.getLsbD c && !held
    · have hno : c ∉ cellList (claim &&& ~~~hs &&& ~~~(x.owedSet u)) := fun e =>
        absurd (hcl.symm.trans (hfresh.mp e).1) (by decide)
      simp [hno]
    · cases hany : x.owed.any fun o => o.tier == u && o.cell == c
      · have hnone : (x.owed.filter fun o => o.tier == u && o.cell == c) = [] := by
          rw [List.filter_eq_nil_iff]
          simpa using hany
        simp [hfresh.mpr ⟨hcl, hany⟩, hnone]
      · have hno : c ∉ cellList (claim &&& ~~~hs &&& ~~~(x.owedSet u)) := fun e =>
          absurd (hany.symm.trans (hfresh.mp e).2) (by decide)
        simp [hno]
  · have hnew : (cellList (claim &&& ~~~hs &&& ~~~(x.owedSet u))).filter
        ((fun o : OwedClaim => o.tier != u && o.cell == c) ∘ fun d => ⟨u, d, now⟩) = [] := by
      rw [List.filter_eq_nil_iff]
      simp
    rw [hnew, List.map_nil, List.append_nil]
    refine List.filter_congr fun o _ => ?_
    by_cases e : o.tier = u <;> simp [e]

/-- The holdings of a tier with a new standing claim, before any cell is handed on. -/
def State.claimed (s : State) (u : Tier) (claim kept : CellSet) : Holding :=
  { s.holding u with standing := claim &&& s.arb.takable u, reserved := (s.holding u).reserved &&& kept }

/-- The arbiter with a new standing claim, before any cell is handed on. -/
def State.claimedArb (s : State) (u : Tier) (claim kept : CellSet) : Arbiter :=
  { s.arb.claim u claim s.clock with tiers := s.arb.tiers.set u (s.claimed u claim kept) }

/-- A new claim hands on the cells that its tier owns no longer. -/
theorem newClaim_handsOver (s : State) (u : Tier) (claim kept : CellSet) :
    (s.newClaim u claim kept).arb =
      (s.claimedArb u claim kept).handOver ((s.holding u).owns &&& ~~~(s.claimed u claim kept).owns) := by
  unfold State.newClaim State.raiseOwed State.when
  dsimp only
  rw [apply_ite State.arb]
  simp only [State.raise_arb, State.modArb_arb]
  unfold State.claimedArb State.claimed Arbiter.claim State.holding
  simp

/-- A new claim changes standing and reserved sets and the owed list alone, and may raise TIER. -/
theorem newClaim_frame (s : State) (u : Tier) (claim kept : CellSet) :
    (∀ v, (s.newClaim u claim kept).holding v = { s.holding v with
      standing := ((s.newClaim u claim kept).holding v).standing
      reserved := ((s.newClaim u claim kept).holding v).reserved }) ∧
    s.newClaim u claim kept = { s with
      arb := { s.arb with tiers := (s.newClaim u claim kept).arb.tiers, owed := (s.newClaim u claim kept).arb.owed }
      mail := (s.newClaim u claim kept).mail } := by
  have harb := newClaim_handsOver s u claim kept
  refine ⟨fun v => ?_, ?_⟩
  · have hv : (s.newClaim u claim kept).holding v = { (s.claimedArb u claim kept).tiers.get v with
        standing := ((s.newClaim u claim kept).holding v).standing } := by
      unfold State.holding
      rw [harb]
      exact ((passOwed_eq ..).2.2 v).1
    have hx : (s.claimedArb u claim kept).tiers.get v = if v = u then s.claimed u claim kept else s.holding v :=
      Eight.get_set ..
    rw [hv, hx]
    split
    · next e => rw [e]; rfl
    · rfl
  · have hsame : (s.newClaim u claim kept).arb = { s.arb with
        tiers := (s.newClaim u claim kept).arb.tiers, owed := (s.newClaim u claim kept).arb.owed } := by
      rw [harb]
      rfl
    rw [← hsame]
    exact (newClaim_arb s u claim kept).2.2

/-- Where a cell is lost, its tier claims it no longer, and the claims on it are those of the others (R43). -/
theorem claims_of_lost {l : List OwedClaim} {u : Tier} {c : Nat} (h : l.filter (fun o => o.tier == u && o.cell == c) = []) :
    l.filter (fun o => o.cell == c) = l.filter fun o => o.tier != u && o.cell == c := by
  refine List.filter_congr fun o ho => ?_
  have := List.filter_eq_nil_iff.mp h o ho
  by_cases e : o.tier = u <;> by_cases e' : o.cell = c <;> simp_all

@[simp] theorem raiseOwed_arb (s : State) (t : Tier) (before : CellSet) : (s.raiseOwed t before).arb = s.arb := by
  unfold State.raiseOwed State.when
  split <;> rfl

/-- The owed set becoming non-empty raises TIER (R43). -/
theorem mem_raiseOwed_mail {s : State} {t : Tier} {before : CellSet} (h0 : before = 0)
    (hne : (s.raiseOwed t before).arb.owedSet t ≠ 0) : Instr.latchEvent (.tier t .owed) ∈ (s.raiseOwed t before).mail := by
  rw [raiseOwed_arb] at hne
  unfold State.raiseOwed State.when
  rw [if_pos (Bool.and_eq_true .. |>.mpr ⟨beq_iff_eq.mpr h0, bne_iff_ne.mpr hne⟩)]
  simp

/-- The claim that a tier has taken is the one of `TookClaim`. -/
theorem newClaim_took (s : State) (u : Tier) (claim kept : CellSet) :
    TookClaim s (s.newClaim u claim kept) u claim kept := by
  have harb := newClaim_handsOver s u claim kept
  refine ⟨fun c hc held lost hheld hlost => ?_, fun h0 hne => ?_⟩
  · have htake : held = (claim.getLsbD c && (s.arb.takable u).getLsbD c) := by
      rw [takable_getLsbD _ _ hc]
      exact hheld
    have hfree : ((s.holding u).owns &&& ~~~(s.claimed u claim kept).owns).getLsbD c = lost := by
      rw [BitVec.getLsbD_and, BitVec.getLsbD_not, owns_getLsbD (s.claimed u claim kept)]
      simp only [State.claimed, BitVec.getLsbD_and, ← htake, hc, decide_true, Bool.true_and, Bool.not_or, hlost, Bool.and_assoc]
    obtain ⟨hmine, hothers⟩ := claim_owed s.arb u claim s.clock hc held htake
    replace hmine : (s.claimedArb u claim kept).owed.filter _ = _ := hmine
    replace hothers : (s.claimedArb u claim kept).owed.filter _ = _ := hothers
    obtain ⟨-, hfil, hget⟩ := passOwed_eq (s.claimedArb u claim kept).owed
      ((s.holding u).owns &&& ~~~(s.claimed u claim kept).owns) (s.claimedArb u claim kept).tiers
    have hclaims : (s.newClaim u claim kept).arb.owed.filter (fun o => o.cell == c) = _ :=
      (congrArg (fun x : Arbiter => x.owed.filter fun o => o.cell == c) harb).trans (hfil c)
    have hstand (v : Tier) : ((s.newClaim u claim kept).holding v).standing.getLsbD c = _ :=
      (congrArg (fun x : Arbiter => (x.tiers.get v).standing.getLsbD c) harb).trans ((hget v).2 c)
    have hres (v : Tier) : ((s.newClaim u claim kept).holding v).reserved = ((s.claimedArb u claim kept).tiers.get v).reserved :=
      (congrArg (fun x : Arbiter => (x.tiers.get v).reserved) harb).trans (congrArg Holding.reserved (hget v).1 :)
    have hx (v : Tier) : (s.claimedArb u claim kept).tiers.get v = if v = u then s.claimed u claim kept else s.holding v :=
      Eight.get_set ..
    rw [hfree] at hclaims hstand
    have hgone : lost = true → (claim.getLsbD c && !held) = false := by
      intro e
      rw [hlost, Bool.and_eq_true, Bool.and_eq_true, owns_getLsbD] at e
      obtain ⟨⟨hown, -⟩, -⟩ := e
      rw [htake, takable_getLsbD _ _ hc, owns_getLsbD]
      rw [show s.arb.tiers.get u = s.holding u from rfl, hown]
      simp
    have hnone (e : lost = true) : (s.claimedArb u claim kept).owed.filter (fun o => o.tier == u && o.cell == c) = [] := by
      rw [hmine, hgone e]
      rfl
    have hfirst (e : lost = true) : (s.claimedArb u claim kept).owed.find? (fun o => o.cell == c) =
        s.arb.owed.find? fun o => o.tier != u && o.cell == c := by
      rw [← List.head?_filter, claims_of_lost (hnone e), hothers, List.head?_filter]
    have hother (o : OwedClaim) (ho : s.arb.owed.find? (fun o => o.tier != u && o.cell == c) = some o) : o.tier ≠ u := by
      have := List.find?_some ho
      simpa using (Bool.and_eq_true .. |>.mp this).1
    refine ⟨?_, ?_, ?_, ?_, fun v hv => ⟨?_, ?_⟩⟩
    · rw [hstand, hx, if_pos rfl]
      cases lost
      · simp [State.claimed, htake]
      · rw [hfirst rfl]
        cases hf : s.arb.owed.find? fun o => o.tier != u && o.cell == c with
        | none => simp [State.claimed, htake]
        | some o => simp [State.claimed, htake, hother o hf]
    · rw [hres, hx, if_pos rfl]
      exact BitVec.getLsbD_and
    · rw [← List.filter_filter, hclaims, ← hmine]
      cases lost
      · rw [if_neg (by decide), List.filter_filter]
      · rw [if_pos rfl, hnone rfl, claims_of_lost (hnone rfl), hothers, List.filter_eq_nil_iff]
        intro o ho
        have := (List.mem_filter.mp (List.mem_of_mem_drop ho)).2
        simp_all
    · rw [← List.filter_filter, hclaims]
      cases lost
      · rw [if_neg (by decide), List.filter_filter, hothers]
        rfl
      · rw [if_pos rfl, claims_of_lost (hnone rfl), hothers, if_pos rfl, List.filter_eq_self]
        intro o ho
        have := (List.mem_filter.mp (List.mem_of_mem_drop ho)).2
        simp_all
    · rw [hstand, hx, if_neg hv]
      cases lost
      · simp
      · rw [hfirst rfl]
    · rw [hres, hx, if_neg hv]
  · exact mem_raiseOwed_mail h0 hne

/-- A claim taken is judged by the sets, the owed list, the clock and the reports alone. -/
theorem TookClaim.congr {s t s' t' : State} {u : Tier} {claim kept : CellSet} (h : TookClaim s t u claim kept)
    (hs : ∀ v, (s'.holding v).standing = (s.holding v).standing ∧ (s'.holding v).reserved = (s.holding v).reserved)
    (hsowed : s'.arb.owed = s.arb.owed) (hclock : s'.clock = s.clock)
    (ht : ∀ v, (t'.holding v).standing = (t.holding v).standing ∧ (t'.holding v).reserved = (t.holding v).reserved)
    (htowed : t'.arb.owed = t.arb.owed) (hmail : t.mail ⊆ t'.mail) : TookClaim s' t' u claim kept := by
  have howns (v : Tier) : (s'.holding v).owns = (s.holding v).owns := by
    unfold Holding.owns
    rw [(hs v).1, (hs v).2]
  have howner (c : Nat) : s'.arb.owner c = s.arb.owner c :=
    congrArg (Idx8.all.find? ·) (funext fun v => congrArg (·.getLsbD c) (howns v))
  obtain ⟨hcells, hraise⟩ := h
  refine ⟨fun c hc held lost hheld hlost => ?_, fun h0 hne => hmail (hraise ?_ ?_)⟩
  · rw [howns, howner, hsowed] at hheld
    rw [howns, (hs u).2] at hlost
    obtain ⟨h1, h2, h3, h4, h5⟩ := hcells c hc held lost hheld hlost
    rw [(ht u).1, (ht u).2, (hs u).2, htowed, hsowed, hclock]
    refine ⟨h1, h2, h3, h4, fun v hv => ?_⟩
    rw [(ht v).1, (ht v).2, (hs v).1, (hs v).2]
    exact h5 v hv
  · unfold Arbiter.owedSet at h0 ⊢
    rwa [hsowed] at h0
  · unfold Arbiter.owedSet at hne ⊢
    rwa [htowed] at hne

/-- The cells of a tier's standing band, none where it has no standing band. -/
def State.standingBand (s : State) (u : Tier) : CellSet :=
  match (s.holding u).band with
  | some d => s.bandCells u d
  | none => 0

/-- The band part of a claim: under a ROTATE it leaves out what progressive release has given back (R56). -/
theorem bandClaim_eq (s : State) (u : Tier) :
    s.bandClaim u =
      if (s.holding u).path.any (·.rotate) then s.standingBand u &&& ((s.holding u).standing ||| s.arb.owedSet u)
      else s.standingBand u := by
  unfold State.bandClaim State.standingBand
  cases hb : (s.holding u).band <;> cases hp : (s.holding u).path <;> simp [hb, hp]

/-! ### Stowed changes -/

/-- What a stowed change leaves, of a tier that is present where the mode is RUN. -/
theorem stowedAtArbiter_spec (s : State) (u : Tier) (b : Bool) (hrun : ¬(s.auth.mode = .run ∧ (s.tier u).present = false))
    (t : State) (ht : t = s.stowedAtArbiter u b) :
    (t.holding u).stowed = b ∧ t.arb.passRequested = true ∧ (t.holding u).band = (s.holding u).band ∧
    (t.holding u).path = (s.holding u).path ∧ (∀ v, (t.holding v).demand = (s.holding v).demand) ∧
    (s.auth.mode = .run →
      TookClaim s t u
        ((if (s.holding u).path.any (·.rotate) then s.standingBand u &&& ((s.holding u).standing ||| s.arb.owedSet u)
          else s.standingBand u) ||| (if b then 0 else s.raisedSet u))
        (s.holding u).reserved) ∧
    (s.auth.mode = .setup → t.arb.owed = s.arb.owed ∧ ∀ v, (t.holding v).owns = (s.holding v).owns) ∧
    t = { s with
      arb := { s.arb with tiers := t.arb.tiers, owed := t.arb.owed, passRequested := true }, mail := t.mail } := by
  obtain ⟨s1, hs1⟩ : ∃ s1, s1 = s.modHolding u fun h => { h with stowed := b } := ⟨_, rfl⟩
  have h1 (v : Tier) : s1.holding v = if v = u then { s.holding u with stowed := b } else s.holding v := by
    rw [hs1, State.modHolding_holding]
  have hsets (v : Tier) : (s1.holding v).standing = (s.holding v).standing ∧
      (s1.holding v).reserved = (s.holding v).reserved ∧ (s1.holding v).demand = (s.holding v).demand := by
    rw [h1]
    split
    · next e => rw [e]; exact ⟨rfl, rfl, rfl⟩
    · exact ⟨rfl, rfl, rfl⟩
  have hpass (x : State) : (∀ v, x.requestPass.holding v = x.holding v) ∧ x.requestPass.arb.owed = x.arb.owed ∧
      x.requestPass.arb.passRequested = true := by
    rw [requestPass_eq]
    exact ⟨fun _ => rfl, rfl, rfl⟩
  cases hmode : s.auth.mode with
  | setup =>
    have hset : s.inRun = false := by rw [State.inRun, hmode]; rfl
    have hts : t = s1.requestPass := by
      rw [ht, hs1]
      unfold State.stowedAtArbiter
      rw [hset]
      rfl
    obtain ⟨hhold, howed, hp⟩ := hpass s1
    rw [hts, howed]
    simp only [hhold]
    refine ⟨by rw [h1, if_pos rfl], hp, by rw [h1, if_pos rfl], by rw [h1, if_pos rfl], fun v => (hsets v).2.2,
      nofun, fun _ => ⟨by rw [hs1]; rfl, fun v => ?_⟩, ?_⟩
    · unfold Holding.owns
      rw [(hsets v).1, (hsets v).2.1]
    · rw [requestPass_eq, hs1]
      rfl
  | run =>
    have hset : s.inRun = true := by rw [State.inRun, hmode]; rfl
    have hpresent : (s.tier u).present = true := by
      simpa using fun e => hrun ⟨hmode, e⟩
    obtain ⟨y, hy⟩ : ∃ y, y = s1.newClaim u (s1.bandClaim u ||| (if b then 0 else s1.raisedSet u)) (s1.holding u).reserved :=
      ⟨_, rfl⟩
    have hts : t = y.requestPass := by
      rw [ht, hy, hs1]
      unfold State.stowedAtArbiter
      rw [hset, hpresent]
      rfl
    obtain ⟨hhold, howed, hp⟩ := hpass y
    obtain ⟨hyhold, hyframe⟩ := newClaim_frame s1 u (s1.bandClaim u ||| (if b then 0 else s1.raisedSet u)) (s1.holding u).reserved
    rw [← hy] at hyhold hyframe
    have htook := newClaim_took s1 u (s1.bandClaim u ||| (if b then 0 else s1.raisedSet u)) (s1.holding u).reserved
    have hclaim : s1.bandClaim u = if (s.holding u).path.any (·.rotate) then
        s.standingBand u &&& ((s.holding u).standing ||| s.arb.owedSet u) else s.standingBand u := by
      rw [bandClaim_eq]
      have hband : s1.standingBand u = s.standingBand u := by
        unfold State.standingBand
        rw [h1, if_pos rfl, hs1]
        rfl
      rw [hband, h1, if_pos rfl, hs1]
      rfl
    rw [← hy, hclaim, (hsets u).2.1, show s1.raisedSet u = s.raisedSet u by rw [hs1]; rfl] at htook
    rw [hts]
    simp only [hhold]
    refine ⟨by rw [hyhold, h1, if_pos rfl], hp, by rw [hyhold, h1, if_pos rfl], by rw [hyhold, h1, if_pos rfl],
      fun v => by rw [hyhold]; exact (hsets v).2.2, fun _ => ?_, nofun, ?_⟩
    · refine htook.congr (fun v => ⟨(hsets v).1.symm, (hsets v).2.1.symm⟩) (by rw [hs1]; rfl) (by rw [hs1]; rfl)
        (fun v => by rw [hhold]; exact ⟨rfl, rfl⟩) howed fun _ => mem_requestPass_mail
    · rw [requestPass_eq, hyframe, hs1]
      rfl

/-! ### The end of a move -/

/-- The standing band after the end of a move that had a path (R58). -/
theorem bandAfter_of_path (s : State) (u : Tier) (o : MoveOutcome) (entered : Bool) (x : Int) (p : Path)
    (hp : (s.holding u).path = some p) : s.bandAfter u o entered x =
      match o with
      | .done =>
        if p.rotate then some p.g
        else if (s.axis ⟨u, .R⟩).valid then some (bandOf x)
        else some (clampBand p.s p.g (bandOf x))
      | .failed => if entered then some (clampBand p.s p.g (bandOf x)) else (s.holding u).band
      | .aborted | .cancelled => some (clampBand p.s p.g (bandOf x)) := by
  unfold State.bandAfter
  cases o <;> simp [hp]

theorem bandAfter_of_no_path (s : State) (u : Tier) (o : MoveOutcome) (entered : Bool) (x : Int)
    (hp : (s.holding u).path = none) : s.bandAfter u o entered x = (s.holding u).band := by
  unfold State.bandAfter
  simp [hp]

theorem requestPass_axis (s : State) (a : Axis) : s.requestPass.axis a = s.axis a := by
  rw [requestPass_eq]
  rfl

/-- The move's figures dropped at the arbiter, its release point at tR, and a pass asked for (R58). -/
def State.dropMove (s : State) (u : Tier) : State :=
  ((s.modHolding u fun h => { h with reserved := 0, demand := 0, active := false, path := none }).modAxis ⟨u, .R⟩
    fun x => { x with release := none }).requestPass

theorem dropMove_spec (s : State) (u : Tier) :
    (∀ v, (s.dropMove u).holding v =
      if v = u then { s.holding u with reserved := 0, demand := 0, active := false, path := none } else s.holding v) ∧
    (s.dropMove u).arb.owed = s.arb.owed ∧ ((s.dropMove u).axis ⟨u, .R⟩).release = none ∧ s.mail ⊆ (s.dropMove u).mail ∧
    s.dropMove u = { s with
      arb := { s.arb with tiers := (s.dropMove u).arb.tiers, passRequested := true }, axes := (s.dropMove u).axes
      mail := (s.dropMove u).mail } := by
  unfold State.dropMove
  refine ⟨fun v => ?_, ?_, ?_, fun _ h => mem_requestPass_mail h, ?_⟩
  · rw [requestPass_eq]
    exact Eight.get_set ..
  · rw [requestPass_eq]
    rfl
  · rw [requestPass_axis, State.modAxis_axis, if_pos rfl]
  · rw [requestPass_eq]
    rfl

/-- What the end of a move leaves in RUN, of a present tier. -/
theorem settleEndOfMove_run (s : State) (u : Tier) (o : MoveOutcome) (entered : Bool) (x : Int) (hmode : s.auth.mode = .run)
    (hpresent : (s.tier u).present = true) (t : State) (ht : t = s.settleEndOfMove u o entered x) :
    ∃ y, t = y.dropMove u ∧ (y.holding u).band = s.bandAfter u o entered x ∧ y.axes = s.axes ∧
      TookClaim s y u
        ((match s.bandAfter u o entered x with | some d => s.bandCells u d | none => 0) |||
          (if (s.holding u).stowed then 0 else s.raisedSet u)) 0 ∧
      (y.holding u).reserved = 0 ∧
      y = { s with arb := { s.arb with tiers := y.arb.tiers, owed := y.arb.owed }, mail := y.mail } := by
  have hset : s.inRun = true := by rw [State.inRun, hmode]; rfl
  obtain ⟨s1, hs1⟩ : ∃ s1, s1 = s.modHolding u fun h => { h with band := s.bandAfter u o entered x, path := none } := ⟨_, rfl⟩
  have h1 (v : Tier) : s1.holding v =
      if v = u then { s.holding u with band := s.bandAfter u o entered x, path := none } else s.holding v := by
    rw [hs1, State.modHolding_holding]
  obtain ⟨claim, hclaim⟩ : ∃ claim, claim = s1.bandClaim u ||| (if (s.holding u).stowed then 0 else s1.raisedSet u) := ⟨_, rfl⟩
  obtain ⟨hyhold, hyframe⟩ := newClaim_frame s1 u claim 0
  have htook := newClaim_took s1 u claim 0
  have hbits : claim = (match s.bandAfter u o entered x with | some d => s.bandCells u d | none => 0) |||
      (if (s.holding u).stowed then 0 else s.raisedSet u) := by
    rw [hclaim, bandClaim_eq, h1, if_pos rfl]
    unfold State.standingBand
    rw [h1, if_pos rfl, hs1]
    rfl
  refine ⟨s1.newClaim u claim 0, ?_, ?_, ?_, ?_, ?_, ?_⟩
  · rw [ht, hclaim, hs1]
    unfold State.settleEndOfMove
    rw [hset, hpresent]
    rfl
  · rw [hyhold, h1, if_pos rfl]
  · rw [hyframe, hs1]
    rfl
  · rw [← hbits]
    refine htook.congr (fun v => ?_) (by rw [hs1]; rfl) (by rw [hs1]; rfl) (fun v => ⟨rfl, rfl⟩) rfl fun _ => id
    rw [h1]
    split
    · next e => rw [e]; exact ⟨rfl, rfl⟩
    · exact ⟨rfl, rfl⟩
  · refine BitVec.eq_of_getLsbD_eq fun c hc => ?_
    rw [(htook.1 c hc _ _ rfl rfl).2.1]
    simp
  · rw [hyframe, hs1]
    rfl

/-- What the end of a move leaves where the map does not follow it: in SETUP, and of a tier that is not present. -/
theorem settleEndOfMove_off (s : State) (u : Tier) (o : MoveOutcome) (entered : Bool) (x : Int)
    (h : s.auth.mode = .setup ∨ (s.tier u).present = false) : s.settleEndOfMove u o entered x = s.dropMove u := by
  unfold State.settleEndOfMove State.inRun
  obtain h | h := h <;> simp [h] <;> rfl

/-- What the end of a move leaves at the arbiter (R58). -/
theorem settleEndOfMove_spec (s : State) (u : Tier) (o : MoveOutcome) (entered : Bool) (x : Int) (t : State)
    (ht : t = s.settleEndOfMove u o entered x) :
    ((t.holding u).reserved = 0 ∧ (t.holding u).demand = 0 ∧
      (t.holding u).active = false ∧ (t.holding u).path = none ∧ (t.axis ⟨u, .R⟩).release = none ∧
      t.arb.passRequested = true) ∧
    (s.auth.mode = .run → (s.tier u).present = true → (t.holding u).band = s.bandAfter u o entered x ∧
      TookClaim s t u
        ((match (t.holding u).band with | some d => s.bandCells u d | none => 0) |||
          (if (s.holding u).stowed then 0 else s.raisedSet u)) 0) ∧
    (s.auth.mode = .setup ∨ (s.tier u).present = false →
      t.arb.owed = s.arb.owed ∧ (t.holding u).band = (s.holding u).band ∧
      (∀ v, (t.holding v).standing = (s.holding v).standing) ∧ ∀ v, v ≠ u → t.holding v = s.holding v) ∧
    t = { s with
      arb := { s.arb with tiers := t.arb.tiers, owed := t.arb.owed, passRequested := true }, axes := t.axes
      mail := t.mail } := by
  have dropped (y : State) (h : t = y.dropMove u) : (t.holding u).reserved = 0 ∧ (t.holding u).demand = 0 ∧
      (t.holding u).active = false ∧ (t.holding u).path = none ∧ (t.axis ⟨u, .R⟩).release = none ∧
      t.arb.passRequested = true := by
    obtain ⟨hhold, -, hpoint, -, hframe⟩ := dropMove_spec y u
    rw [h, hhold, if_pos rfl]
    exact ⟨rfl, rfl, rfl, rfl, hpoint, congrArg (·.arb.passRequested) hframe⟩
  by_cases hrun : s.auth.mode = .run ∧ (s.tier u).present = true
  · obtain ⟨y, hty, hband, haxes, htook, hres, hframe⟩ := settleEndOfMove_run s u o entered x hrun.1 hrun.2 t ht
    obtain ⟨hhold, howed, -, hmail, hdframe⟩ := dropMove_spec y u
    refine ⟨dropped y hty, fun _ _ => ?_, fun h => ?_, ?_⟩
    · have hb : (t.holding u).band = s.bandAfter u o entered x := by rw [hty, hhold, if_pos rfl, hband]
      rw [hb]
      refine ⟨rfl, htook.congr (fun v => ⟨rfl, rfl⟩) rfl rfl (fun v => ?_) (by rw [hty, howed]) (by rw [hty]; exact hmail)⟩
      rw [hty, hhold]
      split
      · next e => rw [e]; exact ⟨rfl, hres.symm⟩
      · exact ⟨rfl, rfl⟩
    · obtain h | h := h
      · exact absurd (hrun.1.symm.trans h) (by decide)
      · exact absurd (hrun.2.symm.trans h) (by decide)
    · rw [hty, hdframe, hframe]
  · have hoff : s.auth.mode = .setup ∨ (s.tier u).present = false := by
      cases hm : s.auth.mode
      · exact .inl rfl
      · exact .inr (by simpa [hm] using hrun)
    rw [settleEndOfMove_off s u o entered x hoff] at ht
    obtain ⟨hhold, howed, -, hmail, hdframe⟩ := dropMove_spec s u
    refine ⟨dropped s ht, fun hm hp => absurd ⟨hm, hp⟩ hrun, fun _ => ⟨?_, ?_, fun v => ?_, fun v hv => ?_⟩, ?_⟩
    · rw [ht, howed]
    · rw [ht, hhold, if_pos rfl]
    · rw [ht, hhold]
      split
      · next e => rw [e]
      · rfl
    · rw [ht, hhold, if_neg hv]
    · rw [ht, hdframe]

/-! ### A trip -/

theorem tripArbiter_spec (s : State) :
    s.tripArbiter.arb.committed = 0 ∧ (∀ u, s.tripArbiter.holding u = { s.holding u with demand := 0 }) ∧
    (s.arb.committed ≠ 0 → s.tripArbiter.arb.passRequested = true) ∧
    (s.arb.committed = 0 → s.tripArbiter.arb.passRequested = s.arb.passRequested) ∧
    s.tripArbiter = { s with
      arb := { s.arb with tiers := s.tripArbiter.arb.tiers, passRequested := s.tripArbiter.arb.passRequested }
      mail := s.tripArbiter.mail } := by
  refine ⟨?_, tripArbiter_holding s, fun h => ?_, fun h => ?_, ?_⟩
  · have hzero (u : Tier) : (s.tripArbiter.arb.tiers.get u).demand = 0 := congrArg Holding.demand (tripArbiter_holding s u)
    simp [Arbiter.committed, hzero]
  all_goals unfold State.tripArbiter State.when
  · rw [if_pos (bne_iff_ne.mpr h)]
    exact requestPass_passRequested _
  · rw [if_neg (by simp [h])]
    rfl
  · split
    · rw [requestPass_eq]
      rfl
    · rfl

/-- Settles O43: each of the three reports is a new claim, figures dropped, or demands dropped. -/
theorem arbiterFollowsStowedEndsAndTrips : Obligations.ArbiterFollowsStowedEndsAndTrips := by
  intro s hs
  refine ⟨fun u b => ?_, fun u o entered x => ?_, ?_⟩
  · have he := exec_live (.stowedChangeReport u b) (s := s) (execStowedChangeReport.eq_1 ..) hs
    refine ⟨_, he, ?_⟩
    split
    · next h =>
      unfold State.stowedAtArbiter
      have hset : (s.taken (.stowedChangeReport u b)).inRun = true := (inRun_iff _).mpr h.1
      simp [hset, h.2]
    · next h =>
      obtain ⟨h1, h2, h3, h4, h5, h6, h7, h8⟩ :=
        stowedAtArbiter_spec (s.taken (.stowedChangeReport u b)) u b h _ rfl
      refine ⟨h1, h2, h3, h4, h5, fun hm band hband => ?_, h7, h8⟩
      rw [hband]
      exact h6 hm
  · have he := exec_live (.moveEndAtArbiter u o entered x) (s := s) (execMoveEndAtArbiter.eq_1 ..) hs
    obtain ⟨⟨h1, h2, h3, h4, h5, h6⟩, hrun, hoff, hframe⟩ :=
      settleEndOfMove_spec (s.taken (.moveEndAtArbiter u o entered x)) u o entered x _ rfl
    refine ⟨_, he, h1, h2, h3, h4, h5, h6, fun p hp hm hpr => ?_, fun hp => ?_, fun hm hpr => (hrun hm hpr).2,
      fun h => ?_, hframe⟩
    · rw [(hrun hm hpr).1]
      exact bandAfter_of_path _ u o entered x p hp
    · by_cases h : s.auth.mode = .run ∧ (s.tier u).present = true
      · rw [(hrun h.1 h.2).1]
        exact bandAfter_of_no_path _ u o entered x hp
      · refine (hoff ?_).2.1
        change s.auth.mode = .setup ∨ (s.tier u).present = false
        cases hm : s.auth.mode
        · exact .inl rfl
        · exact .inr (by simpa [hm] using h)
    · obtain ⟨h1, -, h2, h3⟩ := hoff h
      exact ⟨h1, h2, h3⟩
  · exact ⟨_, exec_live .arbiterTripReport (execArbiterTripReport.eq_1 ..) hs, tripArbiter_spec _⟩

end Sys2Proof.Machine

/-! SUPPORT. What each operation of a sequencer leaves in its own record and what it sends (R70 to R81, R84, R85). -/

namespace Sys2Proof.Machine

open Sys2Proof

/-! ### The steps that sequencer operations are made of -/

/-- From `x` to `t` the sequencer of tier `u` has told what it now has to tell, and nothing else differs. -/
def SeqTold (x t : State) (u : Tier) : Prop :=
  t.seq u = told (x.seq u) ∧ t = { x with seqs := t.seqs, mail := t.mail } ∧ ∀ m ∈ x.mail, m ∈ t.mail

theorem seqReport_told (x : State) (u : Tier) : SeqTold x (x.seqReport u) u := by
  obtain ⟨hq, -, hf, hm⟩ := seqReport_eq x u
  exact ⟨hq, hf, hm⟩

/-- A report or an order that a sequencer takes, with the reports of its tier. -/
theorem exec_seq (c : Instr) {s x : State} {u : Tier} {f : State → State} (he : exec c s = live c f s)
    (hs : s.held = false) (hf : f (s.taken c) = x.seqReport u) (hx : SeqActs u (s.taken c) x) :
    ∃ t, exec c s = .next t ∧ TouchesOnlySeq s t u ∧ SeqTold x t u :=
  ⟨_, (exec_live c he hs).trans (congrArg _ hf), hx.seqReport.touches, seqReport_told x u⟩

theorem turns_of_slot {q : Seq} {a : Active} (h : q.slot = some a) : q.turns = (a.move.goal.kind == .rotate) := by
  unfold Seq.turns
  rw [h]

theorem turns_of_jog {q : Seq} {j : Jog} (hs : q.slot = none) (hj : q.jog = some j) :
    q.turns = (j.target == .rotation) := by
  unfold Seq.turns
  rw [hs, hj]

theorem modActive_seq {s : State} {u : Tier} {a : Active} (h : (s.seq u).slot = some a) (f : Active → Active) :
    (s.modActive u f).seq u = { s.seq u with slot := some (f a) } := by
  rw [modActive_eq, modSeq_seq_self, h]
  rfl

theorem modJog_seq {s : State} {u : Tier} {j : Jog} (h : (s.seq u).jog = some j) (f : Jog → Jog) :
    (s.modJog u f).seq u = { s.seq u with jog := some (f j) } := by
  rw [State.modJog, modSeq_seq_self, h]
  rfl

theorem modSeq_same {s : State} {u : Tier} {f : Seq → Seq} (h : f (s.seq u) = s.seq u) : s.modSeq u f = s := by
  unfold State.modSeq
  rw [show f (s.seqs.get u) = s.seqs.get u from h, Eight.set_get]

/-! ### Brakes and stops -/

/-- The order that releases the brakes of what a sequencer holds. -/
def releaseOrder (u : Tier) (turning : Bool) (served : Served) : Instr :=
  if turning then .brakeReleaseOrder ⟨u, .R⟩ served else .pairReleaseOrder u served

theorem releaseBrakes_eq (s : State) (u : Tier) (served : Served) :
    s.releaseBrakes u served =
      (s.emit (releaseOrder u (s.seq u).turns served)).modSeq u fun q => { q with braked := false } := by
  unfold State.releaseBrakes releaseOrder
  dsimp only
  split <;> rfl

theorem releaseBrakes_seq (s : State) (u : Tier) (served : Served) :
    (s.releaseBrakes u served).seq u = { s.seq u with braked := false } := by
  rw [releaseBrakes_eq, modSeq_seq_self]
  rfl

theorem mem_releaseBrakes (s : State) (u : Tier) (served : Served) :
    releaseOrder u (s.seq u).turns served ∈ (s.releaseBrakes u served).mail := by
  rw [releaseBrakes_eq]
  simp

theorem applyBrakes_seq (s : State) (u : Tier) : (s.applyBrakes u).seq u = { s.seq u with braked := true } := by
  cases hb : (s.seq u).braked
  · rw [applyBrakes_of_released s u hb, modSeq_seq_self]
    rfl
  · rw [applyBrakes_of_braked s u hb, ← hb]

theorem orderStop_seq (s : State) (u : Tier) (rate : StopRate) : (s.orderStop u rate).seq u = s.seq u := by
  rw [orderStop_eq]
  rfl

theorem mem_orderStop (s : State) (u : Tier) (rate : StopRate) :
    (if (s.seq u).turns then Instr.stopOrder u rate else .pairStopOrder u rate) ∈ (s.orderStop u rate).mail := by
  rw [orderStop_eq]
  simp

/-! ### Ends and causes -/

/-- The sequencer of a tier whose active move `a` has ended (R66, R68). -/
def Seq.ended (q : Seq) (a : Active) : Seq :=
  { q with
    slot := none
    ending := q.ending ++ [⟨a.move, a.stage⟩]
    pendingStation :=
      if a.stage = .engageLock ∧ q.transition = some .engage then
        (match a.move.goal with | .rotate n => some n | .tilt _ => none)
      else q.pendingStation }

theorem endMove_seq {s : State} {u : Tier} {a : Active} (h : (s.seq u).slot = some a) (o : MoveOutcome) (r : Reason) :
    (s.endMove u o r).seq u = (s.seq u).ended a := by
  unfold State.endMove
  rw [h]
  dsimp only
  cases ho : a.move.origin
  · rw [State.emitAll_seq]
    exact modSeq_seq_self ..
  · rw [State.emit_seq, State.emitAll_seq]
    exact modSeq_seq_self ..

theorem endMove_of_none {s : State} {u : Tier} (h : (s.seq u).slot = none) (o : MoveOutcome) (r : Reason) :
    s.endMove u o r = s := by
  unfold State.endMove
  rw [h]

theorem endJog_seq (s : State) (u : Tier) : (s.endJog u).seq u = { s.seq u with jog := none } := by
  rw [endJog_eq]
  simp [State.seq]

/-- The end of a move is read from the record, the position of tR and the reports alone. -/
theorem MoveEnded.congr {s t s' t' : State} {u : Tier} {a : Active} {o : MoveOutcome} {r : Reason}
    (h : MoveEnded s t u a o r) (hseq : (s'.seq u).ending = (s.seq u).ending) (hpos : (s'.axis ⟨u, .R⟩).position = (s.axis ⟨u, .R⟩).position)
    (hslot : (t'.seq u).slot = (t.seq u).slot) (hend : (t'.seq u).ending = (t.seq u).ending)
    (hmail : ∀ m ∈ t.mail, m ∈ t'.mail) : MoveEnded s' t' u a o r := by
  obtain ⟨h1, h2, h3, h4, h5⟩ := h
  unfold MoveEnded
  rw [hslot, hend, hseq, hpos]
  exact ⟨h1, h2, hmail _ h3, hmail _ h4, fun p k hp => hmail _ (h5 p k hp)⟩

theorem MoveEnded.told {s x t : State} {u : Tier} {a : Active} {o : MoveOutcome} {r : Reason}
    (h : MoveEnded s x u a o r) (ht : SeqTold x t u) : MoveEnded s t u a o r :=
  h.congr rfl rfl (by rw [ht.1]; rfl) (by rw [ht.1]; rfl) ht.2.2

/-- Ending a move that operations of its sequencer have led to its end. -/
theorem endMove_ended {s x : State} {u : Tier} {a : Active} (h : SeqActs u s x) (hslot : (x.seq u).slot = some a)
    (hend : (x.seq u).ending = (s.seq u).ending) (o : MoveOutcome) (r : Reason) :
    MoveEnded s (x.endMove u o r) u a o r :=
  (endMove_ends x u a o r hslot).1.congr hend.symm (by rw [h.touches.2]; rfl) rfl rfl fun _ => id

theorem losePosture_seq {s : State} {u : Tier} {a : Active} (h : (s.seq u).slot = some a) (k : Kind) (r : Reason) :
    (s.losePosture u k r).seq u =
      { s.seq u with slot := some { a with fixedEnd := some (a.fixedEnd.getD (.aborted, r)) } } := by
  unfold State.losePosture
  rw [h]
  exact modActive_seq h _

theorem mem_losePosture {s : State} {u : Tier} {a : Active} (h : (s.seq u).slot = some a) (k : Kind) (r : Reason) :
    Instr.causeReport ⟨k, some u, none, .move a.move.number, none, none, none⟩ ∈ (s.losePosture u k r).mail := by
  unfold State.losePosture
  rw [h]
  simp

/-- A tier cause inhibits a present tier that has no inhibit (R77). -/
theorem tierCause_seq (s : State) (u : Tier) (k : TierCause) :
    (s.tierCause u k).seq u = { s.seq u with
      inhibit := if (s.tier u).present then some ((s.seq u).inhibit.getD k) else (s.seq u).inhibit } := by
  cases hp : (s.tier u).present
  · unfold State.tierCause
    rw [hp]
    rfl
  · rw [(tierCause_spec hp k).2.2.2.1]
    cases hi : (s.seq u).inhibit <;> simp

theorem mem_tierCause {s : State} {u : Tier} (hp : (s.tier u).present = true) (k : TierCause) :
    Instr.tierCauseReport u k ((s.seq u).slot.map (·.move.number)) ∈ (s.tierCause u k).mail :=
  (tierCause_spec hp k).2.2.2.2.1

/-! ### LIFT_BRAKE and TRAVEL -/

/-- A move whose posture holds enters LIFT_BRAKE with its brakes released (R71). -/
theorem enterLift_lifts {s : State} {u : Tier} {a : Active} (h : (s.seq u).slot = some a)
    (hposture : match a.move.goal with
      | .rotate _ => (s.pair u).toldStowed = true
      | .tilt _ => (s.seq u).lockState = .engaged) :
    (s.enterLift u).seq u = { s.seq u with slot := some { a with stage := .liftBrake, context := none }, braked := false } ∧
      releaseOrder u (a.move.goal.kind == .rotate) (.move a.move.number) ∈ (s.enterLift u).mail := by
  obtain ⟨x, hx⟩ : ∃ x, x = s.modActive u fun a => { a with stage := .liftBrake, context := none } := ⟨_, rfl⟩
  have hq : x.seq u = { s.seq u with slot := some { a with stage := .liftBrake, context := none } } := by
    rw [hx]
    exact modActive_seq h _
  have e : s.enterLift u = x.releaseBrakes u (.move a.move.number) := by
    unfold State.enterLift
    rw [h]
    dsimp only
    rw [← hx]
    cases hg : a.move.goal with
    | rotate n =>
      rw [hg] at hposture
      exact if_pos hposture
    | tilt n =>
      rw [hg] at hposture
      exact if_pos hposture
  have hturns : (x.seq u).turns = (a.move.goal.kind == .rotate) :=
    turns_of_slot (a := { a with stage := .liftBrake, context := none }) (by rw [hq])
  rw [e]
  refine ⟨by rw [releaseBrakes_seq, hq], ?_⟩
  rw [← hturns]
  exact mem_releaseBrakes ..

/-- A jog that may begin to move enters LIFT_BRAKE with its brakes released (R85). -/
theorem jogLift_lifts {s : State} {u : Tier} {j : Jog} (hs : (s.seq u).slot = none) (hj : (s.seq u).jog = some j)
    (hposture : j.target = .rotation → (s.pair u).toldStowed = true) :
    (s.jogLift u).seq u = { s.seq u with jog := some { j with stage := .liftBrake }, braked := false } ∧
      releaseOrder u (j.target == .rotation) .jog ∈ (s.jogLift u).mail ∧ (s.jogLift u).man = s.man := by
  obtain ⟨x, hx⟩ : ∃ x, x = s.modJog u fun j => { j with stage := .liftBrake } := ⟨_, rfl⟩
  have hq : x.seq u = { s.seq u with jog := some { j with stage := .liftBrake } } := by
    rw [hx]
    exact modJog_seq hj _
  have e : s.jogLift u = x.releaseBrakes u .jog := by
    unfold State.jogLift
    rw [hj, hx]
    refine if_neg ?_
    rintro ⟨hr, hn⟩
    simp [hposture hr] at hn
  have hturns : (x.seq u).turns = (j.target == .rotation) := 
    turns_of_jog (j := { j with stage := .liftBrake }) (by rw [hq]; exact hs) (by rw [hq])
  rw [e]
  refine ⟨by rw [releaseBrakes_seq, hq], ?_, by rw [releaseBrakes_eq, hx]; rfl⟩
  rw [← hturns]
  exact mem_releaseBrakes ..

/-! ### HALTING and SET_BRAKE -/

theorem haltMove_halts {s : State} {u : Tier} {a : Active} (h : (s.seq u).slot = some a) (e : MoveOutcome × Reason) :
    (s.haltMove u e).seq u =
        { s.seq u with slot := some { a with stage := .halting, context := none, fixedEnd := some e } } ∧
      (if a.move.goal.kind = .rotate then Instr.stopOrder u .aqs else Instr.pairStopOrder u .aqs) ∈ (s.haltMove u e).mail := by
  obtain ⟨x, hx⟩ : ∃ x, x = s.modActive u fun a => { a with stage := .halting, context := none, fixedEnd := some e } := ⟨_, rfl⟩
  have hq : x.seq u = { s.seq u with slot := some { a with stage := .halting, context := none, fixedEnd := some e } } := by
    rw [hx]
    exact modActive_seq h _
  have hturns : (x.seq u).turns = (a.move.goal.kind == .rotate) :=
    turns_of_slot (a := { a with stage := .halting, context := none, fixedEnd := some e }) (by rw [hq])
  have hm := mem_orderStop x u .aqs
  rw [hturns] at hm
  unfold State.haltMove
  rw [← hx]
  exact ⟨(orderStop_seq ..).trans hq, by simpa using hm⟩

theorem haltJog_of_none {s : State} {u : Tier} (h : (s.seq u).jog = none) (c : JogEnd) : s.haltJog u c = s := by
  unfold State.haltJog
  rw [h]

end Sys2Proof.Machine

/-! SUPPORT. The stop manager's orders at a sequencer (R79 to R81, R83, R86). -/

namespace Sys2Proof.Machine

open Sys2Proof

/-! ### Hold -/

/-- What a hold order makes of the sequencer of a tier with an active move (R79). -/
def Seq.heldWith (q : Seq) (a : Active) : Seq :=
  match a.stage with
  | .withdrawLock => { q with slot := some { a with stage := .suspended, context := some .withdrawLock } }
  | .liftBrake => { q with slot := some { a with stage := .suspended, context := some .liftBrake }, braked := true }
  | .travel => { q with slot := some { a with stage := .suspending, context := some .travel } }
  | .settle => { q with slot := some { a with stage := .suspending, context := some .settle } }
  | .setBrake | .engageLock | .suspending | .halting | .suspended => q

/-- A move changed and ordered to stop. -/
theorem moveStops {s : State} {u : Tier} {a : Active} (h : (s.seq u).slot = some a) (f : Active → Active) (rate : StopRate)
    (hf : (f a).move = a.move) :
    ((s.modActive u f).orderStop u rate).seq u = { s.seq u with slot := some (f a) } ∧
      (if a.move.goal.kind = .rotate then Instr.stopOrder u rate else Instr.pairStopOrder u rate) ∈
        ((s.modActive u f).orderStop u rate).mail := by
  have hq := modActive_seq h f
  have hturns : ((s.modActive u f).seq u).turns = (a.move.goal.kind == .rotate) := by
    rw [turns_of_slot (a := f a) (by rw [hq]), hf]
  have hm := mem_orderStop (s.modActive u f) u rate
  rw [hturns] at hm
  exact ⟨(orderStop_seq ..).trans hq, by simpa using hm⟩

/-- A hold order meets the active move by its stage (R79). -/
theorem holdMove_meets {s : State} {u : Tier} {a : Active} (h : (s.seq u).slot = some a) :
    (s.holdMove u).seq u = (s.seq u).heldWith a ∧
      (a.stage = .travel ∨ a.stage = .settle →
        (if a.move.goal.kind = .rotate then Instr.stopOrder u .a else Instr.pairStopOrder u .a) ∈ (s.holdMove u).mail) := by
  unfold State.holdMove Seq.heldWith
  rw [h]
  dsimp only
  cases hst : a.stage <;> dsimp only
  case withdrawLock => exact ⟨modActive_seq h _, fun h => by simp at h⟩
  case liftBrake =>
    refine ⟨?_, fun h => by simp at h⟩
    rw [modActive_seq (a := a) (by rw [applyBrakes_seq]; exact h), applyBrakes_seq]
  case travel =>
    obtain ⟨hq, hm⟩ := moveStops h (fun a => { a with stage := .suspending, context := some .travel }) .a rfl
    exact ⟨hq, fun _ => hm⟩
  case settle =>
    obtain ⟨hq, hm⟩ := moveStops h (fun a => { a with stage := .suspending, context := some .settle }) .a rfl
    exact ⟨hq, fun _ => hm⟩
  all_goals exact ⟨rfl, fun h => by simp at h⟩

theorem holdMove_of_none {s : State} {u : Tier} (h : (s.seq u).slot = none) : s.holdMove u = s := by
  unfold State.holdMove
  rw [h]

/-! ### Quick stop and trip -/

theorem quickMove_of_none {s : State} {u : Tier} (h : (s.seq u).slot = none) : s.quickMove u = s := by
  unfold State.quickMove
  rw [h]

/-- A quick-stop order meets the active move by its stage (R80). -/
theorem quickMove_meets {s : State} {u : Tier} {a : Active} (h : (s.seq u).slot = some a) :
    match a.stage with
    | .travel | .settle | .suspending =>
      (s.quickMove u).seq u = { s.seq u with
        slot := some { a with stage := .halting, context := none, fixedEnd := some (endUnderQuickStop a) } } ∧
      (if a.move.goal.kind = .rotate then Instr.stopOrder u .aqs else Instr.pairStopOrder u .aqs) ∈ (s.quickMove u).mail
    | .halting => (s.quickMove u).seq u = s.seq u
    | .withdrawLock | .liftBrake | .setBrake | .engageLock | .suspended =>
      MoveEnded s (s.quickMove u) u a (endUnderQuickStop a).1 (endUnderQuickStop a).2 ∧
        ((s.quickMove u).seq u).braked = true := by
  have hbrakes := (SeqActs.refl u s).applyBrakes
  have hq := applyBrakes_seq s u
  have ended : MoveEnded s ((s.applyBrakes u).endMove u a.stopEnd.1 a.stopEnd.2) u a a.stopEnd.1 a.stopEnd.2 ∧
      (((s.applyBrakes u).endMove u a.stopEnd.1 a.stopEnd.2).seq u).braked = true := by
    have hslot : ((s.applyBrakes u).seq u).slot = some a := by rw [hq]; exact h
    exact ⟨endMove_ended hbrakes hslot (by rw [hq]) _ _, by rw [endMove_seq hslot, Seq.ended, hq]⟩
  have e : s.quickMove u = match a.stage with
      | .travel | .settle | .suspending => s.haltMove u a.stopEnd
      | .halting => s
      | .withdrawLock | .liftBrake | .setBrake | .engageLock | .suspended =>
        (s.applyBrakes u).endMove u a.stopEnd.1 a.stopEnd.2 := by
    unfold State.quickMove
    cases hst : a.stage <;> simp [h, hst]
  rw [e]
  cases a.stage
  case travel | settle | suspending => exact haltMove_halts h a.stopEnd
  case halting => rfl
  all_goals exact ended

/-- A trip order ends whatever a tier holds, with its brakes ordered to apply (R81). -/
theorem tripTier_meets (s : State) (u : Tier) :
    ((s.tripTier u).seq u).slot = none ∧ ((s.tripTier u).seq u).jog = none ∧ ((s.tripTier u).seq u).braked = true ∧
      Instr.axisTripOrder ⟨u, .R⟩ ∈ (s.tripTier u).mail ∧ Instr.pairTripOrder u ∈ (s.tripTier u).mail ∧
      ∀ a, (s.seq u).slot = some a → MoveEnded s (s.tripTier u) u a .aborted .trip := by
  obtain ⟨x, hx⟩ : ∃ x, x = (s.emitAll [.axisTripOrder ⟨u, .R⟩, .pairTripOrder u]).modSeq u fun q =>
      { q with braked := true } := ⟨_, rfl⟩
  have hxq : x.seq u = { s.seq u with braked := true } := by rw [hx]; exact modSeq_seq_self ..
  have hxs : SeqActs u s x := by rw [hx]; exact ((SeqActs.refl u s).emitAll _).modSeq _ id id
  have hmail : Instr.axisTripOrder ⟨u, .R⟩ ∈ x.mail ∧ Instr.pairTripOrder u ∈ x.mail := by rw [hx]; simp
  obtain ⟨y, hy⟩ : ∃ y, y = x.endMove u .aborted .trip := ⟨_, rfl⟩
  have hyq : (y.seq u).slot = none ∧ (y.seq u).braked = true ∧
      ∀ a, (s.seq u).slot = some a → MoveEnded s y u a .aborted .trip := by
    rw [hy]
    cases hs : (s.seq u).slot with
    | none =>
      have hnone : (x.seq u).slot = none := by rw [hxq]; exact hs
      rw [endMove_of_none hnone]
      exact ⟨hnone, by rw [hxq], fun a ha => by cases ha⟩
    | some a =>
      have hslot : (x.seq u).slot = some a := by rw [hxq]; exact hs
      rw [endMove_seq hslot]
      refine ⟨rfl, by rw [Seq.ended, hxq], fun b hb => ?_⟩
      obtain rfl := Option.some.inj hb
      exact endMove_ended hxs hslot (by rw [hxq]) _ _
  have hys : SeqActs u x y := by rw [hy]; exact (SeqActs.refl u x).endMove _ _
  obtain ⟨z, hz⟩ : ∃ z, z = y.when (y.seq u).jog.isSome fun s => s.endJog u := ⟨_, rfl⟩
  have hzs : SeqActs u y z := by rw [hz]; exact (SeqActs.refl u y).when _ fun _ h => h.endJog
  have hzq : z.seq u = { y.seq u with jog := none } := by
    rw [hz]
    unfold State.when
    cases hj : (y.seq u).jog
    · rw [if_neg (by simp), ← hj]
    · exact endJog_seq y u
  have e : s.tripTier u = z := by rw [hz, hy, hx]; rfl
  rw [e, hzq]
  obtain ⟨hslot, hbr, hend⟩ := hyq
  have hsub : ∀ m ∈ x.mail, m ∈ z.mail := fun m hm => (hys.sent.trans hzs.sent).subset hm
  refine ⟨hslot, rfl, hbr, hsub _ hmail.1, hsub _ hmail.2, fun a ha => ?_⟩
  exact (hend a ha).congr rfl rfl (by rw [hzq]) (by rw [hzq]) fun m hm => hzs.sent.subset hm

/-! ### Resume -/

/-- A resume order leaves a move that is not SUSPENDED, and a tier without one, as they are (R83). -/
theorem resume_still {s : State} {u : Tier} (h : ∀ a, (s.seq u).slot = some a → a.stage ≠ .suspended) :
    (s.modActive u Active.markResumed).resumeMove u = s := by
  have hsame : s.modActive u Active.markResumed = s := by
    refine modSeq_same ?_
    cases hs : (s.seq u).slot with
    | none => rw [Option.map_none, ← hs]
    | some a =>
      rw [Option.map_some, Active.markResumed, if_neg (h a hs), ← hs]
  rw [hsame]
  unfold State.resumeMove
  cases hs : (s.seq u).slot with
  | none => rfl
  | some a => exact if_pos (h a hs)

/-- A SUSPENDED move that has its posture is released into LIFT_BRAKE (R83). -/
theorem resume_lifts {s : State} {u : Tier} {a : Active} (h : (s.seq u).slot = some a) (hst : a.stage = .suspended)
    (hctx : a.context ≠ some .withdrawLock ∨ (s.seq u).lockState = .withdrawn)
    (hposture : match a.move.goal with
      | .rotate _ => (s.pair u).toldStowed = true
      | .tilt _ => (s.seq u).lockState = .engaged) :
    ((s.modActive u Active.markResumed).resumeMove u).seq u = { s.seq u with
        slot := some { a with stage := .liftBrake, context := none, fromSettle := decide (a.context = some .settle) }
        braked := false } ∧
      releaseOrder u (a.move.goal.kind == .rotate) (.move a.move.number) ∈
        ((s.modActive u Active.markResumed).resumeMove u).mail := by
  obtain ⟨b, hb⟩ : ∃ b, b = { a with fromSettle := a.context == some Stage.settle } := ⟨_, rfl⟩
  have hmark : a.markResumed = b := by rw [Active.markResumed, if_pos hst, hb]
  obtain ⟨x, hx⟩ : ∃ x, x = s.modActive u Active.markResumed := ⟨_, rfl⟩
  have hq : x.seq u = { s.seq u with slot := some b } := by rw [hx, modActive_seq h, hmark]
  have e : x.resumeMove u = x.enterLift u := by
    unfold State.resumeMove
    rw [hq]
    dsimp only
    rw [if_neg (by rw [hb]; simp [hst])]
    by_cases hc : b.context = some .withdrawLock
    · obtain hn | hl := hctx
      · exact absurd (by rw [hb] at hc; exact hc) hn
      · rw [if_pos hc, hl]
    · rw [if_neg hc]
  have hlift := enterLift_lifts (s := x) (a := b) (by rw [hq]) (by
    rw [show x.pair u = s.pair u by rw [hx]; rfl, hq, hb]
    exact hposture)
  rw [← hx, e, hlift.1, hq, hb]
  refine ⟨?_, by have := hlift.2; rwa [hb] at this⟩
  rw [beq_eq_decide]

/-- A SUSPENDED move whose lock is being withdrawn waits for it again (R83). -/
theorem resume_waits {s : State} {u : Tier} {a : Active} (h : (s.seq u).slot = some a) (hst : a.stage = .suspended)
    (hctx : a.context = some .withdrawLock) (hlock : (s.seq u).lockState = .withdrawing) :
    ((s.modActive u Active.markResumed).resumeMove u).seq u = { s.seq u with
      slot := some { a with stage := .withdrawLock, context := none, fromSettle := false } } := by
  obtain ⟨b, hb⟩ : ∃ b, b = { a with fromSettle := false } := ⟨_, rfl⟩
  have hmark : a.markResumed = b := by rw [Active.markResumed, if_pos hst, hb, hctx]; rfl
  obtain ⟨x, hx⟩ : ∃ x, x = s.modActive u Active.markResumed := ⟨_, rfl⟩
  have hq : x.seq u = { s.seq u with slot := some b } := by rw [hx, modActive_seq h, hmark]
  have e : x.resumeMove u = x.modActive u fun a => { a with stage := .withdrawLock, context := none } := by
    unfold State.resumeMove
    rw [hq]
    dsimp only
    rw [if_neg (by rw [hb]; simp [hst]), if_pos (by rw [hb]; exact hctx), hlock]
  rw [← hx, e, modActive_seq (a := b) (by rw [hq]), hq, hb]

/-! ### The orders -/

/-- Settles O46: each order by the stage of the move or the jog that it meets. -/
theorem ordersMeetTheOccupantOfATier : Obligations.OrdersMeetTheOccupantOfATier := by
  intro u s hs
  have hhold := exec_seq (.holdOrder u) (s := s) (execHoldOrder.eq_1 ..) hs (by rfl)
    (((SeqActs.refl u (s.taken (.holdOrder u))).holdMove).haltJog .hold)
  have hquick := exec_seq (.quickStopOrder u) (s := s) (execQuickStopOrder.eq_1 ..) hs (by rfl)
    (((SeqActs.refl u (s.taken (.quickStopOrder u))).quickMove).haltJog .quickStop)
  have htrip := exec_seq (.tripOrder u) (s := s) (execTripOrder.eq_1 ..) hs (by rfl)
    ((SeqActs.refl u (s.taken (.tripOrder u))).tripTier)
  have hresume := exec_seq (.resumeOrder u) (s := s) (execResumeOrder.eq_1 ..) hs (by rfl)
    (((SeqActs.refl u (s.taken (.resumeOrder u))).modActive Active.markResumed).resumeMove)
  refine ⟨fun c hc hslot hjog => ?_, fun a ha hjog => ⟨?_, ?_⟩, fun j hj hslot => ⟨?_, ?_⟩, ?_,
    fun a ha => ⟨fun hst => ?_, fun hst hctx hlock => ?_, fun n hg hst hctx hpost => ?_, fun n hg hst hctx hlock => ?_⟩⟩
  · obtain rfl | rfl | rfl := hc
    · obtain ⟨t, ht, htouch, hq, -, -⟩ := hhold
      refine ⟨t, ht, htouch, hq.trans ?_⟩
      rw [holdMove_of_none (s := s.taken _) hslot, haltJog_of_none (by exact hjog)]
      rfl
    · obtain ⟨t, ht, htouch, hq, -, -⟩ := hquick
      refine ⟨t, ht, htouch, hq.trans ?_⟩
      rw [quickMove_of_none (s := s.taken _) hslot, haltJog_of_none (by exact hjog)]
      rfl
    · obtain ⟨t, ht, htouch, hq, -, -⟩ := hresume
      refine ⟨t, ht, htouch, hq.trans ?_⟩
      rw [resume_still (s := s.taken _) fun a ha => absurd (hslot.symm.trans ha) (by simp)]
      rfl
  · obtain ⟨t, ht, htouch, hq, -, hm⟩ := hhold
    obtain ⟨hmeet, hstop⟩ := holdMove_meets (s := s.taken (.holdOrder u)) (a := a) ha
    have hnone := ((SeqActs.refl u (s.taken (.holdOrder u))).holdMove).jog hjog
    rw [haltJog_of_none hnone] at hq hm
    exact ⟨t, ht, htouch, hq.trans (congrArg told hmeet), fun h => hm _ (hstop h)⟩
  · obtain ⟨t, ht, htouch, htold⟩ := hquick
    have hmeet := quickMove_meets (s := s.taken (.quickStopOrder u)) (a := a) ha
    have hnone := ((SeqActs.refl u (s.taken (.quickStopOrder u))).quickMove).jog hjog
    rw [haltJog_of_none hnone] at htold
    obtain ⟨hq, -, hm⟩ := id htold
    refine ⟨t, ht, htouch, ?_⟩
    cases hst : a.stage <;> simp only [hst] at hmeet
    case travel | settle | suspending => exact ⟨hq.trans (congrArg told hmeet.1), hm _ hmeet.2⟩
    case halting => exact hq.trans (congrArg told hmeet)
    all_goals exact ⟨hmeet.1.told htold, by rw [hq]; exact hmeet.2⟩
  · refine ⟨_, (exec_live (.holdOrder u) (execHoldOrder.eq_1 ..) hs).trans ?_,
      (((SeqActs.refl u (s.taken (.holdOrder u))).haltJog .hold).seqReport).touches,
      haltJog_meets (s.taken (.holdOrder u)) u .hold hslot hj⟩
    rw [holdMove_of_none (s := s.taken _) hslot]
  · refine ⟨_, (exec_live (.quickStopOrder u) (execQuickStopOrder.eq_1 ..) hs).trans ?_,
      (((SeqActs.refl u (s.taken (.quickStopOrder u))).haltJog .quickStop).seqReport).touches,
      haltJog_meets (s.taken (.quickStopOrder u)) u .quickStop hslot hj⟩
    rw [quickMove_of_none (s := s.taken _) hslot]
  · obtain ⟨t, ht, htouch, htold⟩ := htrip
    obtain ⟨h1, h2, h3, h4, h5, h6⟩ := tripTier_meets (s.taken (.tripOrder u)) u
    obtain ⟨hq, -, hm⟩ := id htold
    exact ⟨t, ht, htouch, by rw [hq]; exact h1, by rw [hq]; exact h2, by rw [hq]; exact h3, hm _ h4, hm _ h5,
      fun a ha => (h6 a ha).told htold⟩
  · obtain ⟨t, ht, htouch, hq, -, -⟩ := hresume
    refine ⟨t, ht, htouch, hq.trans ?_⟩
    rw [resume_still (s := s.taken _) fun b hb => Option.some.inj (ha.symm.trans hb) ▸ hst]
    rfl
  · obtain ⟨t, ht, htouch, hq, -, -⟩ := hresume
    exact ⟨t, ht, htouch, hq.trans (congrArg told (resume_waits (s := s.taken _) ha hst hctx hlock))⟩
  · obtain ⟨t, ht, htouch, hq, -, hm⟩ := hresume
    obtain ⟨hlift, hsent⟩ := resume_lifts (s := s.taken (.resumeOrder u)) (a := a) ha hst hctx (by rw [hg]; exact hpost)
    rw [hg] at hsent
    exact ⟨t, ht, htouch, hq.trans (congrArg told hlift), hm _ hsent⟩
  · obtain ⟨t, ht, htouch, hq, -, hm⟩ := hresume
    obtain ⟨hlift, hsent⟩ := resume_lifts (s := s.taken (.resumeOrder u)) (a := a) ha hst (.inl hctx) (by rw [hg]; exact hlock)
    rw [hg] at hsent
    exact ⟨t, ht, htouch, hq.trans (congrArg told hlift), hm _ hsent⟩

end Sys2Proof.Machine

/-! SUPPORT. The lock of a tier (R67 to R70): what starts and completes its transitions. -/

namespace Sys2Proof.Machine

open Sys2Proof

/-! ### The lock state found again -/

/-- The lock state that the inputs and the transition give (R67). -/
def Seq.found (q : Seq) : LockState := lockStateOf q.lockIn q.lockOut q.transition

/-- The lock's record with the lock state found again: leaving ENGAGED makes the station unknown (R67, R69). -/
def Seq.refound (q : Seq) : Seq :=
  { q with
    lockState := q.found
    station := if q.lockState = .engaged ∧ q.found ≠ .engaged then none else q.station }

/-- The state of the lock written, with the pass that its change asks for, before what follows from it. -/
def State.lockFound (s : State) (u : Tier) : State :=
  ((s.modSeq u fun _ => (s.seq u).refound).when
    ((s.tier u).present && decide ((s.seq u).found ≠ (s.seq u).lockState)) State.requestPass)

theorem lockFound_seqActs (s : State) (u : Tier) : SeqActs u s (s.lockFound u) :=
  ((SeqActs.refl u s).modSeq _ id id).when _ fun _ h => h.requestPass

theorem lockFound_seq (s : State) (u : Tier) : (s.lockFound u).seq u = (s.seq u).refound := by
  unfold State.lockFound State.when
  split
  · rw [requestPass_seq, modSeq_seq_self]
  · exact modSeq_seq_self ..

theorem lockFound_pair (s : State) (u : Tier) : (s.lockFound u).pair u = s.pair u := by
  unfold State.lockFound State.when
  split
  · rw [requestPass_pair]
    rfl
  · rfl

/-- The lock leaves ENGAGED under a TILT in motion. -/
def Seq.losesLock (q : Seq) : Bool := decide (q.lockState = .engaged ∧ q.found ≠ .engaged) && q.tiltInMotion

/-- The parts of finding the lock state again, one after the other. -/
theorem refindLock_eq (s : State) (u : Tier) :
    s.refindLock u =
      let s3 := (s.lockFound u).when (s.seq u).losesLock fun s => s.losePosture u .lockLost .lockLost
      match (s.seq u).transition, (s.seq u).found with
      | some .withdraw, .withdrawn => s3.withdrawalDone u
      | some .engage, .engaged => s3.engagementDone u
      | tr, .conflicted =>
        let s4 := s3.modSeq u fun q =>
          { q with lockTimer := none, pendingStation := if tr.isSome then none else q.pendingStation }
        let into := decide ((s.seq u).lockState ≠ .conflicted) && (s.tier u).present
        let s5 := s4.when into fun s => s.tierCause u .lockConflict
        let s6 := s5.when ((into || tr.isSome) && !(s.seq u).losesLock) fun s => s.conflictMove u
        s6.when (into || tr.isSome) fun s => s.haltJog u .lockConflict
      | _, _ => s3 := rfl

/-- The lock state found again where no transition completes and there is no conflict. -/
theorem refindLock_still {s : State} {u : Tier} (hw : ¬((s.seq u).transition = some .withdraw ∧ (s.seq u).found = .withdrawn))
    (he : ¬((s.seq u).transition = some .engage ∧ (s.seq u).found = .engaged)) (hc : (s.seq u).found ≠ .conflicted) :
    s.refindLock u = (s.lockFound u).when (s.seq u).losesLock fun s => s.losePosture u .lockLost .lockLost := by
  rw [refindLock_eq]
  generalize (s.seq u).transition = tr at hw he
  generalize (s.seq u).found = new at hw he hc
  cases new with
  | conflicted => exact absurd rfl hc
  | withdrawn => rcases tr with _ | _ | _ <;> first | rfl | exact absurd ⟨rfl, rfl⟩ hw
  | engaged => rcases tr with _ | _ | _ <;> first | rfl | exact absurd ⟨rfl, rfl⟩ he
  | withdrawing => rcases tr with _ | _ | _ <;> rfl
  | engaging => rcases tr with _ | _ | _ <;> rfl

theorem refindLock_withdrawn {s : State} {u : Tier} (ht : (s.seq u).transition = some .withdraw)
    (hf : (s.seq u).found = .withdrawn) :
    s.refindLock u =
      ((s.lockFound u).when (s.seq u).losesLock fun s => s.losePosture u .lockLost .lockLost).withdrawalDone u := by
  rw [refindLock_eq, ht, hf]

theorem refindLock_engaged {s : State} {u : Tier} (ht : (s.seq u).transition = some .engage)
    (hf : (s.seq u).found = .engaged) :
    s.refindLock u = (s.lockFound u).engagementDone u := by
  have hlost : (s.seq u).losesLock = false := by simp [Seq.losesLock, hf]
  rw [refindLock_eq, ht, hf, hlost]
  rfl

/-- The state of the lock in conflict, with the posture lost, the transition ended and the tier cause reported, before the
move or the jog is met (R76, R77). -/
def State.conflictFound (s : State) (u : Tier) : State :=
  ((((s.lockFound u).when (s.seq u).losesLock fun s => s.losePosture u .lockLost .lockLost).modSeq u fun q =>
      { q with
        lockTimer := none
        pendingStation := if (s.seq u).transition.isSome then none else q.pendingStation }).when
    (decide ((s.seq u).lockState ≠ .conflicted) && (s.tier u).present) fun s => s.tierCause u .lockConflict)

/-- A conflict that is new, or that ends a transition, meets the move or the jog. -/
def State.meetsConflict (s : State) (u : Tier) : Bool :=
  (decide ((s.seq u).lockState ≠ .conflicted) && (s.tier u).present) || (s.seq u).transition.isSome

theorem refindLock_conflicted {s : State} {u : Tier} (hf : (s.seq u).found = .conflicted) :
    s.refindLock u =
      ((s.conflictFound u).when (s.meetsConflict u && !(s.seq u).losesLock) fun s => s.conflictMove u).when
        (s.meetsConflict u) fun s => s.haltJog u .lockConflict := by
  unfold State.conflictFound State.meetsConflict
  rw [refindLock_eq, hf]
  rcases (s.seq u).transition with _ | _ | _ <;> rfl

theorem conflictFound_seqActs (s : State) (u : Tier) : SeqActs u s (s.conflictFound u) :=
  (((lockFound_seqActs s u).when _ fun _ h => h.losePosture .lockLost .lockLost).modSeq _ id id).when _ fun _ h =>
    h.tierCause _

/-! ### What follows of a transition's completion -/

theorem losesLock_of_slot_none {q : Seq} (h : q.slot = none) : q.losesLock = false := by
  simp [Seq.losesLock, Seq.tiltInMotion, h]

theorem losesLock_of_rotate {q : Seq} {a : Active} (h : q.slot = some a) (hk : a.move.goal.kind = .rotate) :
    q.losesLock = false := by
  simp [Seq.losesLock, Seq.tiltInMotion, h, hk]

theorem losesLock_of_not_left {q : Seq} (h : q.lockState = .engaged → q.found = .engaged) : q.losesLock = false := by
  unfold Seq.losesLock
  rw [decide_eq_false (fun hl => hl.2 (h hl.1)), Bool.false_and]

/-- A withdrawal that completes with nothing waiting for it. -/
theorem withdrawalDone_idle {s : State} {u : Tier} (hs : (s.seq u).stage ≠ some .withdrawLock)
    (hj : (s.seq u).slot = none → (s.seq u).jog.map (·.stage) ≠ some .withdrawLock) :
    s.withdrawalDone u = s.modSeq u fun q => { q with lockTimer := none } := by
  unfold State.withdrawalDone
  dsimp only
  rw [modSeq_seq_self, if_neg (by exact hs), if_neg]
  rintro ⟨h1, h2⟩
  exact hj (Option.isNone_iff_eq_none.mp h1) h2

/-- A withdrawal completes under a ROTATE that waits for it (R70, R71). -/
theorem withdrawalDone_lifts {s : State} {u : Tier} {a : Active} (h : (s.seq u).slot = some a)
    (hst : a.stage = .withdrawLock) (hk : a.move.goal.kind = .rotate) (hp : (s.pair u).toldStowed = true) :
    (s.withdrawalDone u).seq u = { s.seq u with
        lockTimer := none, slot := some { a with stage := .liftBrake, context := none }, braked := false } ∧
      Instr.brakeReleaseOrder ⟨u, .R⟩ (.move a.move.number) ∈ (s.withdrawalDone u).mail := by
  obtain ⟨x, hx⟩ : ∃ x, x = s.modSeq u fun q => { q with lockTimer := none } := ⟨_, rfl⟩
  have hq : x.seq u = { s.seq u with lockTimer := none } := by rw [hx]; exact modSeq_seq_self ..
  have e : s.withdrawalDone u = x.enterLift u := by
    unfold State.withdrawalDone
    dsimp only
    rw [← hx, hq, if_pos]
    unfold Seq.stage
    rw [h, Option.map_some, hst]
  have hgoal : ∃ n, a.move.goal = .rotate n := by
    cases hg : a.move.goal with
    | rotate n => exact ⟨n, rfl⟩
    | tilt n => rw [hg] at hk; cases hk
  obtain ⟨n, hn⟩ := hgoal
  obtain ⟨hlift, hm⟩ := enterLift_lifts (s := x) (u := u) (a := a) (by rw [hq]; exact h) (by
    rw [hn, show x.pair u = s.pair u by rw [hx]; rfl]
    exact hp)
  rw [hk] at hm
  rw [e, hlift, hq]
  exact ⟨rfl, hm⟩

/-- A withdrawal completes under a jog that waits for it (R70, R85). -/
theorem withdrawalDone_jogLifts {s : State} {u : Tier} {j : Jog} (hs : (s.seq u).slot = none) (hj : (s.seq u).jog = some j)
    (hst : j.stage = .withdrawLock) (ht : j.target = .rotation) (hp : (s.pair u).toldStowed = true) :
    (s.withdrawalDone u).seq u = { s.seq u with
        lockTimer := none, jog := some { j with stage := .liftBrake }, braked := false } ∧
      Instr.brakeReleaseOrder ⟨u, .R⟩ .jog ∈ (s.withdrawalDone u).mail := by
  obtain ⟨x, hx⟩ : ∃ x, x = s.modSeq u fun q => { q with lockTimer := none } := ⟨_, rfl⟩
  have hq : x.seq u = { s.seq u with lockTimer := none } := by rw [hx]; exact modSeq_seq_self ..
  have e : s.withdrawalDone u = x.jogLift u := by
    unfold State.withdrawalDone
    dsimp only
    rw [← hx, hq, if_neg, if_pos]
    · exact ⟨by rw [hs]; rfl, by rw [hj, Option.map_some, hst]⟩
    · unfold Seq.stage
      rw [hs]
      simp
  obtain ⟨hlift, hm, -⟩ := jogLift_lifts (s := x) (u := u) (j := j) (by rw [hq]; exact hs) (by rw [hq]; exact hj)
    fun _ => by rw [hx]; exact hp
  rw [ht] at hm
  rw [e, hlift, hq]
  exact ⟨rfl, hm⟩

/-- The record of a sequencer whose engagement has completed, with `n` the station that becomes the current one (R68, R69). -/
def Seq.engagedAt (q : Seq) (n : Option Station) : Seq :=
  { q with lockTimer := none, station := if n.isSome then n else q.station, pendingStation := none }

/-- The station that a completed engagement leaves current (R68, R69, R75). -/
def Seq.engages (q : Seq) : Option Station :=
  match q.slot with
  | some a =>
    if a.stage = .engageLock then (match a.move.goal with | .rotate n => some n | .tilt _ => none) else q.pendingStation
  | none => q.pendingStation

/-- The engagement written, before the move that waited for it ends. -/
def State.engagedFound (s : State) (u : Tier) : State :=
  (s.modSeq u fun q => q.engagedAt (s.seq u).engages).when (s.tier u).present State.requestPass

theorem engagementDone_eq (s : State) (u : Tier) :
    s.engagementDone u =
      if (s.seq u).stage = some .engageLock then (s.engagedFound u).endMove u .done .none else s.engagedFound u := rfl

theorem engagedFound_seqActs (s : State) (u : Tier) : SeqActs u s (s.engagedFound u) :=
  ((SeqActs.refl u s).modSeq _ id id).when _ fun _ h => h.requestPass

theorem engagedFound_seq (s : State) (u : Tier) : (s.engagedFound u).seq u = (s.seq u).engagedAt (s.seq u).engages := by
  unfold State.engagedFound State.when
  split
  · rw [requestPass_seq, modSeq_seq_self]
  · exact modSeq_seq_self ..

/-- An engagement that completes where no move waits for it. -/
theorem engagementDone_idle {s : State} {u : Tier} (hs : (s.seq u).slot = none) :
    (s.engagementDone u).seq u = (s.seq u).engagedAt (s.seq u).pendingStation := by
  have hn : (s.seq u).engages = (s.seq u).pendingStation := by
    unfold Seq.engages
    rw [hs]
  rw [engagementDone_eq, if_neg, engagedFound_seq, hn]
  unfold Seq.stage
  rw [hs]
  simp

/-- An engagement that completes under the ROTATE that waits for it ends the move DONE at its station (R75). -/
theorem engagementDone_ends {s : State} {u : Tier} {a : Active} {n : Station} (h : (s.seq u).slot = some a)
    (hst : a.stage = .engageLock) (hg : a.move.goal = .rotate n) :
    MoveEnded s (s.engagementDone u) u a .done .none ∧
      ((s.engagementDone u).seq u).station = some n ∧ ((s.engagementDone u).seq u).lockTimer = none ∧
      ((s.engagementDone u).seq u).lockState = (s.seq u).lockState ∧
      ((s.engagementDone u).seq u).lockCmd = (s.seq u).lockCmd := by
  have hn : (s.seq u).engages = some n := by
    unfold Seq.engages
    rw [h]
    simp [hst, hg]
  have hq := engagedFound_seq s u
  rw [hn] at hq
  have hslot : ((s.engagedFound u).seq u).slot = some a := by rw [hq]; exact h
  have hwaits : (s.seq u).stage = some .engageLock := by
    unfold Seq.stage
    rw [h, Option.map_some, hst]
  rw [engagementDone_eq, if_pos hwaits]
  refine ⟨endMove_ended (engagedFound_seqActs s u) hslot (by rw [hq]; rfl) _ _, ?_⟩
  rw [endMove_seq hslot, hq]
  exact ⟨rfl, rfl, rfl, rfl⟩

/-! ### What a conflict leaves -/

theorem conflictFound_seq (s : State) (u : Tier) :
    (s.conflictFound u).seq u = { (s.seq u).refound with
      slot := if (s.seq u).losesLock then
          (s.seq u).slot.map fun a => { a with fixedEnd := some (a.fixedEnd.getD (.aborted, .lockLost)) }
        else (s.seq u).slot
      lockTimer := none
      pendingStation := if (s.seq u).transition.isSome then none else (s.seq u).pendingStation
      inhibit := if (s.seq u).lockState ≠ .conflicted ∧ (s.tier u).present = true then
          some ((s.seq u).inhibit.getD .lockConflict)
        else (s.seq u).inhibit } := by
  obtain ⟨x, hx⟩ : ∃ x, x = (s.lockFound u).when (s.seq u).losesLock fun s => s.losePosture u .lockLost .lockLost := ⟨_, rfl⟩
  have hxq : x.seq u = { (s.seq u).refound with
      slot := if (s.seq u).losesLock then
          (s.seq u).slot.map fun a => { a with fixedEnd := some (a.fixedEnd.getD (.aborted, .lockLost)) }
        else (s.seq u).slot } := by
    rw [hx]
    unfold State.when
    cases hl : (s.seq u).losesLock with
    | false => exact lockFound_seq s u
    | true =>
      cases hs : (s.seq u).slot with
      | none => rw [losesLock_of_slot_none hs] at hl; cases hl
      | some a =>
        refine (losePosture_seq (a := a) ?_ _ _).trans ?_
        · rw [lockFound_seq]
          exact hs
        · rw [lockFound_seq]
          rfl
  have htier : x.tier u = s.tier u := by
    rw [hx]
    have h := ((lockFound_seqActs s u).when (s.seq u).losesLock fun _ h => h.losePosture .lockLost .lockLost).touches.2
    rw [h]
    rfl
  obtain ⟨y, hy⟩ : ∃ y, y = x.modSeq u fun q => { q with
      lockTimer := none, pendingStation := if (s.seq u).transition.isSome then none else q.pendingStation } := ⟨_, rfl⟩
  have hyq : y.seq u = { x.seq u with
      lockTimer := none
      pendingStation := if (s.seq u).transition.isSome then none else (x.seq u).pendingStation } := by
    rw [hy]
    exact modSeq_seq_self ..
  have e : s.conflictFound u =
      y.when (decide ((s.seq u).lockState ≠ .conflicted) && (s.tier u).present) fun s => s.tierCause u .lockConflict := by
    rw [hy, hx]
    rfl
  rw [e]
  unfold State.when
  by_cases hc : (s.seq u).lockState ≠ .conflicted ∧ (s.tier u).present = true
  · have hyp : (y.tier u).present = true := by rw [hy]; exact (congrArg TierRec.present htier).trans hc.2
    rw [if_pos (by simpa using hc), if_pos hc, tierCause_seq, if_pos hyp, hyq, hxq]
    rfl
  · rw [if_neg (by simpa using hc), if_neg hc, hyq, hxq]
    rfl

/-- A conflict that is new is reported with the active move's number (R77). -/
theorem mem_conflictFound {s : State} {u : Tier} (hc : (s.seq u).lockState ≠ .conflicted) (hp : (s.tier u).present = true) :
    Instr.tierCauseReport u .lockConflict ((s.seq u).slot.map (·.move.number)) ∈ (s.conflictFound u).mail := by
  obtain ⟨x, hx⟩ : ∃ x, x = ((s.lockFound u).when (s.seq u).losesLock fun s => s.losePosture u .lockLost .lockLost).modSeq u
      fun q => { q with lockTimer := none, pendingStation := if (s.seq u).transition.isSome then none else q.pendingStation } :=
    ⟨_, rfl⟩
  have hacts : SeqActs u s x := by
    rw [hx]
    exact ((lockFound_seqActs s u).when _ fun _ h => h.losePosture .lockLost .lockLost).modSeq _ id id
  have hslot : (x.seq u).slot.map (·.move.number) = (s.seq u).slot.map (·.move.number) := by
    have hq := conflictFound_seq s u
    rw [hx, modSeq_seq_self]
    unfold State.when
    split
    · next hl =>
      cases hs : (s.seq u).slot with
      | none => rw [losesLock_of_slot_none hs] at hl; cases hl
      | some a =>
        rw [losePosture_seq (a := a) (by rw [lockFound_seq]; exact hs)]
        rfl
    · rw [lockFound_seq]
      rfl
  have htier : (x.tier u).present = true := by
    rw [hacts.touches.2]
    exact hp
  have e : s.conflictFound u = x.tierCause u .lockConflict := by
    rw [hx]
    exact if_pos (by simp [hc, hp])
  have hm := mem_tierCause htier .lockConflict
  rw [hslot] at hm
  rw [e]
  exact hm

/-- The lock lost under a TILT in motion is reported (R76). -/
theorem mem_conflictFound_lost {s : State} {u : Tier} {a : Active} (h : (s.seq u).slot = some a)
    (hl : (s.seq u).losesLock = true) :
    Instr.causeReport ⟨.lockLost, some u, none, .move a.move.number, none, none, none⟩ ∈ (s.conflictFound u).mail := by
  obtain ⟨x, hx⟩ : ∃ x, x = (s.lockFound u).when (s.seq u).losesLock fun s => s.losePosture u .lockLost .lockLost := ⟨_, rfl⟩
  have hm : Instr.causeReport ⟨.lockLost, some u, none, .move a.move.number, none, none, none⟩ ∈ x.mail := by
    rw [hx, hl]
    exact mem_losePosture (a := a) (by rw [lockFound_seq]; exact h) _ _
  have hacts := (((SeqActs.refl u x).modSeq (fun q => { q with
      lockTimer := none, pendingStation := if (s.seq u).transition.isSome then none else q.pendingStation }) id id).when
    (decide ((s.seq u).lockState ≠ .conflicted) && (s.tier u).present) fun _ h => h.tierCause .lockConflict)
  have e : s.conflictFound u = _ := rfl
  rw [hx] at hacts hm
  exact hacts.sent.subset hm

/-- A conflict meets the active move by its stage (R77). -/
theorem conflictMove_meets {s : State} {u : Tier} {a : Active} (h : (s.seq u).slot = some a) :
    match a.stage with
    | .withdrawLock | .setBrake | .engageLock | .suspended =>
      MoveEnded s (s.conflictMove u) u a .failed .inhibit ∧ ((s.conflictMove u).seq u).braked = true
    | .liftBrake =>
      MoveEnded s (s.conflictMove u) u a (endUnderConflict a).1 (endUnderConflict a).2 ∧
        ((s.conflictMove u).seq u).braked = true
    | .travel | .settle | .suspending =>
      ((s.conflictMove u).seq u).slot =
        some { a with stage := .halting, context := none, fixedEnd := some (endUnderConflict a) } ∧
      (if a.move.goal.kind = .rotate then Instr.stopOrder u .aqs else Instr.pairStopOrder u .aqs) ∈ (s.conflictMove u).mail
    | .halting => ((s.conflictMove u).seq u).slot = some a := by
  have hbrakes := (SeqActs.refl u s).applyBrakes
  have hq := applyBrakes_seq s u
  have ended (o : MoveOutcome) (r : Reason) : MoveEnded s ((s.applyBrakes u).endMove u o r) u a o r ∧
      (((s.applyBrakes u).endMove u o r).seq u).braked = true := by
    have hslot : ((s.applyBrakes u).seq u).slot = some a := by rw [hq]; exact h
    exact ⟨endMove_ended hbrakes hslot (by rw [hq]) _ _, by rw [endMove_seq hslot, Seq.ended, hq]⟩
  have e : s.conflictMove u = match a.stage with
      | .withdrawLock | .setBrake | .engageLock | .suspended => (s.applyBrakes u).endMove u .failed .inhibit
      | .liftBrake => (s.applyBrakes u).endMove u a.conflictEnd.1 a.conflictEnd.2
      | .travel | .settle | .suspending => s.haltMove u a.conflictEnd
      | .halting => s := by
    unfold State.conflictMove
    cases hst : a.stage <;> simp [h, hst]
  rw [e]
  cases a.stage
  case travel | settle | suspending =>
    obtain ⟨hh, hm⟩ := haltMove_halts h a.conflictEnd
    exact ⟨by rw [hh]; rfl, hm⟩
  case halting => exact h
  case liftBrake => exact ended _ _
  all_goals exact ended _ _

/-! ### What meeting a conflict leaves as it was -/

theorem jogSetBrake_keeps (s : State) (u : Tier) :
    (s.jogSetBrake u).seq u = { s.seq u with
      jog := ((s.jogSetBrake u).seq u).jog, braked := ((s.jogSetBrake u).seq u).braked } := by
  unfold State.jogSetBrake
  split
  · rw [endJog_seq]
  · rw [applyBrakes_seq, State.modJog, modSeq_seq_self]

/-- What meets a jog leaves the move, the lock and the inhibit. -/
theorem haltJog_keeps (s : State) (u : Tier) (c : JogEnd) :
    (s.haltJog u c).seq u = { s.seq u with
      jog := ((s.haltJog u c).seq u).jog, braked := ((s.haltJog u c).seq u).braked } := by
  have mod (f : Jog → Jog) : (s.modJog u f).seq u = { s.seq u with jog := (s.seq u).jog.map f } := modSeq_seq_self ..
  unfold State.haltJog
  split
  · rfl
  · split
    · rw [endJog_seq]
    · rw [jogSetBrake_keeps, mod]
    · rw [orderStop_seq, mod]
    · split
      · rw [orderStop_seq, mod]
      · rfl
    · rfl

/-- What meets a move leaves the lock and the inhibit. -/
theorem conflictMove_keeps (s : State) (u : Tier) :
    (s.conflictMove u).seq u = { s.seq u with
      slot := ((s.conflictMove u).seq u).slot, ending := ((s.conflictMove u).seq u).ending
      pendingStation := ((s.conflictMove u).seq u).pendingStation, braked := ((s.conflictMove u).seq u).braked } := by
  have ended {a : Active} (h : (s.seq u).slot = some a) (o : MoveOutcome) (r : Reason) :
      ((s.applyBrakes u).endMove u o r).seq u = Seq.ended { s.seq u with braked := true } a := by
    rw [endMove_seq (a := a) (by rw [applyBrakes_seq]; exact h), applyBrakes_seq]
  unfold State.conflictMove
  split
  · rfl
  · next a ha =>
    split
    case h_6 | h_7 | h_8 => rw [(haltMove_halts ha _).1]
    case h_9 => rfl
    all_goals rw [ended ha]; rfl

theorem conflictMove_of_none {s : State} {u : Tier} (h : (s.seq u).slot = none) : s.conflictMove u = s := by
  unfold State.conflictMove
  rw [h]

end Sys2Proof.Machine

/-! SUPPORT. The lock inputs and the lock timer (R67 to R70, R75 to R77). -/

namespace Sys2Proof.Machine

open Sys2Proof

/-! ### The lock inputs -/

/-- The state with new levels at a tier's lock inputs, before the lock state is found again. -/
def State.withInputs (s : State) (u : Tier) (i o : Bool) : State :=
  (s.taken (.lockInputChange u i o)).lockInputs u i o

/-- A tier's sequencer with new levels at its lock inputs. -/
def Seq.withInputs (q : Seq) (i o : Bool) : Seq := { q with lockIn := i, lockOut := o }

theorem withInputs_seq (s : State) (u : Tier) (i o : Bool) : (s.withInputs u i o).seq u = (s.seq u).withInputs i o :=
  modSeq_seq_self ..

theorem withInputs_acts (s : State) (u : Tier) (i o : Bool) : SeqActs u (s.taken (.lockInputChange u i o)) (s.withInputs u i o) :=
  (SeqActs.refl u (s.taken _)).modSeq (fun q => { q with lockIn := i, lockOut := o }) id id

theorem withInputs_found (q : Seq) (i o : Bool) : (q.withInputs i o).found = lockStateOf i o q.transition := rfl

theorem withInputs_transition (q : Seq) (i o : Bool) : (q.withInputs i o).transition = q.transition := rfl

/-- Changed lock inputs: the lock state is found again, and the sequencer tells what it has to tell. -/
theorem exec_lockInputs {s : State} {u : Tier} {i o : Bool} (hs : s.held = false)
    (hne : ¬((s.seq u).lockIn = i ∧ (s.seq u).lockOut = o)) :
    ∃ t, exec (.lockInputChange u i o) s = .next t ∧ TouchesOnlySeq s t u ∧ SeqTold ((s.withInputs u i o).refindLock u) t u := by
  refine ⟨((s.withInputs u i o).refindLock u).seqReport u, ?_,
    ((withInputs_acts s u i o).refindLock.seqReport).touches, seqReport_told ..⟩
  refine ((execLockInputChange.eq_1 ..).trans (inputChange_of_not_held _ _ _ hs)).trans ?_
  exact congrArg _ (if_neg hne)

theorem transition_of_none {q : Seq} (h : q.lockTimer = none) : q.transition = none := by simp [Seq.transition, h]

theorem transition_of_some {q : Seq} (h : q.lockTimer.isSome = true) : q.transition = some q.lockCmd := if_pos h

/-- A change that leaves the lock neither complete nor in conflict, and no TILT without it (R67). -/
theorem lockInputs_still {s : State} {u : Tier} {i o : Bool} (hs : s.held = false)
    (hne : ¬((s.seq u).lockIn = i ∧ (s.seq u).lockOut = o)) (new : LockState)
    (hf : lockStateOf i o (s.seq u).transition = new)
    (hnew : ¬((s.seq u).transition = some .withdraw ∧ new = .withdrawn) ∧
      ¬((s.seq u).transition = some .engage ∧ new = .engaged) ∧ new ≠ .conflicted)
    (hlost : (s.seq u).lockState = .engaged → new = .engaged ∨ (s.seq u).slot = none) :
    ∃ t, exec (.lockInputChange u i o) s = .next t ∧ TouchesOnlySeq s t u ∧
      t.seq u = told { s.seq u with
        lockIn := i, lockOut := o, lockState := new
        station := if (s.seq u).lockState = .engaged ∧ new ≠ .engaged then none else (s.seq u).station } := by
  obtain ⟨t, ht, htouch, hq, -, -⟩ := exec_lockInputs hs hne
  obtain ⟨hw, he, hc⟩ := hnew
  refine ⟨t, ht, htouch, hq.trans (congrArg told ?_)⟩
  have hfound : ((s.withInputs u i o).seq u).found = new := by rw [withInputs_seq, withInputs_found, hf]
  have htr : ((s.withInputs u i o).seq u).transition = (s.seq u).transition := by rw [withInputs_seq, withInputs_transition]
  have hnot : ((s.withInputs u i o).seq u).losesLock = false := by
    by_cases hleft : (s.seq u).lockState = .engaged
    · obtain h | h := hlost hleft
      · exact losesLock_of_not_left fun _ => hfound.trans h
      · exact losesLock_of_slot_none (by rw [withInputs_seq]; exact h)
    · exact losesLock_of_not_left fun h => absurd (by rw [withInputs_seq] at h; exact h) hleft
  rw [refindLock_still (by rw [hfound, htr]; exact hw) (by rw [hfound, htr]; exact he) (by rw [hfound]; exact hc), hnot]
  refine (lockFound_seq ..).trans ?_
  unfold Seq.refound
  rw [hfound, withInputs_seq]
  rfl

/-! ### A tier with neither move nor jog -/

/-- A conflict under nothing leaves the lock's own record and the inhibit (R67, R77). -/
theorem refindLock_idle_conflicted {s : State} {u : Tier} (hs : (s.seq u).slot = none) (hj : (s.seq u).jog = none)
    (hc : (s.seq u).found = .conflicted) : s.refindLock u = s.conflictFound u := by
  have hq := conflictFound_seq s u
  have hcs : ((s.conflictFound u).seq u).slot = none := by rw [hq, losesLock_of_slot_none hs]; exact hs
  have hcj : ((s.conflictFound u).seq u).jog = none := by rw [hq]; exact hj
  rw [refindLock_conflicted hc]
  simp only [State.when, conflictMove_of_none hcs, ite_self, haltJog_of_none hcj]

/-- The lock state found again under nothing: a pass is asked for when a present tier's lock changes. -/
theorem refindLock_idle_steps {s : State} {u : Tier} (hs : (s.seq u).slot = none) (hj : (s.seq u).jog = none) :
    TierSteps u (s.lockFound u) (s.refindLock u) := by
  have hlost := losesLock_of_slot_none hs
  have hslot : ((s.lockFound u).seq u).slot = none := by rw [lockFound_seq]; exact hs
  have hjog : ((s.lockFound u).seq u).jog = none := by rw [lockFound_seq]; exact hj
  by_cases hw : (s.seq u).transition = some .withdraw ∧ (s.seq u).found = .withdrawn
  · rw [refindLock_withdrawn hw.1 hw.2, hlost]
    refine (withdrawalDone_idle ?_ ?_) ▸ tierSteps_modSeq u _ _
    · unfold Seq.stage
      rw [show ((s.lockFound u).when false fun s => s.losePosture u .lockLost .lockLost) = s.lockFound u from rfl, hslot]
      simp
    · intro _
      rw [show ((s.lockFound u).when false fun s => s.losePosture u .lockLost .lockLost) = s.lockFound u from rfl, hjog]
      simp
  by_cases he : (s.seq u).transition = some .engage ∧ (s.seq u).found = .engaged
  · rw [refindLock_engaged he.1 he.2, engagementDone_eq, if_neg]
    · unfold State.engagedFound State.when
      split
      · exact (tierSteps_modSeq u _ _).trans (tierSteps_requestPass u _)
      · exact tierSteps_modSeq u _ _
    · unfold Seq.stage
      rw [hslot]
      simp
  by_cases hc : (s.seq u).found = .conflicted
  · rw [refindLock_idle_conflicted hs hj hc]
    have hcause (x : State) (b : Bool) (h : b = true → (x.tier u).present = true) :
        TierSteps u x (x.when b fun s => s.tierCause u .lockConflict) := by
      unfold State.when
      split
      · next hb => exact (tierCause_spec (h hb) _).1
      · exact .refl u x
    unfold State.conflictFound
    rw [hlost]
    refine (tierSteps_modSeq u (s.lockFound u) fun q => { q with
      lockTimer := none
      pendingStation := if (s.seq u).transition.isSome then none else q.pendingStation }).trans (hcause _ _ fun h => ?_)
    rw [State.modSeq_tier, show (s.lockFound u).tier u = s.tier u by rw [(lockFound_seqActs s u).touches.2]; rfl]
    exact (Bool.and_eq_true .. |>.mp h).2
  · rw [refindLock_still hw he hc, hlost]
    exact .refl u _

/-- A withdrawal that completes under nothing. -/
theorem refindLock_idle_withdrawn {s : State} {u : Tier} (hs : (s.seq u).slot = none) (hj : (s.seq u).jog = none)
    (ht : (s.seq u).transition = some .withdraw) (hf : (s.seq u).found = .withdrawn) :
    (s.refindLock u).seq u = { (s.seq u).refound with lockTimer := none } := by
  have hslot : ((s.lockFound u).seq u).slot = none := by rw [lockFound_seq]; exact hs
  have hjog : ((s.lockFound u).seq u).jog = none := by rw [lockFound_seq]; exact hj
  rw [refindLock_withdrawn ht hf, losesLock_of_slot_none hs]
  refine (congrArg (State.seq · u) (withdrawalDone_idle (s := s.lockFound u) ?_ ?_)).trans ?_
  · simp [Seq.stage, hslot]
  · simp [hjog]
  · exact (modSeq_seq_self ..).trans (by rw [lockFound_seq])

/-- An engagement that completes under nothing. -/
theorem refindLock_idle_engaged {s : State} {u : Tier} (hs : (s.seq u).slot = none)
    (ht : (s.seq u).transition = some .engage) (hf : (s.seq u).found = .engaged) :
    (s.refindLock u).seq u = (s.seq u).refound.engagedAt (s.seq u).pendingStation := by
  have hslot : ((s.lockFound u).seq u).slot = none := by rw [lockFound_seq]; exact hs
  rw [refindLock_engaged ht hf, engagementDone_idle hslot, lockFound_seq]
  rfl

/-- The lock found again under nothing: the lock state, the pass asked for, and a conflict reported. -/
theorem refindLock_idle {s : State} {u : Tier} (hs : (s.seq u).slot = none) (hj : (s.seq u).jog = none) :
    ((s.refindLock u).seq u).lockState = (s.seq u).found ∧
      ((s.tier u).present = true → (s.seq u).found ≠ (s.seq u).lockState → (s.refindLock u).arb.passRequested = true ∧
        ((s.seq u).found = .conflicted → Instr.tierCauseReport u .lockConflict none ∈ (s.refindLock u).mail)) := by
  refine ⟨?_, fun hp hne => ⟨?_, fun hc => ?_⟩⟩
  · by_cases hw : (s.seq u).transition = some .withdraw ∧ (s.seq u).found = .withdrawn
    · rw [refindLock_idle_withdrawn hs hj hw.1 hw.2]
      rfl
    by_cases he : (s.seq u).transition = some .engage ∧ (s.seq u).found = .engaged
    · rw [refindLock_idle_engaged hs he.1 he.2]
      rfl
    by_cases hc : (s.seq u).found = .conflicted
    · rw [refindLock_idle_conflicted hs hj hc, conflictFound_seq]
      rfl
    · rw [refindLock_still hw he hc, losesLock_of_slot_none hs]
      exact congrArg Seq.lockState (lockFound_seq s u)
  · refine (refindLock_idle_steps hs hj).pass ?_
    unfold State.lockFound State.when
    rw [if_pos (by simp [hp, hne])]
    exact requestPass_passRequested _
  · rw [refindLock_idle_conflicted hs hj hc]
    have hm := mem_conflictFound (s := s) (u := u) (by rw [← hc]; exact hne.symm) hp
    rwa [hs] at hm

end Sys2Proof.Machine

/-! SUPPORT. The lock inputs and the lock timer under nothing, a move and a jog (R67 to R70, R75 to R77, R86). -/

namespace Sys2Proof.Machine

open Sys2Proof

/-! ### Under nothing -/

theorem lockStateOf_none (i o : Bool) :
    lockStateOf i o none = if i = o then .conflicted else if i then .engaged else .withdrawn := by
  cases i <;> cases o <;> rfl

theorem inhibited_eq (p : Prop) [Decidable p] (x : Option TierCause) (k : TierCause) :
    (if p then some (x.getD k) else x) = if p ∧ x = none then some k else x := by
  by_cases hp : p <;> cases x <;> simp [hp]

/-- A conflict under nothing, with the record that it leaves (R67, R77). -/
theorem refindLock_idle_conflict {s : State} {u : Tier} (hs : (s.seq u).slot = none) (hj : (s.seq u).jog = none)
    (hc : (s.seq u).found = .conflicted) :
    (s.refindLock u).seq u = { s.seq u with
      lockState := .conflicted, lockTimer := none
      pendingStation := if (s.seq u).transition.isSome then none else (s.seq u).pendingStation
      station := if (s.seq u).lockState = .engaged then none else (s.seq u).station
      inhibit :=
        if (s.seq u).lockState ≠ .conflicted ∧ (s.tier u).present = true ∧ (s.seq u).inhibit = none then
          some .lockConflict
        else (s.seq u).inhibit } := by
  rw [refindLock_idle_conflicted hs hj hc, conflictFound_seq, losesLock_of_slot_none hs, inhibited_eq]
  unfold Seq.refound
  rw [hc]
  simp [and_assoc]

/-- Changed lock inputs of a tier with neither move nor jog (R67 to R69, R77). -/
theorem lockInputs_idle {s : State} {u : Tier} (hs : s.held = false) (i o : Bool) (hslot : (s.seq u).slot = none)
    (hjog : (s.seq u).jog = none) (hne : ¬((s.seq u).lockIn = i ∧ (s.seq u).lockOut = o)) :
    ∃ t, exec (.lockInputChange u i o) s = .next t ∧ TouchesOnlySeq s t u ∧
      ((s.seq u).lockTimer = none →
        t.seq u = told { s.seq u with
          lockIn := i, lockOut := o
          lockState := if i = o then .conflicted else if i then .engaged else .withdrawn
          station := if (s.seq u).lockState = .engaged ∧ ¬(i = true ∧ o = false) then none else (s.seq u).station
          inhibit :=
            if i = o ∧ (s.seq u).lockState ≠ .conflicted ∧ (s.tier u).present = true ∧ (s.seq u).inhibit = none then
              some .lockConflict
            else (s.seq u).inhibit }) ∧
      ((s.seq u).lockTimer.isSome = true → (s.seq u).lockCmd = .withdraw → i = false → o = true →
        t.seq u = told { s.seq u with
          lockIn := i, lockOut := o, lockState := .withdrawn, lockTimer := none
          station := if (s.seq u).lockState = .engaged then none else (s.seq u).station }) ∧
      ((s.seq u).lockTimer.isSome = true → (s.seq u).lockCmd = .engage → i = true → o = false →
        t.seq u = told { s.seq u with
          lockIn := i, lockOut := o, lockState := .engaged, lockTimer := none, pendingStation := none
          station := if (s.seq u).pendingStation.isSome then (s.seq u).pendingStation else (s.seq u).station }) ∧
      ((s.seq u).lockTimer.isSome = true → i = true → o = true →
        t.seq u = told { s.seq u with
          lockIn := true, lockOut := true, lockState := .conflicted, lockTimer := none, pendingStation := none
          station := if (s.seq u).lockState = .engaged then none else (s.seq u).station
          inhibit :=
            if (s.seq u).lockState ≠ .conflicted ∧ (s.tier u).present = true ∧ (s.seq u).inhibit = none then
              some .lockConflict
            else (s.seq u).inhibit }) ∧
      ((s.tier u).present = true → (t.seq u).lockState ≠ (s.seq u).lockState →
        t.arb.passRequested = true ∧
          ((t.seq u).lockState = .conflicted → Instr.tierCauseReport u .lockConflict none ∈ t.mail)) := by
  obtain ⟨t, ht, htouch, hq, hframe, hm⟩ := exec_lockInputs hs hne
  obtain ⟨x, hx⟩ : ∃ x, x = s.withInputs u i o := ⟨_, rfl⟩
  have hxq : x.seq u = (s.seq u).withInputs i o := by rw [hx, withInputs_seq]
  have hxs : (x.seq u).slot = none := by rw [hxq]; exact hslot
  have hxj : (x.seq u).jog = none := by rw [hxq]; exact hjog
  have hxf : (x.seq u).found = lockStateOf i o (s.seq u).transition := by rw [hxq, withInputs_found]
  have hxt : (x.seq u).transition = (s.seq u).transition := by rw [hxq, withInputs_transition]
  have hxp : x.tier u = s.tier u := by rw [hx]; rfl
  rw [← hx] at hq hframe hm
  have hlost := losesLock_of_slot_none hxs
  refine ⟨t, ht, htouch, fun hn => ?_, fun hn hc hi ho => ?_, fun hn hc hi ho => ?_, fun hn hi ho => ?_, fun hp hch => ?_⟩
  · have htr := transition_of_none hn
    rw [htr, lockStateOf_none] at hxf
    by_cases hio : i = o
    · have hf : (x.seq u).found = .conflicted := by rw [hxf, if_pos hio]
      rw [hq, refindLock_idle_conflict hxs hxj hf, hxt, htr, hxq, hxp]
      congr 1
      have hnot : ¬(i = true ∧ o = false) := by rw [hio]; simp
      simp [Seq.withInputs, hn, hio]
    · have hf : (x.seq u).found = if i then .engaged else .withdrawn := by rw [hxf, if_neg hio]
      have hnc : (x.seq u).found ≠ .conflicted := by rw [hf]; cases i <;> simp
      rw [hq, refindLock_still (by simp [hxt, htr]) (by simp [hxt, htr]) hnc, hlost]
      refine congrArg told ((lockFound_seq ..).trans ?_)
      unfold Seq.refound
      rw [hf, hxq]
      congr 1
      · simp [hio]
      · obtain rfl : o = !i := by cases i <;> cases o <;> first | rfl | exact absurd rfl hio
        cases i <;> simp [Seq.withInputs]
      · simp [hio, Seq.withInputs]
  · subst hi ho
    have htr := transition_of_some hn
    rw [hc] at htr
    have hf : (x.seq u).found = .withdrawn := by rw [hxf, htr]; rfl
    rw [hq, refindLock_idle_withdrawn hxs hxj (hxt.trans htr) hf]
    unfold Seq.refound
    rw [hf, hxq]
    congr 2
    simp [Seq.withInputs]
  · subst hi ho
    have htr := transition_of_some hn
    rw [hc] at htr
    have hf : (x.seq u).found = .engaged := by rw [hxf, htr]; rfl
    rw [hq, refindLock_idle_engaged hxs (hxt.trans htr) hf]
    unfold Seq.refound Seq.engagedAt
    rw [hf, hxq]
    congr 2
    simp [Seq.withInputs]
  · subst hi ho
    have htr := transition_of_some hn
    have hf : (x.seq u).found = .conflicted := by rw [hxf, htr]; rfl
    rw [hq, refindLock_idle_conflict hxs hxj hf, hxt, htr, hxq, hxp]
    rfl
  · obtain ⟨hstate, hpass⟩ := refindLock_idle hxs hxj
    have hts : (t.seq u).lockState = (x.seq u).found := by rw [hq]; exact hstate
    rw [hts] at hch ⊢
    obtain ⟨h1, h2⟩ := hpass (by rw [hxp]; exact hp) (by rw [hxq] at hch ⊢; exact hch)
    exact ⟨by rw [hframe]; exact h1, fun hc => hm _ (h2 hc)⟩

/-! ### Transitions that go on, and a lock at rest -/

/-- A transition that neither completes nor meets a conflict goes on with its timer (R67, R68). -/
theorem lockInputs_running {s : State} {u : Tier} (hs : s.held = false) (i o : Bool)
    (hne : ¬((s.seq u).lockIn = i ∧ (s.seq u).lockOut = o)) (hrun : (s.seq u).lockTimer.isSome = true)
    (hnot : (s.seq u).lockCmd = .withdraw ∧ o = false ∨ (s.seq u).lockCmd = .engage ∧ i = false)
    (hlost : (s.seq u).lockState = .engaged → (s.seq u).slot = none) :
    ∃ t, exec (.lockInputChange u i o) s = .next t ∧ TouchesOnlySeq s t u ∧
      t.seq u = told { s.seq u with
        lockIn := i, lockOut := o
        lockState := if (s.seq u).lockCmd = .withdraw then .withdrawing else .engaging
        station := if (s.seq u).lockState = .engaged then none else (s.seq u).station } := by
  have htr := transition_of_some hrun
  obtain ⟨hc, rfl⟩ | ⟨hc, rfl⟩ := hnot
  · have hf : lockStateOf i false (s.seq u).transition = .withdrawing := by rw [htr, hc]; cases i <;> rfl
    obtain ⟨t, ht, htouch, hq⟩ := lockInputs_still hs hne .withdrawing hf (by simp) fun h => .inr (hlost h)
    exact ⟨t, ht, htouch, by rw [hq, hc]; simp⟩
  · have hf : lockStateOf false o (s.seq u).transition = .engaging := by rw [htr, hc]; cases o <;> rfl
    obtain ⟨t, ht, htouch, hq⟩ := lockInputs_still hs hne .engaging hf (by simp) fun h => .inr (hlost h)
    exact ⟨t, ht, htouch, by rw [hq, hc]; simp⟩

/-- A lock with no transition running is where its inputs say (R67, R69). -/
theorem lockInputs_resting {s : State} {u : Tier} (hs : s.held = false) (i o : Bool)
    (hne : ¬((s.seq u).lockIn = i ∧ (s.seq u).lockOut = o)) (hn : (s.seq u).lockTimer = none) (hio : i ≠ o)
    (hlost : (s.seq u).lockState = .engaged → i = true ∨ (s.seq u).slot = none) :
    ∃ t, exec (.lockInputChange u i o) s = .next t ∧ TouchesOnlySeq s t u ∧
      t.seq u = told { s.seq u with
        lockIn := i, lockOut := o, lockState := if i then .engaged else .withdrawn
        station := if (s.seq u).lockState = .engaged ∧ i = false then none else (s.seq u).station } := by
  have htr := transition_of_none hn
  have hf : lockStateOf i o (s.seq u).transition = if i then .engaged else .withdrawn := by
    rw [htr, lockStateOf_none, if_neg hio]
  obtain ⟨t, ht, htouch, hq⟩ := lockInputs_still hs hne _ hf (by rw [htr]; cases i <;> simp) fun h =>
    (hlost h).imp (fun hi => by simp [hi]) id
  refine ⟨t, ht, htouch, hq.trans ?_⟩
  cases i <;> simp

/-! ### Under a move -/

/-- A withdrawal completes under the ROTATE that waits for it (R68, R70, R71). -/
theorem lockInputs_withdrawn {s : State} {u : Tier} {a : Active} (hs : s.held = false) (ha : (s.seq u).slot = some a)
    (hk : a.move.goal.kind = .rotate) (hst : a.stage = .withdrawLock) (hrun : (s.seq u).lockTimer.isSome = true)
    (hc : (s.seq u).lockCmd = .withdraw) (ho : (s.seq u).lockOut = false) (hp : (s.pair u).toldStowed = true) :
    ∃ t, exec (.lockInputChange u false true) s = .next t ∧ TouchesOnlySeq s t u ∧
      t.seq u = told { s.seq u with
        lockIn := false, lockOut := true, lockState := .withdrawn, lockTimer := none, braked := false
        station := if (s.seq u).lockState = .engaged then none else (s.seq u).station
        slot := some { a with stage := .liftBrake, context := none } } ∧
      Instr.brakeReleaseOrder ⟨u, .R⟩ (.move a.move.number) ∈ t.mail := by
  obtain ⟨t, ht, htouch, hq, -, hm⟩ := exec_lockInputs (u := u) (i := false) (o := true) hs (by simp [ho])
  obtain ⟨x, hx⟩ : ∃ x, x = s.withInputs u false true := ⟨_, rfl⟩
  have hxq : x.seq u = (s.seq u).withInputs false true := by rw [hx, withInputs_seq]
  have htr : (x.seq u).transition = some .withdraw := by
    rw [hxq, withInputs_transition, transition_of_some hrun, hc]
  have hf : (x.seq u).found = .withdrawn := by rw [hxq, withInputs_found, ← withInputs_transition _ false true, ← hxq, htr]; rfl
  have hlost : (x.seq u).losesLock = false := losesLock_of_rotate (a := a) (by rw [hxq]; exact ha) hk
  obtain ⟨hlift, hsent⟩ := withdrawalDone_lifts (s := x.lockFound u) (u := u) (a := a)
    (by rw [lockFound_seq, hxq]; exact ha) hst hk (by rw [lockFound_pair, hx]; exact hp)
  rw [← hx, refindLock_withdrawn htr hf, hlost] at hq hm
  refine ⟨t, ht, htouch, hq.trans (congrArg told (hlift.trans ?_)), hm _ hsent⟩
  rw [lockFound_seq]
  unfold Seq.refound
  rw [hf, hxq]
  simp [Seq.withInputs]

/-- An engagement completes under the ROTATE that waits for it (R68, R69, R75). -/
theorem lockInputs_engaged {s : State} {u : Tier} {a : Active} {n : Station} (hs : s.held = false)
    (ha : (s.seq u).slot = some a) (hg : a.move.goal = .rotate n) (hst : a.stage = .engageLock)
    (hrun : (s.seq u).lockTimer.isSome = true) (hc : (s.seq u).lockCmd = .engage) (hi : (s.seq u).lockIn = false) :
    ∃ t, exec (.lockInputChange u true false) s = .next t ∧ TouchesOnlySeq s t u ∧ MoveEnded s t u a .done .none ∧
      (t.seq u).station = some n ∧ (t.seq u).lockState = .engaged ∧ (t.seq u).lockTimer = none := by
  obtain ⟨t, ht, htouch, htold⟩ := exec_lockInputs (u := u) (i := true) (o := false) hs (by simp [hi])
  obtain ⟨x, hx⟩ : ∃ x, x = s.withInputs u true false := ⟨_, rfl⟩
  have hxq : x.seq u = (s.seq u).withInputs true false := by rw [hx, withInputs_seq]
  have htr : (x.seq u).transition = some .engage := by
    rw [hxq, withInputs_transition, transition_of_some hrun, hc]
  have hf : (x.seq u).found = .engaged := by rw [hxq, withInputs_found, ← withInputs_transition _ true false, ← hxq, htr]; rfl
  rw [← hx, refindLock_engaged htr hf] at htold
  have hlq := lockFound_seq x u
  obtain ⟨hend, hstation, htimer, hstate, -⟩ := engagementDone_ends (s := x.lockFound u) (u := u) (a := a)
    (by rw [hlq, hxq]; exact ha) hst hg
  have hq := htold.1
  refine ⟨t, ht, htouch, MoveEnded.told ?_ htold, by rw [hq]; exact hstation, ?_, by rw [hq]; exact htimer⟩
  · refine hend.congr ?_ ?_ rfl rfl fun _ => id
    · rw [hlq, hxq]
      rfl
    · rw [(lockFound_seqActs x u).touches.2, hx]
      rfl
  · rw [hq]
    refine hstate.trans ?_
    rw [hlq]
    exact hf

/-- The lock leaves ENGAGED under a TILT in motion (R76). -/
theorem lockInputs_lost {s : State} {u : Tier} {a : Active} (hs : s.held = false) (ha : (s.seq u).slot = some a)
    (hk : a.move.goal.kind = .tilt) (hst : a.stage = .liftBrake ∨ a.stage = .travel ∨ a.stage = .settle)
    (hl : (s.seq u).lockState = .engaged) (hn : (s.seq u).lockTimer = none) (ho : (s.seq u).lockOut = false) :
    ∃ t, exec (.lockInputChange u false true) s = .next t ∧ TouchesOnlySeq s t u ∧
      t.seq u = told { s.seq u with
        lockIn := false, lockOut := true, lockState := .withdrawn, station := none
        slot := some { a with fixedEnd := some (a.fixedEnd.getD (.aborted, .lockLost)) } } ∧
      Instr.causeReport ⟨.lockLost, some u, none, .move a.move.number, none, none, none⟩ ∈ t.mail := by
  obtain ⟨t, ht, htouch, hq, -, hm⟩ := exec_lockInputs (u := u) (i := false) (o := true) hs (by simp [ho])
  obtain ⟨x, hx⟩ : ∃ x, x = s.withInputs u false true := ⟨_, rfl⟩
  have hxq : x.seq u = (s.seq u).withInputs false true := by rw [hx, withInputs_seq]
  have htr : (x.seq u).transition = none := by rw [hxq, withInputs_transition, transition_of_none hn]
  have hf : (x.seq u).found = .withdrawn := by rw [hxq, withInputs_found, ← withInputs_transition _ false true, ← hxq, htr]; rfl
  have hlost : (x.seq u).losesLock = true := by
    unfold Seq.losesLock Seq.tiltInMotion
    rw [hf, hxq]
    simp only [Seq.withInputs, hl, ha, hk]
    rcases hst with h | h | h <;> simp [h]
  have hslot : ((x.lockFound u).seq u).slot = some a := by rw [lockFound_seq, hxq]; exact ha
  rw [← hx, refindLock_still (by simp [htr]) (by simp [htr]) (by simp [hf]), hlost] at hq hm
  refine ⟨t, ht, htouch, hq.trans (congrArg told ((losePosture_seq hslot _ _).trans ?_)), hm _ (mem_losePosture hslot _ _)⟩
  rw [lockFound_seq]
  unfold Seq.refound
  rw [hf, hxq]
  simp [Seq.withInputs, hl]

/-! ### A conflict under a move or a jog -/

theorem lockStateOf_conflict {i : Bool} {tr : Option LockCmd} (h : tr = none ∨ i = true) :
    lockStateOf i i tr = .conflicted := by
  obtain rfl | rfl := h
  · cases i <;> rfl
  · rfl

/-- Both lock inputs at one level, where that is a conflict, on a present tier that had none (R67, R77). -/
theorem withInputs_conflict {s : State} {u : Tier} {i : Bool} (htr : (s.seq u).lockTimer = none ∨ i = true)
    (hnc : (s.seq u).lockState ≠ .conflicted) (hp : (s.tier u).present = true) (x : State) (hx : x = s.withInputs u i i) :
    (x.seq u).found = .conflicted ∧ x.meetsConflict u = true ∧
      (x.conflictFound u).seq u = { s.seq u with
        lockIn := i, lockOut := i, lockState := .conflicted, lockTimer := none
        slot := if (x.seq u).losesLock then
            (s.seq u).slot.map fun a => { a with fixedEnd := some (a.fixedEnd.getD (.aborted, .lockLost)) }
          else (s.seq u).slot
        pendingStation := if (s.seq u).lockTimer.isSome then none else (s.seq u).pendingStation
        station := if (s.seq u).lockState = .engaged then none else (s.seq u).station
        inhibit := some ((s.seq u).inhibit.getD .lockConflict) } := by
  have hxq : x.seq u = (s.seq u).withInputs i i := by rw [hx, withInputs_seq]
  have hf : (x.seq u).found = .conflicted := by
    rw [hxq, withInputs_found]
    exact lockStateOf_conflict (htr.imp transition_of_none id)
  have hinto : (x.seq u).lockState ≠ .conflicted ∧ (x.tier u).present = true := by
    rw [hxq, hx]
    exact ⟨hnc, hp⟩
  have hsome : (x.seq u).transition.isSome = (s.seq u).lockTimer.isSome := by
    rw [hxq, withInputs_transition]
    unfold Seq.transition
    cases (s.seq u).lockTimer <;> rfl
  refine ⟨hf, by unfold State.meetsConflict; simp [hinto], ?_⟩
  rw [conflictFound_seq, if_pos hinto, hsome]
  unfold Seq.refound
  rw [hf, hxq]
  simp [Seq.withInputs]

/-- A conflict met by the active move (R76, R77). -/
theorem lockInputs_conflict {s : State} {u : Tier} {a : Active} (hs : s.held = false) (ha : (s.seq u).slot = some a)
    (hj : (s.seq u).jog = none) (i : Bool) (hne : (s.seq u).lockIn ≠ i ∨ (s.seq u).lockOut ≠ i)
    (htr : (s.seq u).lockTimer = none ∨ i = true) (hnc : (s.seq u).lockState ≠ .conflicted)
    (hp : (s.tier u).present = true) :
    ∃ t, exec (.lockInputChange u i i) s = .next t ∧ TouchesOnlySeq s t u ∧ (t.seq u).lockState = .conflicted ∧
      (t.seq u).lockTimer = none ∧ (t.seq u).inhibit = some ((s.seq u).inhibit.getD .lockConflict) ∧
      Instr.tierCauseReport u .lockConflict (some a.move.number) ∈ t.mail ∧
      if (s.seq u).lockState = .engaged ∧ a.move.goal.kind = .tilt ∧
          (a.stage = .liftBrake ∨ a.stage = .travel ∨ a.stage = .settle) then
        (t.seq u).slot = some { a with fixedEnd := some (a.fixedEnd.getD (.aborted, .lockLost)) } ∧
        Instr.causeReport ⟨.lockLost, some u, none, .move a.move.number, none, none, none⟩ ∈ t.mail
      else
        match a.stage with
        | .withdrawLock | .setBrake | .engageLock | .suspended =>
          MoveEnded s t u a .failed .inhibit ∧ (t.seq u).braked = true
        | .liftBrake =>
          MoveEnded s t u a (endUnderConflict a).1 (endUnderConflict a).2 ∧ (t.seq u).braked = true
        | .travel | .settle | .suspending =>
          (t.seq u).slot =
            some { a with stage := .halting, context := none, fixedEnd := some (endUnderConflict a) } ∧
          (if a.move.goal.kind = .rotate then Instr.stopOrder u .aqs else Instr.pairStopOrder u .aqs) ∈ t.mail
        | .halting => (t.seq u).slot = some a := by
  obtain ⟨t, ht, htouch, htold⟩ := exec_lockInputs (u := u) (i := i) (o := i) hs (by rwa [not_and_or])
  obtain ⟨x, hx⟩ : ∃ x, x = s.withInputs u i i := ⟨_, rfl⟩
  obtain ⟨hf, hmeets, hcq⟩ := withInputs_conflict htr hnc hp x hx
  have hxq : x.seq u = (s.seq u).withInputs i i := by rw [hx, withInputs_seq]
  have hlost : (x.seq u).losesLock = true ↔ (s.seq u).lockState = .engaged ∧ a.move.goal.kind = .tilt ∧
      (a.stage = .liftBrake ∨ a.stage = .travel ∨ a.stage = .settle) := by
    unfold Seq.losesLock Seq.tiltInMotion
    rw [hf, hxq]
    simp [Seq.withInputs, ha, or_assoc]
  have hreport : Instr.tierCauseReport u .lockConflict (some a.move.number) ∈ (x.conflictFound u).mail := by
    have hm := mem_conflictFound (s := x) (u := u) (by rw [hxq]; exact hnc) (by rw [hx]; exact hp)
    rw [hxq] at hm
    simpa [Seq.withInputs, ha] using hm
  have hcj : ((x.conflictFound u).seq u).jog = none := by rw [hcq]; exact hj
  rw [← hx, refindLock_conflicted hf, hmeets] at htold
  by_cases hl : (x.seq u).losesLock = true
  · rw [hl] at htold
    have hstill : SeqTold (x.conflictFound u) t u := by
      have : ((x.conflictFound u).when (true && !true) fun s => s.conflictMove u) = x.conflictFound u := rfl
      rw [this] at htold
      change SeqTold ((x.conflictFound u).haltJog u .lockConflict) t u at htold
      rwa [haltJog_of_none hcj] at htold
    obtain ⟨hq, -, hm⟩ := hstill
    rw [hcq, hl, ha] at hq
    simp only [if_pos (hlost.mp hl)]
    exact ⟨t, ht, htouch, by rw [hq]; rfl, by rw [hq]; rfl, by rw [hq]; rfl, hm _ hreport, by rw [hq]; rfl,
      hm _ (mem_conflictFound_lost (a := a) (by rw [hxq]; exact ha) hl)⟩
  · simp only [if_neg (hlost.not.mp hl)]
    rw [Bool.not_eq_true] at hl
    have hcs : ((x.conflictFound u).seq u).slot = some a := by rw [hcq, hl]; exact ha
    have hnone : (((x.conflictFound u).conflictMove u).seq u).jog = none := by rw [conflictMove_keeps]; exact hcj
    have hmet : SeqTold ((x.conflictFound u).conflictMove u) t u := by
      rw [hl] at htold
      change SeqTold (((x.conflictFound u).conflictMove u).haltJog u .lockConflict) t u at htold
      rwa [haltJog_of_none hnone] at htold
    obtain ⟨hq, -, hm⟩ := id hmet
    have hkeep := conflictMove_keeps (x.conflictFound u) u
    have hsent := ((SeqActs.refl u (x.conflictFound u)).conflictMove).sent
    have hmeet := conflictMove_meets hcs
    have ended {o : MoveOutcome} {r : Reason} (h : MoveEnded (x.conflictFound u) ((x.conflictFound u).conflictMove u) u a o r) :
        MoveEnded s t u a o r := by
      refine MoveEnded.told (h.congr (by rw [hcq]) ?_ rfl rfl fun _ => id) hmet
      rw [(conflictFound_seqActs x u).touches.2, hx]
      rfl
    refine ⟨t, ht, htouch, ?_, ?_, ?_, hm _ (hsent.subset hreport), ?_⟩
    · rw [hq, hkeep, hcq]; rfl
    · rw [hq, hkeep, hcq]; rfl
    · rw [hq, hkeep, hcq]; rfl
    · cases hst : a.stage <;> simp only [hst] at hmeet
      case travel | settle | suspending => exact ⟨by rw [hq]; exact hmeet.1, hm _ hmeet.2⟩
      case halting => exact (by rw [hq]; exact hmeet)
      case liftBrake => exact ⟨ended hmeet.1, by rw [hq]; exact hmeet.2⟩
      all_goals exact ⟨ended hmeet.1, by rw [hq]; exact hmeet.2⟩

/-- A withdrawal completes under the rotation jog that waits for it (R68, R70, R85). -/
theorem lockInputs_jogLifts {s : State} {u : Tier} {j : Jog} (hs : s.held = false) (hj : (s.seq u).jog = some j)
    (hslot : (s.seq u).slot = none) (ht : j.target = .rotation) (hst : j.stage = .withdrawLock)
    (hrun : (s.seq u).lockTimer.isSome = true) (hc : (s.seq u).lockCmd = .withdraw) (ho : (s.seq u).lockOut = false)
    (hp : (s.pair u).toldStowed = true) :
    ∃ t, exec (.lockInputChange u false true) s = .next t ∧ TouchesOnlySeq s t u ∧
      t.seq u = told { s.seq u with
        lockIn := false, lockOut := true, lockState := .withdrawn, lockTimer := none, braked := false
        station := if (s.seq u).lockState = .engaged then none else (s.seq u).station
        jog := some { j with stage := .liftBrake } } ∧
      Instr.brakeReleaseOrder ⟨u, .R⟩ .jog ∈ t.mail := by
  obtain ⟨t, ht', htouch, hq, -, hm⟩ := exec_lockInputs (u := u) (i := false) (o := true) hs (by simp [ho])
  obtain ⟨x, hx⟩ : ∃ x, x = s.withInputs u false true := ⟨_, rfl⟩
  have hxq : x.seq u = (s.seq u).withInputs false true := by rw [hx, withInputs_seq]
  have htr : (x.seq u).transition = some .withdraw := by
    rw [hxq, withInputs_transition, transition_of_some hrun, hc]
  have hf : (x.seq u).found = .withdrawn := by rw [hxq, withInputs_found, ← withInputs_transition _ false true, ← hxq, htr]; rfl
  have hlost : (x.seq u).losesLock = false := losesLock_of_slot_none (by rw [hxq]; exact hslot)
  obtain ⟨hlift, hsent⟩ := withdrawalDone_jogLifts (s := x.lockFound u) (u := u) (j := j)
    (by rw [lockFound_seq, hxq]; exact hslot) (by rw [lockFound_seq, hxq]; exact hj) hst ht
    (by rw [lockFound_pair, hx]; exact hp)
  rw [← hx, refindLock_withdrawn htr hf, hlost] at hq hm
  refine ⟨t, ht', htouch, hq.trans (congrArg told (hlift.trans ?_)), hm _ hsent⟩
  rw [lockFound_seq]
  unfold Seq.refound
  rw [hf, hxq]
  simp [Seq.withInputs]

/-- A conflict met by a jog, as a stop at a_qs (R77, R86). -/
theorem lockInputs_jogMeets {s : State} {u : Tier} {j : Jog} (hs : s.held = false) (hj : (s.seq u).jog = some j)
    (hslot : (s.seq u).slot = none) (i : Bool) (hne : (s.seq u).lockIn ≠ i ∨ (s.seq u).lockOut ≠ i)
    (htr : (s.seq u).lockTimer = none ∨ i = true) (hnc : (s.seq u).lockState ≠ .conflicted)
    (hp : (s.tier u).present = true) :
    ∃ t, exec (.lockInputChange u i i) s = .next t ∧ TouchesOnlySeq s t u ∧
      JogMeets { s.seq u with
        lockIn := i, lockOut := i, lockState := .conflicted, lockTimer := none
        pendingStation := if (s.seq u).lockTimer.isSome then none else (s.seq u).pendingStation
        station := if (s.seq u).lockState = .engaged then none else (s.seq u).station
        inhibit := some ((s.seq u).inhibit.getD .lockConflict) } t u j .lockConflict .aqs := by
  obtain ⟨x, hx⟩ : ∃ x, x = s.withInputs u i i := ⟨_, rfl⟩
  obtain ⟨hf, hmeets, hcq⟩ := withInputs_conflict htr hnc hp x hx
  have hlost : (x.seq u).losesLock = false := losesLock_of_slot_none (by rw [hx, withInputs_seq]; exact hslot)
  rw [hlost, hslot, if_neg (by decide)] at hcq
  have hcs : ((x.conflictFound u).seq u).slot = none := by rw [hcq]
  have hcj : ((x.conflictFound u).seq u).jog = some j := by rw [hcq]; exact hj
  have e : x.refindLock u = (x.conflictFound u).haltJog u .lockConflict := by
    rw [refindLock_conflicted hf, hmeets]
    simp only [State.when, conflictMove_of_none hcs, ite_self, if_true]
  have hmeet := haltJog_meets (x.conflictFound u) u .lockConflict hcs hcj
  rw [← e, hcq] at hmeet
  refine ⟨(x.refindLock u).seqReport u, ?_, ?_, ?_⟩
  · refine ((execLockInputChange.eq_1 ..).trans (inputChange_of_not_held _ _ _ hs)).trans ?_
    rw [hx]
    exact congrArg _ (if_neg (by rwa [not_and_or]))
  · rw [hx]
    exact ((withInputs_acts s u i i).refindLock.seqReport).touches
  · rw [← hslot] at hmeet
    exact hmeet

/-! ### The lock timer -/

/-- The lock of `p` is that of `q`, and where `q` has no move `p` has none either, nor a new end. -/
def SameLock (q p : Seq) : Prop :=
  p.lockCmd = q.lockCmd ∧ p.lockTimer = q.lockTimer ∧ p.lockState = q.lockState ∧ p.inhibit = q.inhibit ∧
    (q.slot = none → p.slot = none ∧ p.ending = q.ending)

theorem SameLock.trans {q p r : Seq} (h : SameLock q p) (g : SameLock p r) : SameLock q r := by
  obtain ⟨h1, h2, h3, h4, h5⟩ := h
  obtain ⟨g1, g2, g3, g4, g5⟩ := g
  exact ⟨g1.trans h1, g2.trans h2, g3.trans h3, g4.trans h4, fun hs =>
    ⟨(g5 (h5 hs).1).1, ((g5 (h5 hs).1).2).trans (h5 hs).2⟩⟩

theorem SameLock.when {s : State} {u : Tier} {b : Bool} {f : State → State}
    (h : SameLock (s.seq u) ((f s).seq u)) : SameLock (s.seq u) ((s.when b f).seq u) := by
  unfold State.when
  split
  · exact h
  · exact ⟨rfl, rfl, rfl, rfl, fun hs => ⟨hs, rfl⟩⟩

theorem conflictMove_sameLock (s : State) (u : Tier) : SameLock (s.seq u) ((s.conflictMove u).seq u) := by
  refine ⟨by rw [conflictMove_keeps], by rw [conflictMove_keeps], by rw [conflictMove_keeps], by rw [conflictMove_keeps],
    fun hs => ?_⟩
  rw [conflictMove_of_none hs]
  exact ⟨hs, rfl⟩

theorem haltJog_sameLock (s : State) (u : Tier) (c : JogEnd) : SameLock (s.seq u) ((s.haltJog u c).seq u) := by
  rw [haltJog_keeps]
  exact ⟨rfl, rfl, rfl, rfl, fun hs => ⟨hs, rfl⟩⟩

theorem losePosture_sameLock (s : State) (u : Tier) (k : Kind) (r : Reason) :
    SameLock (s.seq u) ((s.losePosture u k r).seq u) := by
  cases hs : (s.seq u).slot with
  | none =>
    have e : s.losePosture u k r = s := by
      unfold State.losePosture
      rw [hs]
    rw [e]
    exact ⟨rfl, rfl, rfl, rfl, fun h => ⟨h, rfl⟩⟩
  | some a =>
    rw [losePosture_seq hs]
    exact ⟨rfl, rfl, rfl, rfl, fun h => absurd (hs.symm.trans h) (by simp)⟩

/-- What finding the lock state again leaves of the lock once no transition runs (R67, R77). -/
theorem refindLock_rest {s : State} {u : Tier} (hn : (s.seq u).lockTimer = none) :
    SameLock { s.seq u with
      lockState := lockStateOf (s.seq u).lockIn (s.seq u).lockOut none
      inhibit := ((s.refindLock u).seq u).inhibit } ((s.refindLock u).seq u) ∧
    ((s.tier u).present = true → (s.seq u).inhibit ≠ none → ((s.refindLock u).seq u).inhibit = (s.seq u).inhibit) ∧
    ((s.tier u).present = false → ((s.refindLock u).seq u).inhibit = (s.seq u).inhibit) := by
  have htr := transition_of_none hn
  have hf : (s.seq u).found = lockStateOf (s.seq u).lockIn (s.seq u).lockOut none := by rw [Seq.found, htr]
  by_cases hc : (s.seq u).found = .conflicted
  · have hq := conflictFound_seq s u
    have hsame := ((conflictMove_sameLock (s.conflictFound u) u).when
      (b := s.meetsConflict u && !(s.seq u).losesLock) (f := fun s => s.conflictMove u)).trans
      ((haltJog_sameLock _ u .lockConflict).when (b := s.meetsConflict u) (f := fun s => s.haltJog u .lockConflict))
    rw [← refindLock_conflicted hc] at hsame
    obtain ⟨h1, h2, h3, h4, h5⟩ := hsame
    rw [hq] at h1 h2 h3 h4 h5
    refine ⟨⟨h1, h2.trans hn.symm, h3.trans hf, rfl, fun hs => ?_⟩, fun hp hi => ?_, fun hp => ?_⟩
    · have hs' : (s.seq u).slot = none := hs
      exact h5 (by rw [losesLock_of_slot_none hs']; exact hs')
    · rw [h4]
      cases hin : (s.seq u).inhibit with
      | none => exact absurd hin hi
      | some k => simp
    · rw [h4]
      simp [hp]
  · have hsame := (losePosture_sameLock (s.lockFound u) u .lockLost .lockLost).when (b := (s.seq u).losesLock)
      (f := fun s => s.losePosture u .lockLost .lockLost)
    rw [← refindLock_still (by simp [htr]) (by simp [htr]) hc] at hsame
    obtain ⟨h1, h2, h3, h4, h5⟩ := hsame
    rw [lockFound_seq] at h1 h2 h3 h4 h5
    exact ⟨⟨h1, h2, h3.trans hf, rfl, h5⟩, fun _ _ => h4, fun _ => h4⟩

/-- The timer runs out: LOCK_CMD is back at ENGAGE, and the tier is inhibited (R68, R77). -/
def State.timedOut (s : State) (u : Tier) : State :=
  (s.modSeq u fun q =>
    { q with
      lockTimer := none
      lockCmd := .engage
      pendingStation := if (s.seq u).lockCmd = .withdraw then q.pendingStation else none }).tierCause u .lockTimeout

theorem timedOut_seq (s : State) (u : Tier) :
    (s.timedOut u).seq u = { s.seq u with
      lockTimer := none
      lockCmd := .engage
      pendingStation := if (s.seq u).lockCmd = .withdraw then (s.seq u).pendingStation else none
      inhibit := if (s.tier u).present then some ((s.seq u).inhibit.getD .lockTimeout) else (s.seq u).inhibit } := by
  unfold State.timedOut
  rw [tierCause_seq, modSeq_seq_self]
  rfl

theorem timedOut_acts (s : State) (u : Tier) : SeqActs u s (s.timedOut u) :=
  ((SeqActs.refl u s).modSeq _ id id).tierCause _

/-- The move of a tier waits for the transition whose timer has run out (R68, R70, R75, R79). -/
def Seq.waitsForLock (q : Seq) : Bool :=
  match q.slot with
  | some a =>
    if q.lockCmd = .withdraw then
      a.stage == .withdrawLock || (a.stage == .suspended && a.context == some .withdrawLock)
    else a.stage == .engageLock
  | none => false

theorem lockTimedOut_eq (s : State) (u : Tier) :
    s.lockTimedOut u =
      (((s.timedOut u).when (s.seq u).waitsForLock fun s => s.endMove u .failed .lockTimeout).when
        (decide ((s.seq u).lockCmd = .withdraw) && ((s.seq u).jog.map (·.stage) == some .withdrawLock)) fun s =>
          s.endJog u).refindLock u := rfl

theorem waitsForLock_iff {q : Seq} {a : Active} (h : q.slot = some a) : q.waitsForLock = true ↔
    q.lockCmd = .withdraw ∧ (a.stage = .withdrawLock ∨ a.stage = .suspended ∧ a.context = some .withdrawLock) ∨
      q.lockCmd = .engage ∧ a.stage = .engageLock := by
  unfold Seq.waitsForLock
  rw [h]
  cases q.lockCmd <;> simp

theorem endMove_sameLock (s : State) (u : Tier) (o : MoveOutcome) (r : Reason) :
    ((s.endMove u o r).seq u).lockCmd = (s.seq u).lockCmd ∧ ((s.endMove u o r).seq u).lockTimer = (s.seq u).lockTimer ∧
      ((s.endMove u o r).seq u).lockIn = (s.seq u).lockIn ∧ ((s.endMove u o r).seq u).lockOut = (s.seq u).lockOut ∧
      ((s.endMove u o r).seq u).inhibit = (s.seq u).inhibit := by
  cases hs : (s.seq u).slot with
  | none =>
    rw [endMove_of_none hs]
    exact ⟨rfl, rfl, rfl, rfl, rfl⟩
  | some a =>
    rw [endMove_seq hs]
    exact ⟨rfl, rfl, rfl, rfl, rfl⟩

/-- The lock timer running out (R68, R70, R75, R77). -/
theorem lockTimedOut_spec (s : State) (u : Tier) :
    ((s.lockTimedOut u).seq u).lockCmd = .engage ∧ ((s.lockTimedOut u).seq u).lockTimer = none ∧
      ((s.lockTimedOut u).seq u).lockState = lockStateOf (s.seq u).lockIn (s.seq u).lockOut none ∧
      ((s.lockTimedOut u).seq u).inhibit =
        (if (s.tier u).present then some ((s.seq u).inhibit.getD .lockTimeout) else (s.seq u).inhibit) ∧
      ∀ a, (s.seq u).slot = some a →
        ((s.seq u).lockCmd = .withdraw ∧
            (a.stage = .withdrawLock ∨ a.stage = .suspended ∧ a.context = some .withdrawLock) ∨
          (s.seq u).lockCmd = .engage ∧ a.stage = .engageLock) →
        MoveEnded s (s.lockTimedOut u) u a .failed .lockTimeout := by
  obtain ⟨x, hx⟩ : ∃ x, x = (s.timedOut u).when (s.seq u).waitsForLock fun s => s.endMove u .failed .lockTimeout := ⟨_, rfl⟩
  obtain ⟨y, hy⟩ : ∃ y, y = x.when
      (decide ((s.seq u).lockCmd = .withdraw) && ((s.seq u).jog.map (·.stage) == some .withdrawLock)) fun s =>
        s.endJog u := ⟨_, rfl⟩
  have e : s.lockTimedOut u = y.refindLock u := by rw [lockTimedOut_eq, hy, hx]
  have hxs : SeqActs u s x := by
    rw [hx]
    exact (timedOut_acts s u).when _ fun _ h => h.endMove _ _
  have hys : SeqActs u x y := by
    rw [hy]
    exact (SeqActs.refl u x).when _ fun _ h => h.endJog
  have hxq : (x.seq u).lockCmd = .engage ∧ (x.seq u).lockTimer = none ∧ (x.seq u).lockIn = (s.seq u).lockIn ∧
      (x.seq u).lockOut = (s.seq u).lockOut ∧ (x.seq u).inhibit =
        if (s.tier u).present then some ((s.seq u).inhibit.getD .lockTimeout) else (s.seq u).inhibit := by
    have htq := timedOut_seq s u
    rw [hx]
    unfold State.when
    split
    · obtain ⟨h1, h2, h3, h4, h5⟩ := endMove_sameLock (s.timedOut u) u .failed .lockTimeout
      rw [htq] at h1 h2 h3 h4 h5
      exact ⟨h1, h2, h3, h4, h5⟩
    · rw [htq]
      exact ⟨rfl, rfl, rfl, rfl, rfl⟩
  have hyq : y.seq u = { x.seq u with jog := (y.seq u).jog } := by
    rw [hy]
    unfold State.when
    split
    · exact (endJog_seq x u).trans (by rw [endJog_seq])
    · rfl
  obtain ⟨hcmd, htimer, hin, hout, hinh⟩ := hxq
  have hyp : (y.tier u).present = (s.tier u).present := by rw [(hxs.trans hys).touches.2]; rfl
  obtain ⟨⟨g1, g2, g3, -, g5⟩, gp, gn⟩ := refindLock_rest (s := y) (u := u) (by rw [hyq]; exact htimer)
  rw [← e, hyq] at g1 g2 g3 g5 gp gn
  refine ⟨g1.trans hcmd, g2.trans htimer, g3.trans (by dsimp only; rw [hin, hout]), ?_, fun a ha hw => ?_⟩
  · rw [← hinh]
    cases hp : (s.tier u).present
    · exact gn (hyp.trans hp)
    · refine gp (hyp.trans hp) ?_
      dsimp only
      rw [hinh, if_pos hp]
      simp
  · have hslot : ((s.timedOut u).seq u).slot = some a := by rw [timedOut_seq]; exact ha
    have hxe : x = (s.timedOut u).endMove u .failed .lockTimeout := by
      rw [hx, (waitsForLock_iff ha).mpr hw]
      rfl
    have hend : MoveEnded s x u a .failed .lockTimeout := by
      rw [hxe]
      exact endMove_ended (timedOut_acts s u) hslot (by rw [timedOut_seq]) _ _
    obtain ⟨hs1, hs2⟩ := g5 hend.1
    refine hend.congr rfl rfl (hs1.trans hend.1.symm) hs2 fun m hm => ?_
    rw [e]
    exact (hys.sent.trans ((SeqActs.refl u y).refindLock.sent)).subset hm

/-- Settles O44: the lock state found again from its inputs, under nothing, a move and a jog, and its timer running out. -/
theorem theLockFollowsItsInputs : Obligations.TheLockFollowsItsInputs := by
  intro u s hs
  refine ⟨?_, fun i o hslot hjog hne => lockInputs_idle hs i o hslot hjog hne,
    fun i o hne hrun hnot hlost => lockInputs_running hs i o hne hrun hnot hlost,
    fun i o hne hn hio hlost => lockInputs_resting hs i o hne hn hio hlost,
    fun a ha hjog => ⟨fun n hg hst hrun hc ho hp => lockInputs_withdrawn hs ha (by rw [hg]; rfl) hst hrun hc ho hp,
      fun n hg hst hrun hc hi => lockInputs_engaged hs ha hg hst hrun hc hi,
      fun i hne htr hnc hp => lockInputs_conflict hs ha hjog i hne htr hnc hp,
      fun hk hst hl hn ho => lockInputs_lost hs ha hk hst hl hn ho⟩,
    fun j hj hslot => ⟨fun ht hst hrun hc ho hp => lockInputs_jogLifts hs hj hslot ht hst hrun hc ho hp,
      fun i hne htr hnc hp => lockInputs_jogMeets hs hj hslot i hne htr hnc hp⟩, fun hd => ?_, fun hd => ?_⟩
  · refine ((execLockInputChange.eq_1 ..).trans (inputChange_of_not_held _ _ _ hs)).trans ?_
    exact congrArg _ (if_pos ⟨rfl, rfl⟩)
  · refine (exec_live (.lockTimerExpiry u) (execLockTimerExpiry.eq_1 ..) hs).trans ?_
    exact congrArg _ (if_neg (by
      rw [Bool.not_eq_true]
      exact hd))
  · obtain ⟨t, ht, htouch, htold⟩ := exec_seq (.lockTimerExpiry u) (s := s) (execLockTimerExpiry.eq_1 ..) hs (if_pos hd)
      ((SeqActs.refl u (s.taken (.lockTimerExpiry u))).lockTimedOut)
    obtain ⟨h1, h2, h3, h4, h5⟩ := lockTimedOut_spec (s.taken (.lockTimerExpiry u)) u
    have hq := htold.1
    exact ⟨t, ht, htouch, by rw [hq]; exact h1, by rw [hq]; exact h2, by rw [hq]; exact h3, by rw [hq]; exact h4,
      fun a ha hw => (h5 a ha hw).told htold⟩

end Sys2Proof.Machine

/-! SUPPORT. What the lift, settle and set reports do to the active move (R72 to R75, R120). -/

namespace Sys2Proof.Machine

open Sys2Proof

/-! ### The lift -/

/-- The order with which a move begins TRAVEL (R72). -/
def State.moveTravelOrder (s : State) (u : Tier) (m : MoveRec) : Instr :=
  match m.goal with
  | .rotate n => .travelOrder u (256 * (s.stationAngle u n).getD 0) m.cls
  | .tilt h => .pairTravelOrder u (256 * h) m.cls

/-- A lift that ends in LIFT_BRAKE begins TRAVEL (R72). -/
theorem liftDone_travels {s : State} {u : Tier} {a : Active} (h : (s.seq u).slot = some a) (hst : a.stage = .liftBrake)
    (hb : (s.seq u).braked = false) :
    (s.liftDone u (a.move.goal.kind == .rotate)).seq u =
        { s.seq u with slot := some { a with stage := .travel, entered := true } } ∧
      s.moveTravelOrder u a.move ∈ (s.liftDone u (a.move.goal.kind == .rotate)).mail := by
  have hq := modActive_seq h fun a => { a with stage := .travel, entered := true }
  have e : s.liftDone u (a.move.goal.kind == .rotate) =
      (s.modActive u fun a => { a with stage := .travel, entered := true }).emit (s.moveTravelOrder u a.move) := by
    unfold State.liftDone State.moveTravelOrder
    simp only [turns_of_slot h, hb, h, hst, bne_self_eq_false, Bool.or_self, Bool.false_eq_true, if_false, if_true]
    cases hg : a.move.goal with
    | rotate n =>
      dsimp only
      rw [Int.mul_comm]
      rfl
    | tilt n =>
      dsimp only
      rw [Int.mul_comm]
      rfl
  rw [e]
  exact ⟨hq, by simp⟩

/-! ### The settle -/

/-- A settle that ends in SETTLE begins SET_BRAKE (R73). -/
theorem seqSettleEnd_brakes {s : State} {u : Tier} {a : Active} (h : (s.seq u).slot = some a) (hst : a.stage = .settle) :
    MoveBrakes (s.seq u) ((s.seqSettleEnd u).seqReport u) u a := by
  have e : s.seqSettleEnd u = s.enterSetBrake u := by
    unfold State.seqSettleEnd Seq.stage
    rw [h, Option.map_some, hst, if_pos rfl]
  rw [e]
  exact (enterSetBrake_brakes s u a h).1

/-- A settle that times out inhibits the tier, marks the move and begins SET_BRAKE (R73, R77). -/
theorem seqSettleTimeout_brakes {s : State} {u : Tier} {a : Active} (h : (s.seq u).slot = some a) (hst : a.stage = .settle) :
    ((s.seqSettleTimeout u).seqReport u).seq u = told { s.seq u with
        slot := some { a with stage := .setBrake, settleTimedOut := true }, braked := true
        inhibit := if (s.tier u).present then some ((s.seq u).inhibit.getD .settleTimeout) else (s.seq u).inhibit } ∧
      ((s.tier u).present = true →
        Instr.tierCauseReport u .settleTimeout (some a.move.number) ∈ ((s.seqSettleTimeout u).seqReport u).mail) := by
  obtain ⟨x, hx⟩ : ∃ x, x = (s.tierCause u .settleTimeout).modActive u fun a => { a with settleTimedOut := true } := ⟨_, rfl⟩
  have hcause : ((s.tierCause u .settleTimeout).seq u).slot = some a := by rw [tierCause_seq]; exact h
  have hxq : x.seq u = { s.seq u with
      slot := some { a with settleTimedOut := true }
      inhibit := if (s.tier u).present then some ((s.seq u).inhibit.getD .settleTimeout) else (s.seq u).inhibit } := by
    rw [hx, modActive_seq hcause, tierCause_seq]
  have e : s.seqSettleTimeout u = x.enterSetBrake u := by
    unfold State.seqSettleTimeout Seq.stage
    rw [h, Option.map_some, hst, if_pos rfl, hx]
  have hbr := (enterSetBrake_brakes x u { a with settleTimedOut := true } (by rw [hxq])).1
  rw [e]
  refine ⟨by rw [hbr.1, hxq], fun hp => ?_⟩
  have hm := mem_tierCause hp .settleTimeout
  rw [h] at hm
  refine (((SeqActs.refl u x).enterSetBrake).seqReport).sent.subset ?_
  rw [hx]
  exact hm

/-- A sequencer acts behind its tier's pair unit, which is as it stands. -/
theorem touches_behind_pair {s x t : State} {u : Tier} (f : PairUnit → PairUnit) (hx : x = s.modPair u f)
    (h : SeqActs u x t) : (∀ v, v ≠ u → t.pair v = s.pair v) ∧ TouchesOnlySeq { s with pairs := t.pairs } t u ∧
      t.pair u = f (s.pair u) := by
  have hp : t.pairs = x.pairs := by rw [h.touches.2]
  refine ⟨fun v hv => ?_, ?_, ?_⟩
  · unfold State.pair
    rw [hp, hx]
    exact (State.modPair_pair ..).trans (if_neg hv)
  · rw [hp]
    have := h.touches
    rw [hx] at this ⊢
    exact this
  · unfold State.pair
    rw [hp, hx]
    exact (State.modPair_pair ..).trans (if_pos rfl)

/-- A jack's settle end: the pair's settle ends once both jacks have ended (R120). -/
theorem jackSettled_spec {s : State} {u : Tier} {a : Active} (j : Jack) (h : (s.seq u).slot = some a) (hst : a.stage = .settle)
    (hk : a.move.goal.kind = .tilt) (hp : (s.pair u).phase = .settle) (t : State) (ht : t = s.jackSettled u j) :
    (∀ v, v ≠ u → t.pair v = s.pair v) ∧ TouchesOnlySeq { s with pairs := t.pairs } t u ∧
      if (s.pair u).gather.jack (Jack.other j) = .ended then
        t.pair u = { s.pair u with gather := (s.pair u).gather.setJack j .ended, phase := .still } ∧
        t.seq u = told { s.seq u with slot := some { a with stage := .setBrake }, braked := true } ∧
        ((s.seq u).braked = false → Instr.pairApplyOrder u ∈ t.mail)
      else t.pair u = { s.pair u with gather := (s.pair u).gather.setJack j .ended } ∧ t.seq u = s.seq u := by
  have hboth : (((s.pair u).gather.setJack j .ended).a = .ended ∧ ((s.pair u).gather.setJack j .ended).b = .ended) ↔
      (s.pair u).gather.jack (Jack.other j) = .ended := by
    cases j <;> simp [Both.setJack, Both.jack, Jack.other]
  unfold State.jackSettled at ht
  dsimp only at ht
  rw [if_neg (by simp [hp])] at ht
  by_cases hb : (s.pair u).gather.jack (Jack.other j) = .ended
  · rw [if_pos (hboth.mpr hb)] at ht
    obtain ⟨x, hx⟩ : ∃ x, x = s.modPair u fun p => { p with gather := (s.pair u).gather.setJack j .ended, phase := .still } :=
      ⟨_, rfl⟩
    have hxe : ((s.modPair u fun p => { p with gather := (s.pair u).gather.setJack j .ended }).modPair u fun p =>
        { p with phase := .still }) = x := by
      rw [hx]
      unfold State.modPair
      simp
    rw [hxe] at ht
    have hacts : SeqActs u x t := by rw [ht]; exact ((SeqActs.refl u x).seqSettleEnd).seqReport
    obtain ⟨h1, h2, h3⟩ := touches_behind_pair _ hx hacts
    have hxs : x.seq u = s.seq u := by rw [hx]; rfl
    obtain ⟨hq, hm⟩ := seqSettleEnd_brakes (s := x) (u := u) (a := a) (by rw [hxs]; exact h) hst
    rw [← ht, hxs] at hq hm
    rw [if_pos hb]
    exact ⟨h1, h2, h3, hq, fun hbr => by simpa [hk] using hm hbr⟩
  · rw [if_neg (hboth.not.mpr hb)] at ht
    obtain ⟨h1, h2, h3⟩ := touches_behind_pair _ ht (SeqActs.refl u t)
    rw [if_neg hb]
    exact ⟨h1, h2, h3, by rw [ht]; rfl⟩

/-- A jack's settle timeout is its pair's at once (R120). -/
theorem jackTimedOut_spec {s : State} {u : Tier} {a : Active} (j : Jack) (h : (s.seq u).slot = some a) (hst : a.stage = .settle)
    (hp : (s.pair u).phase = .settle) (t : State) (ht : t = s.jackTimedOut u j) :
    (∀ v, v ≠ u → t.pair v = s.pair v) ∧ TouchesOnlySeq { s with pairs := t.pairs } t u ∧
      t.pair u = { s.pair u with gather := (s.pair u).gather.setJack j .timedOut, phase := .still } ∧
      (t.seq u).slot = some { a with stage := .setBrake, settleTimedOut := true } := by
  unfold State.jackTimedOut at ht
  dsimp only at ht
  rw [if_neg (by simp [hp])] at ht
  obtain ⟨x, hx⟩ : ∃ x, x = s.modPair u fun p => { p with gather := p.gather.setJack j .timedOut, phase := .still } := ⟨_, rfl⟩
  rw [← hx] at ht
  have hacts : SeqActs u x t := by rw [ht]; exact ((SeqActs.refl u x).seqSettleTimeout).seqReport
  obtain ⟨h1, h2, h3⟩ := touches_behind_pair _ hx hacts
  obtain ⟨hq, -⟩ := seqSettleTimeout_brakes (s := x) (u := u) (a := a) (by rw [hx]; exact h) hst
  rw [← ht] at hq
  exact ⟨h1, h2, h3, by rw [hq]; rfl⟩

/-! ### The engagement after a ROTATE -/

/-- A lock transition written, before the lock state is found again (R68, R69). -/
def State.lockStarted (s : State) (u : Tier) (c : LockCmd) : State :=
  s.modSeq u fun q =>
    { q with
      lockCmd := c
      lockTimer := some ⟨s.clock, (s.tier u).lockTime⟩
      station := if c = .withdraw then none else q.station
      pendingStation := if c = .withdraw then none else q.pendingStation }

theorem startLock_eq (s : State) (u : Tier) (c : LockCmd) : s.startLock u c = (s.lockStarted u c).refindLock u := rfl

theorem lockStarted_seq (s : State) (u : Tier) (c : LockCmd) : (s.lockStarted u c).seq u =
    { s.seq u with
      lockCmd := c
      lockTimer := some ⟨s.clock, (s.tier u).lockTime⟩
      station := if c = .withdraw then none else (s.seq u).station
      pendingStation := if c = .withdraw then none else (s.seq u).pendingStation } := modSeq_seq_self ..

theorem lockStarted_transition (s : State) (u : Tier) (c : LockCmd) : ((s.lockStarted u c).seq u).transition = some c := by
  rw [lockStarted_seq]
  rfl

theorem lockStarted_found (s : State) (u : Tier) (c : LockCmd) :
    ((s.lockStarted u c).seq u).found = lockStateOf (s.seq u).lockIn (s.seq u).lockOut (some c) := by
  rw [lockStarted_seq]
  rfl

theorem lockStarted_acts (s : State) (u : Tier) (c : LockCmd) : SeqActs u s (s.lockStarted u c) :=
  (SeqActs.refl u s).modSeq _ id id

/-- An engagement that waits for the bolt (R68, R75). -/
theorem startLock_engaging {s : State} {u : Tier} (hi : (s.seq u).lockIn = false) (ho : (s.seq u).lockOut = true)
    (hr : ∀ a, (s.seq u).slot = some a → a.move.goal.kind = .rotate) :
    (s.startLock u .engage).seq u = { s.seq u with
      lockCmd := .engage, lockTimer := some ⟨s.clock, (s.tier u).lockTime⟩, lockState := .engaging
      station := if (s.seq u).lockState = .engaged then none else (s.seq u).station } := by
  have htr := lockStarted_transition s u .engage
  have hf : ((s.lockStarted u .engage).seq u).found = .engaging := by rw [lockStarted_found, hi, ho]; rfl
  have hlost : ((s.lockStarted u .engage).seq u).losesLock = false := by
    cases hs : (s.seq u).slot with
    | none => exact losesLock_of_slot_none (by rw [lockStarted_seq]; exact hs)
    | some a => exact losesLock_of_rotate (a := a) (by rw [lockStarted_seq]; exact hs) (hr a hs)
  rw [startLock_eq, refindLock_still (by simp [htr]) (by simp [hf]) (by simp [hf]), hlost]
  refine (lockFound_seq ..).trans ?_
  unfold Seq.refound
  rw [hf, lockStarted_seq]
  simp

/-- LOCK_CMD stands through the lock state found again. -/
theorem refindLock_lockCmd {s : State} {u : Tier} (h : (s.seq u).transition = some .engage) :
    ((s.refindLock u).seq u).lockCmd = (s.seq u).lockCmd := by
  by_cases he : (s.seq u).found = .engaged
  · rw [refindLock_engaged h he, engagementDone_eq]
    split
    · rw [(endMove_sameLock ..).1, engagedFound_seq, lockFound_seq]
      rfl
    · rw [engagedFound_seq, lockFound_seq]
      rfl
  by_cases hc : (s.seq u).found = .conflicted
  · have hsame := ((conflictMove_sameLock (s.conflictFound u) u).when
      (b := s.meetsConflict u && !(s.seq u).losesLock) (f := fun s => s.conflictMove u)).trans
      ((haltJog_sameLock _ u .lockConflict).when (b := s.meetsConflict u) (f := fun s => s.haltJog u .lockConflict))
    rw [refindLock_conflicted hc, hsame.1, conflictFound_seq]
    rfl
  · have hsame := (losePosture_sameLock (s.lockFound u) u .lockLost .lockLost).when (b := (s.seq u).losesLock)
      (f := fun s => s.losePosture u .lockLost .lockLost)
    rw [refindLock_still (by simp [h]) (fun e => he e.2) hc, hsame.1, lockFound_seq]
    rfl

/-- The move of a ROTATE whose brakes are set enters ENGAGE_LOCK, and ends at once where the lock is engaged (R75). -/
theorem enterEngage_spec {s : State} {u : Tier} {a : Active} {n : Station} (h : (s.seq u).slot = some a)
    (hg : a.move.goal = .rotate n) :
    ((s.enterEngage u).seq u).lockCmd = .engage ∧
      ((s.seq u).lockIn = true → (s.seq u).lockOut = false →
        MoveEnded s (s.enterEngage u) u { a with stage := .engageLock } .done .none ∧
          ((s.enterEngage u).seq u).station = some n) ∧
      ((s.seq u).lockIn = false → (s.seq u).lockOut = true →
        ((s.enterEngage u).seq u).slot = some { a with stage := .engageLock } ∧
          ((s.enterEngage u).seq u).lockState = .engaging ∧
          ((s.enterEngage u).seq u).lockTimer = some ⟨s.clock, (s.tier u).lockTime⟩) := by
  obtain ⟨x, hx⟩ : ∃ x, x = s.modActive u fun a => { a with stage := .engageLock } := ⟨_, rfl⟩
  have hxq : x.seq u = { s.seq u with slot := some { a with stage := .engageLock } } := by
    rw [hx]
    exact modActive_seq h _
  have e : s.enterEngage u = x.startLock u .engage := by rw [hx]; rfl
  rw [e]
  refine ⟨?_, fun hi ho => ?_, fun hi ho => ?_⟩
  · rw [startLock_eq, refindLock_lockCmd (lockStarted_transition ..), lockStarted_seq]
  · have hf : ((x.lockStarted u .engage).seq u).found = .engaged := by rw [lockStarted_found, hxq, hi, ho]; rfl
    have hlq := lockFound_seq (x.lockStarted u .engage) u
    obtain ⟨hend, hstation, -⟩ := engagementDone_ends (s := (x.lockStarted u .engage).lockFound u) (u := u)
      (a := { a with stage := .engageLock }) (by rw [hlq]; unfold Seq.refound; rw [lockStarted_seq, hxq]) rfl hg
    rw [startLock_eq, refindLock_engaged (lockStarted_transition ..) hf]
    refine ⟨hend.congr ?_ ?_ rfl rfl fun _ => id, hstation⟩
    · rw [hlq]
      unfold Seq.refound
      rw [lockStarted_seq, hxq]
    · have hacts := (lockStarted_acts x u .engage).trans (lockFound_seqActs _ u)
      rw [hacts.touches.2, hx]
      rfl
  · rw [startLock_engaging (by rw [hxq]; exact hi) (by rw [hxq]; exact ho) (fun b hb => by
      rw [hxq] at hb
      obtain rfl := Option.some.inj hb
      exact congrArg Goal.kind hg), hxq, hx]
    exact ⟨rfl, rfl, rfl⟩

/-! ### SET_BRAKE completes -/

/-- What the set time's end makes of a move in SET_BRAKE (R74, R75). -/
theorem setDone_spec {s : State} {u : Tier} {a : Active} (h : (s.seq u).slot = some a) (hst : a.stage = .setBrake) (t : State)
    (ht : SeqTold (s.setDone u (a.move.goal.kind == .rotate)) t u) :
    match a.context, a.fixedEnd with
    | some _, _ => t.seq u = told { s.seq u with slot := some { a with stage := .suspended } }
    | none, some e => MoveEnded s t u a e.1 e.2
    | none, none =>
      if a.settleTimedOut then MoveEnded s t u a .failed .settleTimeout
      else
        match a.move.goal with
        | .tilt _ => MoveEnded s t u a .done .none
        | .rotate n =>
          (t.seq u).lockCmd = .engage ∧
          ((s.seq u).lockIn = true → (s.seq u).lockOut = false →
            MoveEnded s t u { a with stage := .engageLock } .done .none ∧ (t.seq u).station = some n) ∧
          ((s.seq u).lockIn = false → (s.seq u).lockOut = true →
            (t.seq u).slot = some { a with stage := .engageLock } ∧ (t.seq u).lockState = .engaging ∧
            (t.seq u).lockTimer = some ⟨s.clock, (s.tier u).lockTime⟩) := by
  have ended (o : MoveOutcome) (r : Reason) (e : s.setDone u (a.move.goal.kind == .rotate) = s.endMove u o r) :
      MoveEnded s t u a o r := by
    rw [e] at ht
    exact (endMove_ends s u a o r h).1.told ht
  have hturns := turns_of_slot h
  cases hc : a.context with
  | some c =>
    have e : s.setDone u (a.move.goal.kind == .rotate) = s.modActive u fun a => { a with stage := .suspended } := by
      simp [State.setDone, hturns, h, hst, hc]
    rw [e] at ht
    exact ht.1.trans (congrArg told (by rw [modActive_seq h, hc]))
  | none =>
    cases hfe : a.fixedEnd with
    | some e => exact ended e.1 e.2 (by simp [State.setDone, hturns, h, hst, hc, hfe])
    | none =>
      dsimp only
      split
      · next hto => exact ended .failed .settleTimeout (by simp [State.setDone, hturns, h, hst, hc, hfe, hto])
      · next hto =>
        cases hg : a.move.goal with
        | tilt n =>
          rw [hg] at ended
          exact ended .done .none (by simp [State.setDone, hturns, h, hst, hc, hfe, hto, hg])
        | rotate n =>
          have e : s.setDone u (a.move.goal.kind == .rotate) = s.enterEngage u := by
            simp [State.setDone, hturns, h, hst, hc, hfe, hto, hg]
          rw [e] at ht
          obtain ⟨h1, h2, h3⟩ := enterEngage_spec h hg
          rw [hc, hfe] at h2 h3
          have hq := ht.1
          refine ⟨by rw [hq]; exact h1, fun hi ho => ⟨(h2 hi ho).1.told ht, by rw [hq]; exact (h2 hi ho).2⟩, fun hi ho => ?_⟩
          rw [hq]
          exact h3 hi ho

/-- Settles O45: each report by the stage of the move that it finds. -/
theorem liftSetAndSettleReportsMoveTheStagesOn : Obligations.LiftSetAndSettleReportsMoveTheStagesOn := by
  intro u a s hs ha
  refine ⟨fun n hg hst hb => ?_, fun n hg hst hb => ?_, fun hst hk => ?_, fun hst hk => ?_, fun j hst hk hp => ⟨?_, ?_⟩,
    fun c hc hst => ?_⟩
  · obtain ⟨t, ht, htouch, hq, -, hm⟩ := exec_seq (.liftComplete u) (s := s) (execLiftComplete.eq_1 ..) hs (by rfl)
      ((SeqActs.refl u (s.taken (.liftComplete u))).liftDone true)
    obtain ⟨hlift, hsent⟩ := liftDone_travels (s := s.taken (.liftComplete u)) (a := a) ha hst hb
    rw [State.moveTravelOrder] at hsent
    simp only [hg] at hlift hsent
    exact ⟨t, ht, htouch, hq.trans (congrArg told hlift), hm _ hsent⟩
  · obtain ⟨t, ht, htouch, hq, -, hm⟩ := exec_seq (.pairLiftComplete u) (s := s) (execPairLiftComplete.eq_1 ..) hs (by rfl)
      ((SeqActs.refl u (s.taken (.pairLiftComplete u))).liftDone false)
    obtain ⟨hlift, hsent⟩ := liftDone_travels (s := s.taken (.pairLiftComplete u)) (a := a) ha hst hb
    rw [State.moveTravelOrder] at hsent
    simp only [hg] at hlift hsent
    exact ⟨t, ht, htouch, hq.trans (congrArg told hlift), hm _ hsent⟩
  · refine ⟨_, exec_live (.settleEnd ⟨u, .R⟩) (execSettleEnd.eq_1 ..) hs,
      (((SeqActs.refl u (s.taken (.settleEnd ⟨u, .R⟩))).seqSettleEnd).seqReport).touches, ?_⟩
    obtain ⟨hq, hm⟩ := seqSettleEnd_brakes (s := s.taken (.settleEnd ⟨u, .R⟩)) (a := a) ha hst
    exact ⟨hq, fun hb => by simpa [hk] using hm hb⟩
  · exact ⟨_, exec_live (.settleTimeout ⟨u, .R⟩) (execSettleTimeout.eq_1 ..) hs,
      (((SeqActs.refl u (s.taken (.settleTimeout ⟨u, .R⟩))).seqSettleTimeout).seqReport).touches,
      seqSettleTimeout_brakes (s := s.taken (.settleTimeout ⟨u, .R⟩)) (a := a) ha hst⟩
  · refine ⟨(s.taken (.settleEnd (jackAxis u j))).jackSettled u j, ?_,
      jackSettled_spec (s := s.taken (.settleEnd (jackAxis u j))) j ha hst hk hp _ rfl⟩
    refine (exec_live (.settleEnd (jackAxis u j)) (execSettleEnd.eq_1 ..) hs).trans ?_
    cases j <;> rfl
  · refine ⟨(s.taken (.settleTimeout (jackAxis u j))).jackTimedOut u j, ?_,
      jackTimedOut_spec (s := s.taken (.settleTimeout (jackAxis u j))) j ha hst hp _ rfl⟩
    refine (exec_live (.settleTimeout (jackAxis u j)) (execSettleTimeout.eq_1 ..) hs).trans ?_
    cases j <;> rfl
  · obtain ⟨rfl, hk⟩ | ⟨rfl, hk⟩ := hc
    · obtain ⟨t, ht, htouch, htold⟩ := exec_seq (.setComplete u) (s := s) (execSetComplete.eq_1 ..) hs (by rfl)
        ((SeqActs.refl u (s.taken (.setComplete u))).setDone true)
      exact ⟨t, ht, htouch, setDone_spec (s := s.taken (.setComplete u)) ha hst t (by rw [hk]; exact htold)⟩
    · obtain ⟨t, ht, htouch, htold⟩ := exec_seq (.pairSetComplete u) (s := s) (execPairSetComplete.eq_1 ..) hs (by rfl)
        ((SeqActs.refl u (s.taken (.pairSetComplete u))).setDone false)
      exact ⟨t, ht, htouch, setDone_spec (s := s.taken (.pairSetComplete u)) ha hst t (by rw [hk]; exact htold)⟩

end Sys2Proof.Machine

/-! SUPPORT. JOG, JOG_STOP and RESET_FAULT of a tier (R78, R84 to R87). -/

namespace Sys2Proof.Machine

open Sys2Proof

/-! ### WITHDRAW_LOCK -/

theorem lockFound_man (s : State) (u : Tier) : (s.lockFound u).man = s.man := by
  unfold State.lockFound State.when
  split
  · rw [requestPass_man]
    rfl
  · rfl

/-- A withdrawal that waits for the bolt (R68 to R70). -/
theorem startLock_withdrawing {s : State} {u : Tier} (ho : (s.seq u).lockOut = false)
    (hr : ∀ a, (s.seq u).slot = some a → a.move.goal.kind = .rotate) :
    (s.startLock u .withdraw).seq u = { s.seq u with
        lockCmd := .withdraw, lockTimer := some ⟨s.clock, (s.tier u).lockTime⟩, lockState := .withdrawing
        station := none, pendingStation := none } ∧
      (s.startLock u .withdraw).man = s.man := by
  have htr := lockStarted_transition s u .withdraw
  have hf : ((s.lockStarted u .withdraw).seq u).found = .withdrawing := by
    rw [lockStarted_found, ho]
    cases (s.seq u).lockIn <;> rfl
  have hlost : ((s.lockStarted u .withdraw).seq u).losesLock = false := by
    cases hs : (s.seq u).slot with
    | none => exact losesLock_of_slot_none (by rw [lockStarted_seq]; exact hs)
    | some a => exact losesLock_of_rotate (a := a) (by rw [lockStarted_seq]; exact hs) (hr a hs)
  rw [startLock_eq, refindLock_still (by simp [hf]) (by simp [htr]) (by simp [hf]), hlost]
  constructor
  · refine (lockFound_seq ..).trans ?_
    unfold Seq.refound
    rw [hf, lockStarted_seq]
    simp
  · exact (lockFound_man (s.lockStarted u .withdraw) u).trans rfl

/-- The occupant of a tier in WITHDRAW_LOCK, before its lock is looked at (R70). -/
def State.waiting (s : State) (u : Tier) : State :=
  (s.modActive u fun a => { a with stage := .withdrawLock, context := none }).modJog u fun j => { j with stage := .withdrawLock }

theorem waiting_seq (s : State) (u : Tier) : (s.waiting u).seq u = { s.seq u with
    slot := (s.seq u).slot.map fun a => { a with stage := .withdrawLock, context := none }
    jog := (s.seq u).jog.map fun j => { j with stage := .withdrawLock } } := by
  unfold State.waiting State.modJog
  rw [modSeq_seq_self, modActive_eq, modSeq_seq_self]

theorem waiting_acts (s : State) (u : Tier) : SeqActs u s (s.waiting u) := ((SeqActs.refl u s).modActive _).modJog _

theorem enterWithdraw_eq (s : State) (u : Tier) : s.enterWithdraw u =
    match ((s.waiting u).seq u).lockState with
    | .withdrawn =>
      if ((s.waiting u).seq u).lockCmd = .engage then (s.waiting u).startLock u .withdraw
      else if ((s.waiting u).seq u).slot.isSome then (s.waiting u).enterLift u
      else (s.waiting u).jogLift u
    | .withdrawing => s.waiting u
    | .engaged | .engaging => (s.waiting u).startLock u .withdraw
    | .conflicted =>
      if ((s.waiting u).seq u).slot.isSome then (s.waiting u).endMove u .failed .inhibit else (s.waiting u).endJog u := rfl

/-! ### JOG -/

/-- The axes of a jog that are on their limit inputs (R85). -/
def State.jogLimits (s : State) (u : Tier) (g : JogTarget) : Axes Bool :=
  match g with
  | .rotation => ⟨(s.axis ⟨u, .R⟩).limit, false, false⟩
  | .pair => ⟨false, (s.axis ⟨u, .A⟩).limit, (s.axis ⟨u, .B⟩).limit⟩

/-- A jog begun, with its exemption marks, before its first stage (R85). -/
def State.jogBegun (s : State) (u : Tier) (g : JogTarget) (d : Dir) : State :=
  (s.modSeq u fun q => { q with jog := some ⟨g, d, .withdrawLock, s.jogLimits u g, none⟩ }).modMan fun m =>
    { m with exempt := m.exempt.set u (s.jogLimits u g) }

theorem startJog_eq (s : State) (u : Tier) (g : JogTarget) (d : Dir) : s.startJog u g d =
    (match g with
      | .rotation => (s.jogBegun u g d).enterWithdraw u
      | .pair => (s.jogBegun u g d).jogLift u).seqReport u := by
  have hlimits : (⟨(jogAxes u g).contains ⟨u, .R⟩ && (s.axis ⟨u, .R⟩).limit,
      (jogAxes u g).contains ⟨u, .A⟩ && (s.axis ⟨u, .A⟩).limit,
      (jogAxes u g).contains ⟨u, .B⟩ && (s.axis ⟨u, .B⟩).limit⟩ : Axes Bool) = s.jogLimits u g := by
    cases g <;> simp [jogAxes, State.jogLimits]
  unfold State.startJog
  dsimp only
  rw [hlimits]
  cases g <;> rfl

theorem jogBegun_seq (s : State) (u : Tier) (g : JogTarget) (d : Dir) : (s.jogBegun u g d).seq u =
    { s.seq u with jog := some ⟨g, d, .withdrawLock, s.jogLimits u g, none⟩ } := by
  unfold State.jogBegun
  rw [State.modMan_seq, modSeq_seq_self]

theorem jogBegun_touches (s : State) (u : Tier) (g : JogTarget) (d : Dir) : TouchesOnlySeq s (s.jogBegun u g d) u := by
  refine ⟨fun v hv => ⟨?_, (Eight.get_set ..).trans (if_neg hv)⟩, rfl⟩
  unfold State.jogBegun
  rw [State.modMan_seq, State.modSeq_seq, if_neg hv]

theorem jogBegun_exempt (s : State) (u : Tier) (g : JogTarget) (d : Dir) :
    (s.jogBegun u g d).man.exempt.get u = s.jogLimits u g := (Eight.get_set ..).trans (if_pos rfl)

/-- A pair jog starts with its brakes released (R85). -/
theorem startJog_pair {s : State} {u : Tier} {d : Dir} (hs : (s.seq u).slot = none) (t : State) (ht : t = s.startJog u .pair d) :
    TouchesOnlySeq s t u ∧ t.man.exempt.get u = s.jogLimits u .pair ∧
      t.seq u = told { s.seq u with
        jog := some ⟨.pair, d, .liftBrake, s.jogLimits u .pair, none⟩, braked := false } ∧
      Instr.pairReleaseOrder u .jog ∈ t.mail := by
  obtain ⟨x, hx⟩ : ∃ x, x = s.jogBegun u .pair d := ⟨_, rfl⟩
  have hxq := jogBegun_seq s u .pair d
  have hxt := jogBegun_touches s u .pair d
  have hxe := jogBegun_exempt s u .pair d
  rw [← hx] at hxq hxt hxe
  have hjt : t = (x.jogLift u).seqReport u := by rw [ht, startJog_eq, hx]
  obtain ⟨hq, hm, hman⟩ := jogLift_lifts (s := x) (u := u) (by rw [hxq]; exact hs)
    (by rw [hxq]) (fun h => by cases h)
  have htouch := ((SeqActs.refl u x).jogLift.seqReport).touches
  obtain ⟨htq, hframe, hmail⟩ := seqReport_told (x.jogLift u) u
  rw [← hjt] at htouch htq hframe hmail
  refine ⟨hxt.trans htouch, ?_, htq.trans (congrArg told (hq.trans (by rw [hxq]))), hmail _ hm⟩
  rw [show t.man = x.man from (congrArg State.man hframe).trans hman]
  exact hxe

/-- A rotation jog of a stowed tier whose lock is engaged starts with the withdrawal (R70, R85). -/
theorem startJog_rotation {s : State} {u : Tier} {d : Dir} (hs : (s.seq u).slot = none) (hl : (s.seq u).lockState = .engaged)
    (ho : (s.seq u).lockOut = false) (t : State) (ht : t = s.startJog u .rotation d) :
    TouchesOnlySeq s t u ∧ t.man.exempt.get u = s.jogLimits u .rotation ∧
      t.seq u = told { s.seq u with
        jog := some ⟨.rotation, d, .withdrawLock, s.jogLimits u .rotation, none⟩
        lockCmd := .withdraw, lockTimer := some ⟨s.clock, (s.tier u).lockTime⟩, lockState := .withdrawing
        station := none, pendingStation := none } := by
  obtain ⟨x, hx⟩ : ∃ x, x = s.jogBegun u .rotation d := ⟨_, rfl⟩
  have hxq := jogBegun_seq s u .rotation d
  have hxt := jogBegun_touches s u .rotation d
  have hxe := jogBegun_exempt s u .rotation d
  rw [← hx] at hxq hxt hxe
  have hjt : t = (x.enterWithdraw u).seqReport u := by rw [ht, startJog_eq, hx]
  have hwq : (x.waiting u).seq u = x.seq u := by
    rw [waiting_seq, hxq]
    simp [hs]
  have hw : x.enterWithdraw u = (x.waiting u).startLock u .withdraw := by
    rw [enterWithdraw_eq, hwq, hxq]
    simp only [hl]
  obtain ⟨hq, hman⟩ := startLock_withdrawing (s := x.waiting u) (u := u) (by rw [hwq, hxq]; exact ho)
    (fun a ha => by rw [hwq, hxq] at ha; exact absurd (hs.symm.trans ha) (by simp))
  have htouch := ((SeqActs.refl u x).enterWithdraw.seqReport).touches
  obtain ⟨htq, hframe, -⟩ := seqReport_told (x.enterWithdraw u) u
  rw [← hjt] at htouch htq hframe
  refine ⟨hxt.trans htouch, ?_, htq.trans (congrArg told ?_)⟩
  · rw [show t.man = x.man from (congrArg State.man hframe).trans ((congrArg State.man hw).trans hman)]
    exact hxe
  · rw [hw, hq, hwq, hxq, hx]
    rfl

/-! ### The checks of a JOG -/

theorem jogTargetOfCode_code (g : JogTarget) : jogTargetOfCode? (if g = .rotation then 0 else 1) = some g := by
  cases g <;> rfl

theorem dirOfCode_code (d : Dir) : dirOfCode? (if d = .up then 0 else 1) = some d := by
  cases d <;> rfl

/-- The checks of R84 that look at the axes of a jog and at the posture of its tier. -/
def State.jogPasses (s : State) (u : Tier) (g : JogTarget) (d : Dir) : Bool :=
  ((jogAxes u g).all fun a => (s.axis a).valid && (s.axis a).ready) && !(g == .rotation && !(s.pair u).toldStowed) &&
    ((jogAxes u g).all fun a => s.shortOfEnd d a) && (jogAxes u g).all fun a => s.offLimit d a

/-- A JOG of the holder that passes the checks before those of its axes (R84). -/
theorem jogAnswer_eq {s : State} {q : Src} {u : Tier} {g : JogTarget} {d : Dir} (hm : s.auth.mode = .setup)
    (hh : s.auth.holder = some q.port) (hp : (s.tier u).present = true) (hc : s.man.state = .clear)
    (hj : ∀ v, (s.seq v).jog = none) (hg : g = .pair → (s.tier u).tilt.isSome = true) :
    s.jogAnswer q (Idx8.num u) (if g = .rotation then 0 else 1) (if d = .up then 0 else 1) =
      if s.jogPasses u g d then (s.startJog u g d).answer .ok [] else s.refuse .interlock := by
  have hset : s.inSetup = true := (inSetup_iff s).mpr hm
  have hhold : s.isHolder q = true := (isHolder_iff s q).mpr hh
  have hclear : s.isClear = true := by simp [State.isClear, hc]
  have hruns : s.jogRuns = false := (jogRuns_eq_false_iff s).mpr hj
  have hbad : (!(s.tier u).present || (g == .pair && (s.tier u).tilt.isNone)) = false := by
    cases g
    · simp [hp]
    · have := hg rfl
      cases ht : (s.tier u).tilt <;> simp_all
  unfold State.jogAnswer State.jogPasses
  rw [hset, hhold, ofNat?_num, jogTargetOfCode_code, dirOfCode_code]
  dsimp only
  rw [hbad, hclear, hruns]
  generalize ((jogAxes u g).all fun a => (s.axis a).valid && (s.axis a).ready) = c1
  generalize (g == .rotation && !(s.pair u).toldStowed) = c2
  generalize ((jogAxes u g).all fun a => s.shortOfEnd d a) = c3
  generalize ((jogAxes u g).all fun a => s.offLimit d a) = c4
  cases c1 <;> cases c2 <;> cases c3 <;> cases c4 <;> rfl

theorem jogPasses_of_clear {s : State} {u : Tier} {g : JogTarget} {d : Dir}
    (h : ∀ x ∈ jogAxes u g, (s.axis x).valid = true ∧ (s.axis x).ready = true ∧
      (match d with
       | .up => (s.axis x).position < 256 * (s.axisRange x).2 ∧
          ((s.axis x).limit = true → (s.axis x).position < 256 * (((s.axisRange x).1 + (s.axisRange x).2) / 2))
       | .down => 256 * (s.axisRange x).1 < (s.axis x).position ∧
          ((s.axis x).limit = true → 256 * (((s.axisRange x).1 + (s.axisRange x).2) / 2) < (s.axis x).position)))
    (hg : g = .rotation → (s.pair u).toldStowed = true) : s.jogPasses u g d = true := by
  have hdrives : ((jogAxes u g).all fun a => (s.axis a).valid && (s.axis a).ready) = true := by
    rw [List.all_eq_true]
    intro x hx
    rw [(h x hx).1, (h x hx).2.1]
    rfl
  have hends : ((jogAxes u g).all fun a => s.shortOfEnd d a) = true := by
    rw [List.all_eq_true]
    intro x hx
    have := (h x hx).2.2
    cases d <;> exact decide_eq_true this.1
  have hlimits : ((jogAxes u g).all fun a => s.offLimit d a) = true := by
    rw [List.all_eq_true]
    intro x hx
    have := (h x hx).2.2
    unfold State.offLimit
    cases hl : (s.axis x).limit
    · rfl
    · cases d <;> exact decide_eq_true (this.2 hl)
  unfold State.jogPasses
  rw [hdrives, hends, hlimits]
  cases g
  · simp [hg rfl]
  · rfl

theorem jogPasses_of_not_ready {s : State} {u : Tier} {g : JogTarget} {d : Dir}
    (h : ∃ x ∈ jogAxes u g, (s.axis x).valid = false ∨ (s.axis x).ready = false) : s.jogPasses u g d = false := by
  have hdrives : ((jogAxes u g).all fun a => (s.axis a).valid && (s.axis a).ready) = false := by
    rw [List.all_eq_false]
    obtain ⟨x, hx, hv⟩ := h
    refine ⟨x, hx, ?_⟩
    obtain hv | hv := hv <;> simp [hv]
  unfold State.jogPasses
  rw [hdrives]
  rfl

/-! ### The three requests -/

/-- An accepted JOG, as its port and its tier see it. -/
theorem exec_jog_starts {q : Src} {u : Tier} {s t' : State} {g : JogTarget} {d : Dir} (hs : s.held = false)
    (hstart : (s.taken (.jog q (Idx8.num u) (if g = .rotation then 0 else 1) (if d = .up then 0 else 1))).jogAnswer q
      (Idx8.num u) (if g = .rotation then 0 else 1) (if d = .up then 0 else 1) = (t', .ok, []))
    (htouch : TouchesOnlySeq s t' u) :
    ∃ t, exec (.jog q (Idx8.num u) (if g = .rotation then 0 else 1) (if d = .up then 0 else 1)) s = .next t ∧
      ((∀ v, v ≠ u → t.seq v = s.seq v) ∧ Replied s t q 0x22 .ok [] ∧
        t = { s with
          seqs := t.seqs, man := { s.man with exempt := t.man.exempt }
          arb := { s.arb with passRequested := t.arb.passRequested }, ports := t.ports, mail := t.mail }) ∧
      t.seq u = t'.seq u ∧ t.man = t'.man ∧ ∀ m ∈ t'.mail, m ∈ t.mail := by
  obtain ⟨hkeep, hframe⟩ := htouch
  obtain ⟨t, ht, ho, hr, hm⟩ := exec_replied (.jog q (Idx8.num u) (if g = .rotation then 0 else 1) (if d = .up then 0 else 1))
    (execJog.eq_1 ..) hs hstart (by rw [hframe])
  have hseq := ho.reads.1
  unfold OnlyPorts at ho
  refine ⟨t, ht, ⟨fun v hv => (hseq v).trans (hkeep v hv).1, hr, ?_⟩, hseq u, by rw [ho], hm⟩
  rw [ho, hframe]

/-- RESET_FAULT of a tier (R78). -/
theorem exec_resetFaultTier {q : Src} {u : Tier} {s : State} (hs : s.held = false) (hq : s.holderOrNone q = true) :
    ∃ t, exec (.resetFaultTier q (Idx8.num u)) s = .next t ∧
      if (s.seq u).slot.isSome then
        OnlyPorts s t ∧ Answered s t (.resetFaultTier q (Idx8.num u)) q 0x1B .busy [] []
      else if (s.seq u).lockState = .conflicted then
        OnlyPorts s t ∧ Answered s t (.resetFaultTier q (Idx8.num u)) q 0x1B .interlock [] []
      else if (s.seq u).inhibit = none then
        OnlyPorts s t ∧ Answered s t (.resetFaultTier q (Idx8.num u)) q 0x1B .ok [] []
      else
        (∀ v, v ≠ u → t.seq v = s.seq v) ∧ t.seq u = { s.seq u with inhibit := none } ∧
        t = { s with
          seqs := t.seqs, arb := { s.arb with passRequested := true }, ports := t.ports, mail := t.mail } ∧
        Replied s t q 0x1B .ok [] ∧ Instr.latchEvent (.tier u .inhibitCleared) ∈ t.mail := by
  obtain ⟨c, hc⟩ : ∃ c : Instr, c = .resetFaultTier q (Idx8.num u) := ⟨_, rfl⟩
  have he : exec c s = request c q 0x1B (fun s =>
      if !s.holderOrNone q then s.refuseAuthority
      else
        match Idx8.ofNat? (Idx8.num u) with
        | none => s.refuse .badValue
        | some t => s.resetTier t) s := by rw [hc]; exact execResetFaultTier.eq_1 ..
  have hf : (if !(s.taken c).holderOrNone q then (s.taken c).refuseAuthority
      else
        match Idx8.ofNat? (Idx8.num u) with
        | none => (s.taken c).refuse .badValue
        | some t => (s.taken c).resetTier t) = (s.taken c).resetTier u := by
    rw [taken_holderOrNone, hq, ofNat?_num]
    rfl
  rw [← hc]
  cases hslot : (s.seq u).slot with
  | some a =>
    exact exec_unchanged c he hs (hf.trans (by simp [State.resetTier, hslot, State.refuse]))
  | none =>
    simp only [Option.isSome_none, Bool.false_eq_true, if_false]
    by_cases hl : (s.seq u).lockState = .conflicted
    · simp only [if_pos hl]
      exact exec_unchanged c he hs (hf.trans (by simp [State.resetTier, hslot, hl, State.refuse]))
    · simp only [if_neg hl]
      by_cases hi : (s.seq u).inhibit = none
      · simp only [if_pos hi]
        exact exec_unchanged c he hs (hf.trans (by simp [State.resetTier, hslot, hl, hi, State.answer]))
      · simp only [if_neg hi]
        obtain ⟨x, hx⟩ : ∃ x, x = (((s.taken c).modSeq u fun q => { q with inhibit := none }).requestPass).raise
            (.tier u .inhibitCleared) := ⟨_, rfl⟩
        obtain ⟨t, ht, ho, hr, hm⟩ := exec_replied (t' := x) (st := .ok) (body := []) c he hs (hf.trans (by
          rw [hx]
          simp [State.resetTier, hslot, hl, hi, State.answer])) (by rw [hx, requestPass_eq]; rfl)
        have hseq := ho.reads.1
        have hxseq (v : Tier) : x.seq v = ((s.taken c).modSeq u fun q => { q with inhibit := none }).seq v := by
          rw [hx, State.raise_seq, requestPass_seq]
        refine ⟨t, ht, fun v hv => ?_, ?_, ?_, hr, hm _ (by rw [hx]; simp)⟩
        · rw [hseq, hxseq, State.modSeq_seq, if_neg hv]
          rfl
        · rw [hseq, hxseq, modSeq_seq_self]
          rfl
        · unfold OnlyPorts at ho
          rw [ho, hx, requestPass_eq]
          rfl

/-- JOG_STOP meets the running jog (R86, R87). -/
theorem exec_jogStop {q : Src} {u : Tier} {s : State} {j : Jog} (hs : s.held = false) (hj : (s.seq u).jog = some j)
    (honly : ∀ v, v ≠ u → (s.seq v).jog = none) (hslot : (s.seq u).slot = none) :
    ∃ t, exec (.jogStop q) s = .next t ∧
      (∀ v, v ≠ u → t.seq v = s.seq v ∧ t.man.exempt.get v = s.man.exempt.get v) ∧ Replied s t q 0x23 .ok [] ∧
      t = { s with seqs := t.seqs, man := { s.man with exempt := t.man.exempt }, ports := t.ports, mail := t.mail } ∧
      JogMeets (s.seq u) t u j .jogStop .a := by
  obtain ⟨x, hx⟩ : ∃ x, x = ((s.taken (.jogStop q)).haltJog u .jogStop).seqReport u := ⟨_, rfl⟩
  have htouch : TouchesOnlySeq (s.taken (.jogStop q)) x u := by
    rw [hx]
    exact (((SeqActs.refl u (s.taken (.jogStop q))).haltJog .jogStop).seqReport).touches
  have harb : x.arb = s.arb := by
    rw [hx]
    exact haltJog_arb (s.taken (.jogStop q)) u .jogStop
  have hmeets : JogMeets (s.seq u) x u j .jogStop .a := by
    rw [hx]
    exact haltJog_meets (s.taken (.jogStop q)) u .jogStop hslot hj
  obtain ⟨hkeep, hframe⟩ := htouch
  have hjogged : (s.taken (.jogStop q)).joggedTier = some u := joggedTier_of_unique hj honly
  obtain ⟨t, ht, ho, hr, hm⟩ := exec_replied (t' := x) (st := .ok) (body := []) (.jogStop q) (execJogStop.eq_1 ..) hs
    (by simp [hjogged, hx, State.answer]) (by rw [hframe]; rfl)
  obtain ⟨hseq, -⟩ := ho.reads
  unfold OnlyPorts at ho
  have hman : t.man = x.man := by rw [ho]
  refine ⟨t, ht, fun v hv => ?_, hr, ?_, hmeets.mono (hseq u) (by rw [hman]) hm⟩
  · rw [hseq, hman]
    exact hkeep v hv
  · rw [harb] at hframe
    rw [ho, hframe]
    rfl

/-- Settles O47: the checks of R84 and the three ways on, JOG_STOP's meeting of the jog, and the reset of a tier. -/
theorem jogsStartAndStopAndInhibitsClear : Obligations.JogsStartAndStopAndInhibitsClear := by
  intro q u s hs
  refine ⟨fun g d hmode hh hp hc hj hslot hpair => ⟨fun hbad => ?_, fun hgood hpost => ?_⟩, fun hnone => ?_,
    fun j hj honly hslot => exec_jogStop hs hj honly hslot, exec_resetFaultTier hs⟩
  · refine exec_unchanged (.jog q _ _ _) (execJog.eq_1 ..) hs ((jogAnswer_eq (s := s.taken _) hmode hh hp hc hj hpair).trans ?_)
    rw [jogPasses_of_not_ready (s := s.taken _) hbad]
    rfl
  · have hpass : (s.taken (.jog q (Idx8.num u) (if g = .rotation then 0 else 1) (if d = .up then 0 else 1))).jogPasses u g d =
        true := jogPasses_of_clear (s := s.taken _) hgood fun h => (hpost h).1
    have hstart := jogAnswer_eq (d := d) (s := s.taken (.jog q (Idx8.num u) (if g = .rotation then 0 else 1) (if d = .up then 0 else 1)))
      hmode hh hp hc hj hpair
    rw [hpass, if_pos rfl] at hstart
    cases g with
    | pair =>
      obtain ⟨htouch, hex, hseq, hm⟩ := startJog_pair (s := s.taken _) (d := d) hslot _ rfl
      obtain ⟨t, ht, ⟨h1, h2, h3⟩, h4, h5, h6⟩ := exec_jog_starts hs hstart htouch
      exact ⟨t, ht, h1, h2, h3, h4.trans hseq, (congrArg (fun m : StopManager => m.exempt.get u) h5).trans hex, h6 _ hm⟩
    | rotation =>
      obtain ⟨hpo, hl, hi, ho⟩ := hpost rfl
      obtain ⟨htouch, hex, hseq⟩ := startJog_rotation (s := s.taken _) (d := d) hslot hl ho _ rfl
      obtain ⟨t, ht, ⟨h1, h2, h3⟩, h4, h5, -⟩ := exec_jog_starts hs hstart htouch
      exact ⟨t, ht, h1, h2, h3, h4.trans hseq, (congrArg (fun m : StopManager => m.exempt.get u) h5).trans hex⟩
  · exact exec_unchanged (.jogStop q) (execJogStop.eq_1 ..) hs (by
      rw [joggedTier_of_none (s := s.taken _) hnone]
      rfl)

end Sys2Proof.Machine

/-! SUPPORT. A granted move at the sequencer of its tier (R65, R70, R71). -/

namespace Sys2Proof.Machine

open Sys2Proof

/-- The active record of a granted move, in a stage (R65). -/
def MoveRec.activeIn (m : MoveRec) (g : Stage) : Active := ⟨{ m with lastRefusal := none }, g, false, none, none, false, false⟩

/-- A granted move put into the slot of its tier. -/
def State.putMove (s : State) (m : MoveRec) (g : Stage) : State :=
  s.modSeq m.tier fun q => { q with slot := some (m.activeIn g) }

theorem putMove_seq (s : State) (m : MoveRec) (g : Stage) :
    (s.putMove m g).seq m.tier = { s.seq m.tier with slot := some (m.activeIn g) } := modSeq_seq_self ..

/-- What the sequencer does with a granted move before it reports. -/
def State.beginMove (s : State) (m : MoveRec) : State :=
  match m.goal with
  | .rotate n =>
    if (s.seq m.tier).station == some n && (s.seq m.tier).lockState == LockState.engaged then
      (s.putMove m .withdrawLock).endMove m.tier .done .none
    else (s.putMove m .withdrawLock).enterWithdraw m.tier
  | .tilt _ => (s.putMove m .liftBrake).enterLift m.tier

theorem seqTake_eq (s : State) (m : MoveRec) : s.seqTake m = (s.beginMove m).seqReport m.tier := rfl

theorem putMove_touches (s : State) (m : MoveRec) (g : Stage) : TouchesOnlySeq s (s.putMove m g) m.tier :=
  ⟨fun _ hv => ⟨(State.modSeq_seq ..).trans (if_neg hv), rfl⟩, rfl⟩

/-- A granted move touches its own sequencer alone, and starts no jog there. -/
theorem seqTake_touches (s : State) (m : MoveRec) :
    TouchesOnlySeq s (s.seqTake m) m.tier ∧ (∀ c ∈ s.mail, c ∈ (s.seqTake m).mail) ∧
      (s.arb.passRequested = true → (s.seqTake m).arb.passRequested = true) ∧
      ((s.seq m.tier).jog = none → ((s.seqTake m).seq m.tier).jog = none) := by
  have behind {g : Stage} {x : State} (h : SeqActs m.tier (s.putMove m g) x) :
      TouchesOnlySeq s (x.seqReport m.tier) m.tier ∧ (∀ c ∈ s.mail, c ∈ (x.seqReport m.tier).mail) ∧
        (s.arb.passRequested = true → (x.seqReport m.tier).arb.passRequested = true) ∧
        ((s.seq m.tier).jog = none → ((x.seqReport m.tier).seq m.tier).jog = none) :=
    ⟨(putMove_touches s m g).trans h.seqReport.touches, fun _ hc => h.seqReport.sent.subset hc, h.seqReport.pass,
      fun hj => h.seqReport.jog ((congrArg Seq.jog (putMove_seq s m g)).trans hj)⟩
  rw [seqTake_eq]
  unfold State.beginMove
  split
  · split
    · exact behind ((SeqActs.refl m.tier _).endMove _ _)
    · exact behind (SeqActs.refl m.tier _).enterWithdraw
  · exact behind (SeqActs.refl m.tier _).enterLift

/-- The end of a move at its grant (R65, R70). -/
theorem putMove_ended {s : State} {m : MoveRec} (hs : (s.seq m.tier).slot = none) {x t : State}
    (hx : x.seq m.tier = (s.putMove m .withdrawLock).seq m.tier) (hacts : SeqActs m.tier (s.putMove m .withdrawLock) x)
    (o : MoveOutcome) (r : Reason) (ht : SeqTold (x.endMove m.tier o r) t m.tier) :
    t.seq m.tier = told { s.seq m.tier with ending := (t.seq m.tier).ending } ∧
      MoveEnded s t m.tier (m.activeIn .withdrawLock) o r := by
  have hslot : (x.seq m.tier).slot = some (m.activeIn .withdrawLock) := by rw [hx, putMove_seq]
  have hend : MoveEnded (s.putMove m .withdrawLock) (x.endMove m.tier o r) m.tier (m.activeIn .withdrawLock) o r :=
    endMove_ended hacts hslot (by rw [hx]) o r
  refine ⟨?_, (hend.told ht).congr (by rw [putMove_seq]) rfl rfl rfl fun _ => id⟩
  rw [ht.1, endMove_seq hslot, hx, putMove_seq]
  unfold Seq.ended
  rw [if_neg (by simp [MoveRec.activeIn]), ← hs]
  rfl

/-- A ROTATE that finds its lock withdrawn goes on into LIFT_BRAKE, its lock commanded to stay withdrawn (R70, R71). -/
theorem withdrawn_lifts {x : State} {u : Tier} {b : Active} (hb : (x.seq u).slot = some b) (hst : b.stage = .withdrawLock)
    (hk : b.move.goal.kind = .rotate) (hl : (x.seq u).lockState = .withdrawn)
    (hi : (x.seq u).lockIn = false) (ho : (x.seq u).lockOut = true) (hp : (x.pair u).toldStowed = true) (y : State)
    (hy : y = if (x.seq u).lockCmd = .engage then x.startLock u .withdraw else x.enterLift u) :
    y.seq u = { x.seq u with
        slot := some { b with stage := .liftBrake, context := none }, braked := false, lockCmd := .withdraw
        lockTimer := if (x.seq u).lockCmd = .engage then none else (x.seq u).lockTimer
        station := if (x.seq u).lockCmd = .engage then none else (x.seq u).station
        pendingStation := if (x.seq u).lockCmd = .engage then none else (x.seq u).pendingStation } ∧
      Instr.brakeReleaseOrder ⟨u, .R⟩ (.move b.move.number) ∈ y.mail := by
  by_cases hc : (x.seq u).lockCmd = .engage
  · have htr := lockStarted_transition x u .withdraw
    have hf : ((x.lockStarted u .withdraw).seq u).found = .withdrawn := by rw [lockStarted_found, hi, ho]; rfl
    have hlost : ((x.lockStarted u .withdraw).seq u).losesLock = false :=
      losesLock_of_rotate (a := b) (by rw [lockStarted_seq]; exact hb) hk
    have hlq := lockFound_seq (x.lockStarted u .withdraw) u
    have hys : y = ((x.lockStarted u .withdraw).lockFound u).withdrawalDone u := by
      rw [hy, if_pos hc, startLock_eq, refindLock_withdrawn htr hf, hlost]
      rfl
    obtain ⟨hq, hm⟩ := withdrawalDone_lifts (s := (x.lockStarted u .withdraw).lockFound u) (u := u) (a := b)
      (by rw [hlq]; unfold Seq.refound; rw [lockStarted_seq]; exact hb) hst hk (by rw [lockFound_pair]; exact hp)
    rw [hys]
    refine ⟨hq.trans ?_, hm⟩
    rw [hlq]
    unfold Seq.refound
    rw [hf, lockStarted_seq]
    simp [hc, hl]
  · have hcmd : (x.seq u).lockCmd = .withdraw := by
      cases h : (x.seq u).lockCmd
      · exact absurd h hc
      · rfl
    have hgoal : ∃ n, b.move.goal = .rotate n := by
      cases hg : b.move.goal with
      | rotate n => exact ⟨n, rfl⟩
      | tilt n => rw [hg] at hk; cases hk
    obtain ⟨n, hn⟩ := hgoal
    obtain ⟨hq, hm⟩ := enterLift_lifts hb (by rw [hn]; exact hp)
    rw [hy, if_neg hc]
    rw [hk] at hm
    refine ⟨hq.trans ?_, hm⟩
    simp [hcmd]

/-- A sequencer without a jog takes a granted move at its first stage (R65, R70, R71). -/
theorem seqTake_took {s : State} {m : MoveRec} (hs : (s.seq m.tier).slot = none) (hj : (s.seq m.tier).jog = none)
    (hpost : ∀ h, m.goal = .tilt h → (s.seq m.tier).lockState = .engaged) : TookMove s (s.seqTake m) m := by
  intro a ha
  obtain rfl : a = m.activeIn := funext ha
  have htold := seqReport_told (s.beginMove m) m.tier
  rw [← seqTake_eq] at htold
  obtain ⟨hq, -, hm⟩ := id htold
  cases hg : m.goal with
  | tilt h =>
    have e : s.beginMove m = (s.putMove m .liftBrake).enterLift m.tier := by
      unfold State.beginMove
      rw [hg]
    obtain ⟨hlift, hsent⟩ := enterLift_lifts (s := s.putMove m .liftBrake) (u := m.tier) (a := m.activeIn .liftBrake)
      (by rw [putMove_seq]) (by
        rw [show (m.activeIn .liftBrake).move.goal = .tilt h from hg, putMove_seq]
        exact hpost h hg)
    rw [show (m.activeIn .liftBrake).move.goal = .tilt h from hg] at hsent
    rw [← e] at hlift hsent
    exact ⟨hq.trans (congrArg told (hlift.trans (by rw [putMove_seq]; rfl))), hm _ hsent⟩
  | rotate n =>
    dsimp only
    by_cases hdone : (s.seq m.tier).station = some n ∧ (s.seq m.tier).lockState = .engaged
    · rw [if_pos hdone]
      have e : s.beginMove m = (s.putMove m .withdrawLock).endMove m.tier .done .none := by
        unfold State.beginMove
        rw [hg]
        simp [hdone]
      rw [e] at htold
      exact putMove_ended hs rfl (SeqActs.refl m.tier _) .done .none htold
    · rw [if_neg hdone]
      obtain ⟨x, hx⟩ : ∃ x, x = s.putMove m .withdrawLock := ⟨_, rfl⟩
      have hxq : x.seq m.tier = { s.seq m.tier with slot := some (m.activeIn .withdrawLock) } := by rw [hx, putMove_seq]
      have e : s.beginMove m = x.enterWithdraw m.tier := by
        unfold State.beginMove
        rw [hg, hx]
        simpa using fun h1 h2 => absurd ⟨h1, h2⟩ hdone
      have hwq : (x.waiting m.tier).seq m.tier = x.seq m.tier := by
        rw [waiting_seq, hxq]
        simp [hj, MoveRec.activeIn]
      have hkind : (m.activeIn .withdrawLock).move.goal.kind = .rotate := by
        rw [show (m.activeIn .withdrawLock).move.goal = .rotate n from hg]
        rfl
      have hwslot : ((x.waiting m.tier).seq m.tier).slot = some (m.activeIn .withdrawLock) := by rw [hwq, hxq]
      have hwx : SeqActs m.tier x (x.waiting m.tier) := waiting_acts x m.tier
      have hew := enterWithdraw_eq x m.tier
      rw [hwq, hxq] at hew
      dsimp only at hew
      have starts (ho : (s.seq m.tier).lockOut = false)
          (h : x.enterWithdraw m.tier = (x.waiting m.tier).startLock m.tier .withdraw) :
          (s.seqTake m).seq m.tier = told { s.seq m.tier with
            slot := some (m.activeIn .withdrawLock), lockCmd := .withdraw, lockState := .withdrawing
            lockTimer := some ⟨s.clock, (s.tier m.tier).lockTime⟩, station := none, pendingStation := none } := by
        rw [hq, e, h, (startLock_withdrawing (s := x.waiting m.tier) (u := m.tier) (by rw [hwq, hxq]; exact ho)
          fun b hb => by rw [← Option.some.inj (hwslot.symm.trans hb)]; exact hkind).1, hwq, hxq, hx]
        rfl
      cases hl : (s.seq m.tier).lockState with
      | engaged => exact fun ho => starts ho (by rw [hew, hl])
      | engaging => exact fun ho => starts ho (by rw [hew, hl])
      | withdrawing =>
        rw [hl] at hew
        show _ = _
        rw [hq, e, hew, hwq, hxq, ← hl]
      | withdrawn =>
        intro hi ho hp
        rw [hl, ← e] at hew
        obtain ⟨hb, hsent⟩ := withdrawn_lifts hwslot rfl hkind (by rw [hwq, hxq]; exact hl) (by rw [hwq, hxq]; exact hi)
          (by rw [hwq, hxq]; exact ho) (by rw [show (x.waiting m.tier).pair m.tier = s.pair m.tier by rw [hx]; rfl]; exact hp)
          (s.beginMove m) (by rw [hwq, hxq]; exact hew)
        rw [hq, hb, hwq, hxq]
        exact ⟨rfl, rfl, hl, rfl, fun hc => ⟨if_pos hc, if_pos hc⟩, hm _ hsent⟩
      | conflicted =>
        rw [hl] at hew
        rw [e, hew] at htold
        obtain ⟨h1, h2⟩ := putMove_ended hs (by rw [hwq, hx]) (hx ▸ hwx) .failed .inhibit htold
        refine ⟨h1.trans ?_, h2⟩
        rw [← hl]

end Sys2Proof.Machine

/-! SUPPORT. What a granted move leaves of the stop manager where no jog runs: all of it (R85). -/

namespace Sys2Proof.Machine

open Sys2Proof

theorem losePosture_man (s : State) (u : Tier) (k : Kind) (r : Reason) : (s.losePosture u k r).man = s.man := by
  unfold State.losePosture
  split <;> rfl

theorem releaseBrakes_man (s : State) (u : Tier) (served : Served) : (s.releaseBrakes u served).man = s.man := by
  unfold State.releaseBrakes
  dsimp only
  split <;> rfl

theorem applyBrakes_man (s : State) (u : Tier) : (s.applyBrakes u).man = s.man := by
  unfold State.applyBrakes
  dsimp only
  split
  · rfl
  · split <;> rfl

theorem orderStop_man (s : State) (u : Tier) (rate : StopRate) : (s.orderStop u rate).man = s.man := by
  unfold State.orderStop
  split <;> rfl

theorem endMove_man (s : State) (u : Tier) (o : MoveOutcome) (r : Reason) : (s.endMove u o r).man = s.man := by
  unfold State.endMove
  split
  · rfl
  · dsimp only
    split <;> rfl

theorem tierCause_man (s : State) (u : Tier) (k : TierCause) : (s.tierCause u k).man = s.man := by
  unfold State.tierCause
  dsimp only
  split
  · split
    · rfl
    · exact requestPass_man _
  · rfl

theorem enterLift_man (s : State) (u : Tier) : (s.enterLift u).man = s.man := by
  unfold State.enterLift
  split
  · rfl
  · dsimp only
    split <;> split
    · exact releaseBrakes_man ..
    · exact losePosture_man ..
    · exact releaseBrakes_man ..
    · exact losePosture_man ..

theorem conflictMove_man (s : State) (u : Tier) : (s.conflictMove u).man = s.man := by
  have ended (o : MoveOutcome) (r : Reason) : ((s.applyBrakes u).endMove u o r).man = s.man :=
    (endMove_man ..).trans (applyBrakes_man ..)
  have halted (e : MoveOutcome × Reason) : (s.haltMove u e).man = s.man := orderStop_man ..
  unfold State.conflictMove
  split
  · rfl
  · split <;> first | exact ended .. | exact halted _ | rfl

theorem jogLift_man {s : State} {u : Tier} (h : (s.seq u).jog = none) : (s.jogLift u).man = s.man := by
  unfold State.jogLift
  rw [h]

theorem withdrawalDone_man {s : State} {u : Tier} (h : (s.seq u).jog = none) : (s.withdrawalDone u).man = s.man := by
  unfold State.withdrawalDone
  dsimp only
  split
  · exact enterLift_man ..
  · split
    · exact jogLift_man (by rw [modSeq_seq_self]; exact h)
    · rfl

theorem engagementDone_man (s : State) (u : Tier) : (s.engagementDone u).man = s.man := by
  unfold State.engagementDone State.when
  dsimp only
  split <;> split <;> simp only [endMove_man, requestPass_man, State.modSeq_man]

/-- The state behind a lock found again, its posture lost where it is (R67, R76). -/
theorem postureFound_man (s : State) (u : Tier) :
    ((s.lockFound u).when (s.seq u).losesLock fun s => s.losePosture u .lockLost .lockLost).man = s.man := by
  unfold State.when
  split
  · exact (losePosture_man ..).trans (lockFound_man ..)
  · exact lockFound_man ..

theorem postureFound_acts (s : State) (u : Tier) :
    SeqActs u s ((s.lockFound u).when (s.seq u).losesLock fun s => s.losePosture u .lockLost .lockLost) :=
  (lockFound_seqActs s u).when _ fun _ h => h.losePosture _ _

theorem conflictFound_man (s : State) (u : Tier) : (s.conflictFound u).man = s.man := by
  unfold State.conflictFound
  rw [State.when]
  split
  · exact (tierCause_man ..).trans (postureFound_man s u)
  · exact postureFound_man s u

/-- With no jog, finding the lock again leaves the stop manager. -/
theorem refindLock_man {s : State} {u : Tier} (h : (s.seq u).jog = none) : (s.refindLock u).man = s.man := by
  by_cases hw : (s.seq u).transition = some .withdraw ∧ (s.seq u).found = .withdrawn
  · rw [refindLock_withdrawn hw.1 hw.2, withdrawalDone_man ((postureFound_acts s u).jog h), postureFound_man]
  by_cases he : (s.seq u).transition = some .engage ∧ (s.seq u).found = .engaged
  · rw [refindLock_engaged he.1 he.2, engagementDone_man, lockFound_man]
  by_cases hc : (s.seq u).found = .conflicted
  · have hmet : ((s.conflictFound u).when (s.meetsConflict u && !(s.seq u).losesLock) fun s => s.conflictMove u).man = s.man := by
      rw [State.when]
      split
      · exact (conflictMove_man ..).trans (conflictFound_man ..)
      · exact conflictFound_man ..
    rw [refindLock_conflicted hc, State.when]
    split
    · rw [haltJog_of_none (((conflictFound_seqActs s u).when _ fun _ h => h.conflictMove).jog h)]
      exact hmet
    · exact hmet
  · rw [refindLock_still hw he hc]
    exact postureFound_man s u

theorem startLock_man {s : State} {u : Tier} (h : (s.seq u).jog = none) (c : LockCmd) : (s.startLock u c).man = s.man :=
  refindLock_man ((congrArg Seq.jog (lockStarted_seq s u c)).trans h)

theorem enterWithdraw_man {s : State} {u : Tier} {a : Active} (hs : (s.seq u).slot = some a) (h : (s.seq u).jog = none) :
    (s.enterWithdraw u).man = s.man := by
  have hjog : ((s.waiting u).seq u).jog = none := (waiting_acts s u).jog h
  have hslot : ((s.waiting u).seq u).slot.isSome = true := by simp [waiting_seq, hs]
  have hstart : ((s.waiting u).startLock u .withdraw).man = s.man := startLock_man hjog _
  rw [enterWithdraw_eq]
  simp only [hslot, if_true]
  split
  · split
    · exact hstart
    · exact enterLift_man ..
  · rfl
  · exact hstart
  · exact hstart
  · exact endMove_man ..

/-- With no jog in its tier, a granted move leaves the stop manager. -/
theorem seqTake_man {s : State} {m : MoveRec} (h : (s.seq m.tier).jog = none) : (s.seqTake m).man = s.man := by
  have hbegin : (s.beginMove m).man = s.man := by
    unfold State.beginMove
    split
    · split
      · exact endMove_man ..
      · exact enterWithdraw_man (congrArg Seq.slot (putMove_seq ..)) ((congrArg Seq.jog (putMove_seq ..)).trans h)
    · exact enterLift_man ..
  rw [seqTake_eq, (seqReport_told (s.beginMove m) m.tier).2.1]
  exact hbegin

end Sys2Proof.Machine

/-! SUPPORT. What a grant does, and what a grant pass leaves as it is (R50 to R55). -/

namespace Sys2Proof.Machine

open Sys2Proof

theorem TookMove.congr {s t s' t' : State} {m : MoveRec} (h : TookMove s t m) (hseq : s'.seq m.tier = s.seq m.tier)
    (hclock : s'.clock = s.clock) (htier : s'.tier m.tier = s.tier m.tier) (hpair : s'.pair m.tier = s.pair m.tier)
    (hpos : (s'.axis ⟨m.tier, .R⟩).position = (s.axis ⟨m.tier, .R⟩).position) (hseq' : t'.seq m.tier = t.seq m.tier)
    (hmail : ∀ c ∈ t.mail, c ∈ t'.mail) : TookMove s' t' m := by
  intro a ha
  have h := h a ha
  have ended {o : MoveOutcome} {r : Reason} (g : MoveEnded s t m.tier (a .withdrawLock) o r) :
      MoveEnded s' t' m.tier (a .withdrawLock) o r :=
    g.congr (by rw [hseq]) hpos (by rw [hseq']) (by rw [hseq']) hmail
  cases hg : m.goal with
  | tilt x =>
    rw [hg] at h
    rw [hseq, hseq']
    exact ⟨h.1, hmail _ h.2⟩
  | rotate n =>
    rw [hg] at h
    dsimp only at h ⊢
    rw [hseq]
    by_cases hdone : (s.seq m.tier).station = some n ∧ (s.seq m.tier).lockState = .engaged
    · rw [if_pos hdone] at h ⊢
      exact ⟨by rw [hseq']; exact h.1, ended h.2⟩
    · rw [if_neg hdone] at h ⊢
      cases hl : (s.seq m.tier).lockState with
      | engaged | engaging | withdrawing =>
        rw [hl] at h
        rw [hseq', hclock, htier]
        exact h
      | withdrawn =>
        rw [hl] at h
        rw [hseq', hpair]
        intro hi ho hp
        obtain ⟨h1, h2, h3, h4, h5, h6⟩ := h hi ho hp
        exact ⟨h1, h2, h3, h4, h5, hmail _ h6⟩
      | conflicted =>
        rw [hl] at h
        exact ⟨by rw [hseq']; exact h.1, ended h.2⟩

/-- A granted move's reservation at the arbiter (R52). -/
def State.reservedBy (s : State) (m : MoveRec) : Holding :=
  { s.holding m.tier with
    reserved := s.reservedFor m, demand := s.demandOf m, active := true, path := some (s.pathOf m) }

/-- A move granted, before the sequencer takes it (R52). -/
def State.granting (s : State) (m : MoveRec) : State :=
  let s1 := s.modAdm fun x => { x with waiting := x.waiting.filter fun y => y.number != m.number }
  let s2 := s1.modHolding m.tier fun _ => s.reservedBy m
  let s3 := s2.modAxis ⟨m.tier, .R⟩ fun x =>
    { x with release := if (s.pathOf m).rotate then (if (s.pathOf m).rotate then s.nextPoint (s.pathOf m) else none) else x.release }
  s3.listChanged

theorem grantMove_eq (s : State) (m : MoveRec) : s.grantMove m = (s.granting m).seqTake m := rfl

theorem granting_frame (s : State) (m : MoveRec) :
    s.granting m = { s with
      adm := { s.adm with waiting := s.adm.waiting.filter fun y => y.number != m.number }
      arb := { s.arb with tiers := s.arb.tiers.set m.tier (s.reservedBy m), armed := true, passRequested := true }
      axes := (s.granting m).axes, mail := (s.granting m).mail } := by
  unfold State.granting
  rw [listChanged_eq]
  rfl

theorem granting_axis (s : State) (m : MoveRec) (a : Axis) :
    (s.granting m).axis a = { s.axis a with release := ((s.granting m).axis a).release } := by
  have hlist (x : State) : x.listChanged.axis a = x.axis a := by rw [listChanged_eq]; rfl
  unfold State.granting
  rw [hlist, State.modAxis_axis]
  split
  · next h => rw [h]; rfl
  · rfl

theorem granting_holding (s : State) (m : MoveRec) (u : Tier) :
    (s.granting m).holding u = if u = m.tier then s.reservedBy m else s.holding u := by
  rw [granting_frame]
  exact Eight.get_set ..

/-- What a grant pass leaves as it is: the numbers and their order, the claims, the standing sets, and every block beyond
pending list, arbiter, sequencers and the release points; the exemption marks too, while no jog runs. -/
structure PassSteps (s t : State) : Prop where
  number : t.adm.lastNumber = s.adm.lastNumber
  list : (t.adm.waiting.map (·.number)).Sublist (s.adm.waiting.map (·.number))
  owed : t.arb.owed = s.arb.owed
  holding : ∀ u, t.holding u = { s.holding u with
    reserved := (t.holding u).reserved, demand := (t.holding u).demand, active := (t.holding u).active
    path := (t.holding u).path }
  axis : ∀ a, t.axis a = { s.axis a with release := (t.axis a).release }
  frame : t = { s with
    adm := t.adm, arb := t.arb, seqs := t.seqs, axes := t.axes, mail := t.mail
    man := { s.man with exempt := t.man.exempt } }
  jogless : (∀ u, (s.seq u).jog = none) → t.man = s.man ∧ ∀ u, (t.seq u).jog = none

theorem PassSteps.refl (s : State) : PassSteps s s :=
  ⟨rfl, List.Sublist.refl _, rfl, fun _ => rfl, fun _ => rfl, rfl, fun h => ⟨rfl, h⟩⟩

theorem PassSteps.trans {s t v : State} (h : PassSteps s t) (g : PassSteps t v) : PassSteps s v where
  number := g.number.trans h.number
  list := g.list.trans h.list
  owed := g.owed.trans h.owed
  holding u := by rw [g.holding u, h.holding u]
  axis a := by rw [g.axis a, h.axis a]
  frame := by rw [g.frame, h.frame]
  jogless hj := by
    obtain ⟨h1, h2⟩ := h.jogless hj
    obtain ⟨g1, g2⟩ := g.jogless h2
    exact ⟨g1.trans h1, g2⟩

/-- A step that changes of the arbiter its flags alone, and beyond it the pending list and the mail. -/
theorem PassSteps.of_lists {s t : State} (hnum : t.adm.lastNumber = s.adm.lastNumber)
    (hlist : (t.adm.waiting.map (·.number)).Sublist (s.adm.waiting.map (·.number)))
    (hframe : t = { s with
      adm := t.adm, arb := { s.arb with passRequested := t.arb.passRequested, armed := t.arb.armed }, mail := t.mail }) :
    PassSteps s t where
  number := hnum
  list := hlist
  owed := congrArg (fun x => x.arb.owed) hframe
  holding u := by rw [hframe]; rfl
  axis a := by rw [hframe]; rfl
  frame := by rw [hframe]
  jogless hj := by
    refine ⟨by rw [hframe], fun u => ?_⟩
    rw [hframe]
    exact hj u

theorem map_number_filter (l : List MoveRec) (n : Nat) :
    ((l.filter fun y => y.number != n).map (·.number)).Sublist (l.map (·.number)) := (List.filter_sublist ..).map _

theorem passSteps_endPending (s : State) (m : MoveRec) (o : MoveOutcome) (r : Reason) :
    PassSteps s (s.endPending m o r) := by
  obtain ⟨hadm, hframe, -⟩ := endPending_frame s m o r
  refine .of_lists (by rw [hadm]) (by rw [hadm]; exact map_number_filter ..) ?_
  rw [hframe]

theorem passSteps_modAdm (s : State) (f : MoveRec → MoveRec) (hf : ∀ m, (f m).number = m.number) :
    PassSteps s (s.modAdm fun x => { x with waiting := x.waiting.map f }) := by
  refine .of_lists rfl ?_ rfl
  rw [State.modAdm_adm, List.map_map, show ((·.number) ∘ f : MoveRec → Nat) = (·.number) from funext hf]

theorem passSteps_granting (s : State) (m : MoveRec) : PassSteps s (s.granting m) where
  number := congrArg (fun x => x.adm.lastNumber) (granting_frame s m)
  list := by rw [granting_frame]; exact map_number_filter ..
  owed := congrArg (fun x => x.arb.owed) (granting_frame s m)
  holding u := by
    rw [granting_holding]
    split
    · next h => rw [h]; rfl
    · rfl
  axis := granting_axis s m
  frame := by rw [granting_frame]
  jogless hj := by
    refine ⟨by rw [granting_frame], fun u => ?_⟩
    rw [granting_frame]
    exact hj u

theorem passSteps_of_touches {s t : State} {u : Tier} (h : TouchesOnlySeq s t u)
    (hj : (s.seq u).jog = none → t.man = s.man ∧ (t.seq u).jog = none) : PassSteps s t where
  number := by rw [h.2]
  list := by rw [h.2]
  owed := by rw [h.2]
  holding v := by rw [h.2]; rfl
  axis a := by rw [h.2]; rfl
  frame := by rw [h.2]
  jogless hjogs := by
    refine ⟨(hj (hjogs u)).1, fun v => ?_⟩
    by_cases hv : v = u
    · exact hv ▸ (hj (hjogs u)).2
    · rw [(h.1 v hv).1]
      exact hjogs v

theorem passSteps_grantMove (s : State) (m : MoveRec) : PassSteps s (s.grantMove m) := by
  obtain ⟨htouch, -, -, hjog⟩ := seqTake_touches (s.granting m) m
  exact (passSteps_granting s m).trans (passSteps_of_touches htouch fun hj => ⟨seqTake_man hj, hjog hj⟩)

theorem passSteps_visit (w : Walk) (m : MoveRec) : PassSteps w.state (w.visit m).state := by
  unfold Walk.visit
  dsimp only
  split
  · exact passSteps_endPending ..
  · refine (passSteps_modAdm w.state _ fun x => ?_).trans (passSteps_grantMove _ m)
    split <;> rfl
  · refine passSteps_modAdm w.state _ fun x => ?_
    split <;> rfl

theorem passSteps_walk (l : List MoveRec) (w : Walk) : PassSteps w.state (l.foldl Walk.visit w).state := by
  induction l generalizing w with
  | nil => exact .refl _
  | cons m l ih => exact (passSteps_visit w m).trans (ih _)

theorem passSteps_testStalemate (s : State) : PassSteps s s.testStalemate := by
  unfold State.testStalemate
  split
  · exact .of_lists rfl (List.Sublist.refl _) rfl
  · exact .refl s

/-- A grant pass takes such steps alone, and none in SETUP. -/
theorem passSteps_runPass (s : State) : PassSteps s s.runPass ∧ (s.auth.mode = .setup → s.runPass.man = s.man) := by
  have hflag : PassSteps s (s.modArb fun x => { x with passRequested := false }) := .of_lists rfl (List.Sublist.refl _) rfl
  refine ⟨?_, fun hmode => ?_⟩
  · unfold State.runPass
    dsimp only
    split
    · exact hflag.trans ((passSteps_walk s.adm.waiting ⟨_, [], 0, 0, []⟩).trans (passSteps_testStalemate _))
    · exact hflag
  · unfold State.runPass
    simp [State.inRun, hmode]

end Sys2Proof.Machine

/-! SUPPORT. One visit of a grant pass: a move granted, its effect on the checks of a younger one, a move held (R50 to R54). -/

namespace Sys2Proof.Machine

open Sys2Proof

/-! ### A move granted -/

theorem Granted.congr {s t s' t' : State} {m : MoveRec} (h : Granted s t m) (hpath : s'.pathOf m = s.pathOf m)
    (hcells : s'.reservedFor m = s.reservedFor m) (hdemand : s'.demandOf m = s.demandOf m)
    (hhold : s'.holding m.tier = s.holding m.tier) (hseq : s'.seq m.tier = s.seq m.tier)
    (hclock : s'.clock = s.clock) (htier : s'.tier m.tier = s.tier m.tier) (hpair : s'.pair m.tier = s.pair m.tier)
    (hpos : (s'.axis ⟨m.tier, .R⟩).position = (s.axis ⟨m.tier, .R⟩).position)
    (hhold' : t'.holding m.tier = t.holding m.tier) (hseq' : t'.seq m.tier = t.seq m.tier)
    (hmail : ∀ c ∈ t.mail, c ∈ t'.mail) : Granted s' t' m := by
  obtain ⟨h1, h2, h3, h4, h5, h6⟩ := h
  unfold Granted
  rw [hhold', hpath, hcells, hdemand, hhold]
  exact ⟨h1, h2, h3, h4, h5, fun hj => (h6 (by rw [← hseq]; exact hj)).congr hseq hclock htier hpair hpos hseq' hmail⟩

/-- A granted move stays granted while its tier's holding and sequencer stay. -/
theorem Granted.later {s t t' : State} {m : MoveRec} (h : Granted s t m) (hhold : t'.holding m.tier = t.holding m.tier)
    (hseq : t'.seq m.tier = t.seq m.tier) (hmail : ∀ c ∈ t.mail, c ∈ t'.mail) : Granted s t' m :=
  h.congr rfl rfl rfl rfl rfl rfl rfl rfl rfl hhold hseq hmail

/-- What a grant leaves as it is outside its tier, and what it makes of list and flags (R52). -/
theorem grantMove_frame (s : State) (m : MoveRec) :
    (s.grantMove m).adm = { s.adm with waiting := s.adm.waiting.filter fun y => y.number != m.number } ∧
    (s.grantMove m).arb = { s.arb with tiers := s.arb.tiers.set m.tier (s.reservedBy m), armed := true, passRequested := true } ∧
    (∀ v, v ≠ m.tier → (s.grantMove m).holding v = s.holding v ∧ (s.grantMove m).seq v = s.seq v) ∧
    (∀ c ∈ s.mail, c ∈ (s.grantMove m).mail) := by
  obtain ⟨⟨hothers, hframe⟩, hmail, hpass, -⟩ := seqTake_touches (s.granting m) m
  rw [← grantMove_eq] at hothers hframe hmail hpass
  have harb : (s.grantMove m).arb =
      { s.arb with tiers := s.arb.tiers.set m.tier (s.reservedBy m), armed := true, passRequested := true } := by
    have hp := hpass (congrArg (fun x => x.arb.passRequested) (granting_frame s m))
    rw [hframe, hp, granting_frame]
  have hsent (c : Instr) (hc : c ∈ s.mail) : c ∈ (s.granting m).mail := mem_requestPass_mail hc
  refine ⟨?_, harb, fun v hv => ⟨?_, (hothers v hv).1.trans ?_⟩, fun c hc => hmail c (hsent c hc)⟩
  · rw [hframe, granting_frame]
  · unfold State.holding
    rw [harb]
    exact (Eight.get_set ..).trans (if_neg hv)
  · rw [granting_frame]
    rfl

/-- A grant of a move whose checks pass. -/
theorem grantMove_granted {s : State} {m : MoveRec} (hslot : (s.seq m.tier).slot = none) (hpost : s.postureFits m = true) :
    Granted s (s.grantMove m) m := by
  have hhold : (s.grantMove m).holding m.tier = s.reservedBy m := by
    unfold State.holding
    rw [(grantMove_frame s m).2.1]
    exact (Eight.get_set ..).trans (if_pos rfl)
  have hseq : (s.granting m).seq m.tier = s.seq m.tier := by rw [granting_frame]; rfl
  unfold Granted
  rw [hhold]
  refine ⟨rfl, rfl, rfl, rfl, rfl, fun hj => ?_⟩
  have hfit := (postureFits_iff s m).mp hpost
  have took : TookMove (s.granting m) ((s.granting m).seqTake m) m := by
    refine seqTake_took (hseq ▸ hslot) (hseq ▸ hj) fun h hg => ?_
    rw [hg] at hfit
    exact hseq ▸ hfit.1
  rw [grantMove_eq]
  refine took.congr hseq.symm ?_ ?_ ?_ ?_ rfl fun _ => id
  · rw [granting_frame]
  · rw [granting_frame]; rfl
  · rw [granting_frame]; rfl
  · rw [granting_axis]

/-! ### The checks of a younger move beside a granted one -/

/-- The figures of a move read tables, tR's position and its tier's holding alone (R42, R47). -/
theorem figures_congr {s t : State} {n : MoveRec} (htables : t.tables = s.tables)
    (haxis : ∀ a, t.axis a = { s.axis a with release := (t.axis a).release })
    (hhold : t.holding n.tier = s.holding n.tier) :
    t.pathOf n = s.pathOf n ∧ t.reservedFor n = s.reservedFor n ∧ t.demandOf n = s.demandOf n ∧
      t.drivesFit n = s.drivesFit n := by
  have htier (u : Tier) : t.tier u = s.tier u := congrArg (fun x : Tables => x.tiers.get u) htables
  have hcells (u : Tier) (b : Nat) : t.bandCells u b = s.bandCells u b := congrArg (fun x : Tables => (x.bands.get u).getD b 0) htables
  have hangle (u : Tier) (k : Station) : t.stationAngle u k = s.stationAngle u k :=
    congrArg (fun x : Tables => (x.stations.get u).get k) htables
  have hpos (a : Axis) : (t.axis a).position = (s.axis a).position := by rw [haxis]
  have hfit (a : Axis) : ((t.axis a).valid && !(t.axis a).limit && (t.axis a).ready) =
      ((s.axis a).valid && !(s.axis a).limit && (s.axis a).ready) := by rw [haxis]
  have hpath : t.pathOf n = s.pathOf n := by
    simp only [State.pathOf, State.goalBand, hpos, hhold, hangle]
  refine ⟨hpath, ?_, ?_, ?_⟩
  · simp only [State.reservedFor, State.bandUnion, hpath, htier, hhold, hcells]
  · simp only [State.demandOf, htier]
  · simp only [State.drivesFit, hfit]

/-- Beside a granted move the cells of another tier's move fit when they meet none of the granted one (R40, R50). -/
theorem cellsFit_beside {s t : State} {m n : MoveRec} (hfloor : FloorSafe s) (hne : n.tier ≠ m.tier)
    (harb : t.arb.tiers = s.arb.tiers.set m.tier (s.reservedBy m)) (howed : t.arb.owed = s.arb.owed)
    (hcells : t.reservedFor n = s.reservedFor n) (hm : s.cellsFit m = true) (hn : s.cellsFit n = true) :
    t.cellsFit n = true ↔ s.reservedFor m &&& s.reservedFor n = 0 := by
  have hown (v : Tier) : t.holding v = if v = m.tier then s.reservedBy m else s.holding v := by
    unfold State.holding
    rw [harb]
    exact Eight.get_set ..
  have hreserved (c : Nat) : (s.reservedBy m).owns.getLsbD c =
      ((s.holding m.tier).standing.getLsbD c || (s.reservedFor m).getLsbD c) := owns_getLsbD ..
  have hapart (c : Nat) : (s.holding m.tier).owns.getLsbD c = true → (s.holding n.tier).owns.getLsbD c = false :=
    (and_eq_zero_iff ..).mp (hfloor.1 m.tier n.tier hne.symm) c
  rw [cellsFit_iff, and_eq_zero_iff, hcells, hown, if_neg hne, howed]
  rw [cellsFit_iff] at hm hn
  refine ⟨fun h c hc => ?_, fun h c hc hr => ?_⟩
  · have hlt : c < 64 := Nat.lt_of_not_le fun hge => by rw [BitVec.getLsbD_of_ge _ _ hge] at hc; cases hc
    by_contra hr
    obtain hmine | ⟨hfree, -⟩ := h c hlt (by simpa using hr)
    · obtain hms | ⟨hnone, -⟩ := hm c hlt hc
      · rw [hapart c hms] at hmine
        cases hmine
      · have := (owner_eq_none_iff _ c).mp hnone n.tier
        rw [show (s.arb.tiers.get n.tier).owns.getLsbD c = true from hmine] at this
        cases this
    · have := (owner_eq_none_iff _ c).mp hfree m.tier
      rw [show t.arb.tiers.get m.tier = s.reservedBy m from (hown m.tier).trans (if_pos rfl), hreserved, hc] at this
      simp at this
  · obtain hmine | ⟨hfree, howes⟩ := hn c hc hr
    · exact .inl hmine
    · refine .inr ⟨(owner_eq_none_iff ..).mpr fun v => ?_, howes⟩
      have hv := (owner_eq_none_iff _ c).mp hfree v
      change (t.holding v).owns.getLsbD c = false
      rw [hown]
      split
      · next e =>
        rw [e] at hv
        rw [show (s.arb.tiers.get m.tier).owns.getLsbD c = _ from owns_getLsbD .., Bool.or_eq_false_iff] at hv
        rw [hreserved, Bool.or_eq_false_iff]
        refine ⟨hv.1, ?_⟩
        by_contra hm'
        have := h c (by simpa using hm')
        rw [hr] at this
        cases this
      · exact hv

/-- What the pass finds of a grantable move of another tier beside a granted one (R50). -/
theorem findMove_beside {s t : State} {m n : MoveRec} (hfloor : FloorSafe s)
    (hidle : ∀ u, (s.holding u).active = false → (s.holding u).demand = 0) (hne : n.tier ≠ m.tier)
    (harb : t.arb.tiers = s.arb.tiers.set m.tier (s.reservedBy m)) (howed : t.arb.owed = s.arb.owed)
    (hseq : t.seq n.tier = s.seq n.tier) (hload : t.loadOf n.tier = s.loadOf n.tier) (htables : t.tables = s.tables)
    (haxis : ∀ a, t.axis a = { s.axis a with release := (t.axis a).release })
    (hm : s.findMove m [] 0 0 = .grant) (hn : s.findMove n [] 0 0 = .grant) :
    t.findMove n [] 0 0 =
      if s.reservedFor m &&& s.reservedFor n ≠ 0 then .held .cells
      else if s.tables.hall.capacity < s.arb.committed + s.demandOf m + s.demandOf n then .held .power
      else .grant := by
  obtain ⟨-, hmbusy, -, -, -, -, hmcells, -⟩ := (findMove_eq_grant_iff ..).mp hm
  obtain ⟨-, hbusy, hinh, hl, hdrives, hpost, hcells, -⟩ := (findMove_eq_grant_iff ..).mp hn
  have hhold : t.holding n.tier = s.holding n.tier := by
    unfold State.holding
    rw [harb]
    exact (Eight.get_set ..).trans (if_neg hne)
  obtain ⟨-, hres, hdem, hdr⟩ := figures_congr htables haxis hhold
  have hbusy' : t.busyTier n.tier = false := by
    unfold State.busyTier
    rw [hseq, hhold]
    exact hbusy
  have hpost' : t.postureFits n = true := by
    unfold State.postureFits
    rw [hseq, hhold]
    exact hpost
  have hcommitted : t.arb.committed = s.arb.committed + s.demandOf m := by
    have hd : (s.arb.tiers.get m.tier).demand = 0 := hidle m.tier (by
      unfold State.busyTier at hmbusy
      exact (Bool.or_eq_false_iff.mp hmbusy).2)
    have hset := committed_set s.arb m.tier (s.reservedBy m) hd
    unfold Arbiter.committed at hset ⊢
    rw [harb]
    exact hset
  have hfit : t.cellsFit n = true ↔ s.reservedFor m &&& s.reservedFor n = 0 :=
    cellsFit_beside hfloor hne harb howed hres hmcells hcells
  have hpow : t.fitsPower (t.demandOf n) = true ↔
      ¬s.tables.hall.capacity < s.arb.committed + s.demandOf m + s.demandOf n := by
    rw [fitsPower_iff, hcommitted, hdem, htables, Nat.not_lt]
  have hage : t.fitsPower (t.demandOf n) = true → t.agingFits n 0 0 = true := fun h => by
    rw [agingFits_iff]
    exact ⟨fun c _ => by simp, by simpa using (fitsPower_iff ..).mp h⟩
  unfold State.findMove
  simp only [List.contains_nil, Bool.false_eq_true, if_false, hbusy', hseq, hinh, hload, hl, hdr, hdrives, hpost',
    Bool.not_true]
  by_cases hc : s.reservedFor m &&& s.reservedFor n = 0
  · rw [if_neg (not_not.mpr hc), hfit.mpr hc]
    by_cases hp : s.tables.hall.capacity < s.arb.committed + s.demandOf m + s.demandOf n
    · rw [if_pos hp, Bool.eq_false_iff.mpr (mt hpow.mp (not_not.mpr hp))]
      rfl
    · rw [if_neg hp, hpow.mpr hp, hage (hpow.mpr hp)]
      rfl
  · rw [if_pos hc, Bool.eq_false_iff.mpr (mt hfit.mp hc)]
    rfl

end Sys2Proof.Machine

/-! SUPPORT. Grant passes over several moves, and O40 (R49 to R55). -/

namespace Sys2Proof.Machine

open Sys2Proof

/-! ### One visit -/

theorem visit_held {w : Walk} {m : MoveRec} {r : HoldReason} (h : w.state.findMove m w.blocked w.cells w.power = .held r) :
    w.visit m =
      { state := w.state.modPending m.number fun y => { y with lastRefusal := some r }
        blocked := m.tier :: w.blocked
        cells := if w.state.tables.hall.bypassLimit ≤ m.bypass then w.cells ||| w.state.reservedFor m else w.cells
        power := if w.state.tables.hall.bypassLimit ≤ m.bypass then w.power + w.state.demandOf m else w.power
        waiting := if r = .cells ∨ r = .power then m.number :: w.waiting else w.waiting } := by
  unfold Walk.visit
  simp only [h, decide_eq_true_eq]

theorem visit_inhibited {w : Walk} {m : MoveRec} (h : w.state.findMove m w.blocked w.cells w.power = .inhibited) :
    w.visit m = { w with state := w.state.endPending m .failed .inhibit } := by
  unfold Walk.visit
  simp only [h]

/-- Each move of some numbers counts a bypass (R53). -/
def State.bypassed (s : State) (numbers : List Nat) : State :=
  s.modAdm fun x =>
    { x with
      waiting := x.waiting.map fun y =>
        if numbers.contains y.number then { y with bypass := min Config.bypassMax (y.bypass + 1) } else y }

theorem visit_grant {w : Walk} {m : MoveRec} (h : w.state.findMove m w.blocked w.cells w.power = .grant) :
    w.visit m = { w with state := (w.state.bypassed w.waiting).grantMove m, waiting := [] } := by
  unfold Walk.visit
  simp only [h]
  rfl

/-! ### Moves held -/

/-- The state with another pending list. -/
def State.withList (s : State) (l : List MoveRec) : State := s.modAdm fun x => { x with waiting := l }

/-- A move held for a reason carries it. -/
def stamped (x : MoveRec × HoldReason) : MoveRec := { x.1 with lastRefusal := some x.2 }

/-- The moves of a pass, each held, that count a bypass when a younger one is granted (R53), the youngest first. -/
def heldNumbers (l : List (MoveRec × HoldReason)) : List Nat :=
  ((l.filter fun x => decide (x.2 = .cells ∨ x.2 = .power)).map fun x => x.1.number).reverse

theorem mem_heldNumbers (l : List (MoveRec × HoldReason)) (n : Nat) :
    n ∈ heldNumbers l ↔ ∃ x ∈ l, (x.2 = .cells ∨ x.2 = .power) ∧ x.1.number = n := by
  simp [heldNumbers, and_assoc]

theorem AllHeld.front {s : State} {l : List (MoveRec × HoldReason)} {x : MoveRec × HoldReason} (h : AllHeld s (l ++ [x])) :
    AllHeld s l ∧ s.findMove x.1 (heldTiers l) (heldCells s l) (heldPower s l) = .held x.2 := by
  refine ⟨fun before after m r e => h before (after ++ [x]) m r (by rw [e]; simp), h l [] x.1 x.2 rfl⟩

theorem modPending_withList {s : State} {l rest : List MoveRec} {m : MoveRec} (f : MoveRec → MoveRec)
    (hl : ∀ y ∈ l, y.number ≠ m.number) (hrest : ∀ y ∈ rest, y.number ≠ m.number) :
    (s.withList (l ++ m :: rest)).modPending m.number f = s.withList (l ++ f m :: rest) := by
  have keep (k : List MoveRec) (hk : ∀ y ∈ k, y.number ≠ m.number) :
      (k.map fun y => if y.number = m.number then f y else y) = k :=
    (List.map_congr_left fun y hy => if_neg (hk y hy)).trans (List.map_id' k)
  unfold State.withList State.modPending
  simp [State.modAdm, keep l hl, keep rest hrest]

/-- A pass that has walked over held moves has given each its reason, and changed nothing else. -/
theorem walk_held (s : State) (l : List (MoveRec × HoldReason)) (rest : List MoveRec)
    (hnodup : ((l.map (·.1) ++ rest).map (·.number)).Nodup) (hall : AllHeld s l) :
    (l.map (·.1)).foldl Walk.visit ⟨s.withList (l.map (·.1) ++ rest), [], 0, 0, []⟩ =
      ⟨s.withList (l.map stamped ++ rest), heldTiers l, heldCells s l, heldPower s l, heldNumbers l⟩ := by
  induction l using List.reverseRecOn generalizing rest with
  | nil => rfl
  | append_singleton l x ih =>
    obtain ⟨hfront, hx⟩ := hall.front
    have hsplit : (l ++ [x]).map (·.1) ++ rest = l.map (·.1) ++ x.1 :: rest := by simp
    rw [hsplit] at hnodup ⊢
    rw [List.map_append, List.foldl_append, ih (x.1 :: rest) hnodup hfront, List.map_singleton, List.foldl_cons, List.foldl_nil]
    have hne : (∀ y ∈ l.map stamped, y.number ≠ x.1.number) ∧ ∀ y ∈ rest, y.number ≠ x.1.number := by
      simp only [List.map_append, List.map_cons, List.nodup_append, List.nodup_cons, List.mem_map] at hnodup
      obtain ⟨-, ⟨hrest, -⟩, hapart⟩ := hnodup
      refine ⟨fun y hy e => ?_, fun y hy e => hrest ⟨y, hy, e⟩⟩
      obtain ⟨z, hz, rfl⟩ := List.mem_map.mp hy
      exact hapart z.1.number ⟨z.1, ⟨z, hz, rfl⟩, rfl⟩ x.1.number List.mem_cons_self e
    rw [visit_held (r := x.2) hx, modPending_withList _ hne.1 hne.2]
    congr 1
    · simp [stamped]
    · simp [heldTiers]
    · simp [heldCells]; rfl
    · simp [heldPower]; rfl
    · unfold heldNumbers
      rw [List.filter_append, List.map_append, List.reverse_append]
      by_cases hr : x.2 = .cells ∨ x.2 = .power
      · simp [hr]
      · simp [hr]

/-! ### The end of a pass -/

/-- A pass as it begins (R50). -/
def State.unasked (s : State) : State := s.modArb fun x => { x with passRequested := false }

/-- A pass before its test for stalemate (R50). -/
def State.passed (s : State) : State := (s.adm.waiting.foldl Walk.visit ⟨s.unasked, [], 0, 0, []⟩).state

/-- A pass asked for in RUN and CLEAR walks over the list and tests for stalemate. -/
theorem exec_grantPass {s : State} (hs : s.held = false) (hp : s.arb.passRequested = true) (hmode : s.auth.mode = .run)
    (hclear : s.man.state = .clear) :
    exec .grantPass s = .next (s.taken .grantPass).passed.testStalemate := by
  refine (exec_live (f := fun s => if s.arb.passRequested then s.runPass else s) .grantPass (execGrantPass.eq_1 ..) hs).trans ?_
  have hrun : (s.taken .grantPass).runPass = (s.taken .grantPass).passed.testStalemate := by
    unfold State.runPass
    simp only [State.inRun, State.isClear, State.modArb_auth, State.modArb_man, taken_auth, taken_man, hmode, hclear]
    rfl
  rw [if_pos (by simpa using hp), hrun]

theorem testStalemate_frame (s : State) :
    s.testStalemate = { s with arb := { s.arb with armed := s.testStalemate.arb.armed }, mail := s.testStalemate.mail } ∧
    (∀ c ∈ s.mail, c ∈ s.testStalemate.mail) ∧ (s.adm.waiting = [] → s.testStalemate = s) := by
  unfold State.testStalemate
  split
  · next h =>
    refine ⟨rfl, fun c hc => List.mem_append_left _ hc, fun he => ?_⟩
    rw [he] at h
    simp at h
  · exact ⟨rfl, fun _ => id, fun _ => rfl⟩

theorem anyActive_eq_false_iff (s : State) : s.anyActive = false ↔ ∀ u, (s.seq u).slot = none := by
  refine ⟨fun h u => ?_, anyActive_of_none⟩
  have := List.any_eq_false.mp h u (Idx8.mem_all u)
  simpa using this

/-- The test at the end of a pass over held moves (R55). -/
theorem testStalemate_held (s : State) (l : List (MoveRec × HoldReason)) (stalemate : Prop)
    (hst : stalemate = (s.arb.armed = true ∧ l ≠ [] ∧ (∀ u, (s.seq u).slot = none) ∧ ∀ x ∈ l, x.2 = .cells ∨ x.2 = .order))
    (t : State) (ht : t = (s.withList (l.map stamped)).testStalemate) :
    (stalemate → t.arb.armed = false ∧ t.mail = s.mail ++ [.latchEvent (.stalemate l.length)]) ∧
      (¬stalemate → t.arb.armed = s.arb.armed ∧ t.mail = s.mail) := by
  have hcond : ((s.withList (l.map stamped)).arb.armed && !(s.withList (l.map stamped)).adm.waiting.isEmpty &&
      !(s.withList (l.map stamped)).anyActive && (s.withList (l.map stamped)).adm.waiting.all heldOnCells) = true ↔
      stalemate := by
    rw [hst, Bool.and_eq_true, Bool.and_eq_true, Bool.and_eq_true, Bool.not_eq_true', Bool.not_eq_true',
      anyActive_eq_false_iff, and_assoc, and_assoc]
    refine and_congr Iff.rfl (and_congr ?_ (and_congr Iff.rfl ?_))
    · simp [State.withList]
    · simp [State.withList, heldOnCells, stamped]
  rw [ht]
  unfold State.testStalemate
  refine ⟨fun h => ?_, fun h => ?_⟩
  · rw [if_pos (hcond.mpr h)]
    refine ⟨rfl, ?_⟩
    simp [State.withList, State.raise, State.emit]
  · rw [if_neg (mt hcond.mp h)]
    exact ⟨rfl, rfl⟩

theorem unasked_withList {s : State} {l : List MoveRec} (h : s.adm.waiting = l) : s.unasked.withList l = s.unasked := by
  rw [← h]
  rfl

/-- A pass over held moves alone. -/
theorem passed_held {s : State} {l : List (MoveRec × HoldReason)} (hl : s.adm.waiting = l.map (·.1))
    (hnodup : (s.adm.waiting.map (·.number)).Nodup) (hall : AllHeld s l) :
    s.passed = s.unasked.withList (l.map stamped) := by
  have hwalk := walk_held s.unasked l [] (by rw [List.append_nil, ← hl]; exact hnodup) hall
  rw [List.append_nil, List.append_nil, unasked_withList hl] at hwalk
  unfold State.passed
  rw [hl, hwalk]

/-- A pass over held moves with a move behind them. -/
theorem passed_behind {s : State} {l : List (MoveRec × HoldReason)} {m : MoveRec} (hl : s.adm.waiting = l.map (·.1) ++ [m])
    (hnodup : (s.adm.waiting.map (·.number)).Nodup) (hall : AllHeld s l) :
    s.passed = (Walk.visit ⟨s.unasked.withList (l.map stamped ++ [m]),
      heldTiers l, heldCells s l, heldPower s l, heldNumbers l⟩ m).state := by
  have hwalk := walk_held s.unasked l [m] (by rw [← hl]; exact hnodup) hall
  rw [unasked_withList hl] at hwalk
  unfold State.passed
  rw [hl, List.foldl_append, hwalk]
  rfl

end Sys2Proof.Machine

/-! SUPPORT. Passes that grant, and O40 (R49 to R55). -/

namespace Sys2Proof.Machine

open Sys2Proof

theorem bypassed_nil (s : State) : s.bypassed [] = s := by
  unfold State.bypassed
  simp [State.modAdm]

/-! ### A move granted behind held ones -/

/-- A held move of a pass that grants a younger one: it carries its reason, and counts a bypass when that is CELLS or
POWER (R53). -/
def overtaken (x : MoveRec × HoldReason) : MoveRec :=
  { x.1 with
    lastRefusal := some x.2
    bypass := if x.2 = .cells ∨ x.2 = .power then min 15 (x.1.bypass + 1) else x.1.bypass }

theorem overtaken_list {l : List (MoveRec × HoldReason)} {m : MoveRec}
    (hnodup : ((l.map (·.1) ++ [m]).map (·.number)).Nodup) :
    (((l.map stamped ++ [m]).map fun y =>
        if (heldNumbers l).contains y.number then { y with bypass := min Config.bypassMax (y.bypass + 1) } else y).filter
      fun y => y.number != m.number) = l.map overtaken := by
  simp only [List.map_append, List.map_map, List.map_cons, List.map_nil, List.nodup_append, List.mem_map,
    List.mem_singleton] at hnodup
  obtain ⟨hnodup, -, hapart⟩ := hnodup
  have hnum (x : MoveRec × HoldReason) (hx : x ∈ l) : x.1.number ≠ m.number := hapart _ ⟨x, hx, rfl⟩ _ rfl
  have hcount (x : MoveRec × HoldReason) (hx : x ∈ l) :
      (heldNumbers l).contains x.1.number = true ↔ x.2 = .cells ∨ x.2 = .power := by
    rw [List.contains_iff_mem, mem_heldNumbers]
    refine ⟨fun ⟨y, hy, hr, hn⟩ => ?_, fun h => ⟨x, hx, h, rfl⟩⟩
    rwa [← List.inj_on_of_nodup_map hnodup hy hx hn]
  rw [List.map_append, List.filter_append, List.map_map]
  have hlast : ([m].map fun y =>
      if (heldNumbers l).contains y.number then { y with bypass := min Config.bypassMax (y.bypass + 1) } else y).filter
      (fun y => y.number != m.number) = [] := by
    rw [List.map_singleton]
    split <;> simp
  have hmap : l.map ((fun y : MoveRec =>
      if (heldNumbers l).contains y.number then { y with bypass := min Config.bypassMax (y.bypass + 1) } else y) ∘ stamped) =
      l.map overtaken := by
    refine List.map_congr_left fun x hx => ?_
    unfold overtaken stamped
    by_cases hr : x.2 = .cells ∨ x.2 = .power
    · simp only [Function.comp_apply, (hcount x hx).mpr hr, hr, if_true]
      rfl
    · simp only [Function.comp_apply, Bool.eq_false_iff.mpr (mt (hcount x hx).mp hr), hr, Bool.false_eq_true, if_false]
  rw [hlast, List.append_nil, hmap, List.filter_eq_self]
  intro y hy
  obtain ⟨x, hx, rfl⟩ := List.mem_map.mp hy
  exact bne_iff_ne.mpr (hnum x hx)

/-- A pass over held moves with a grantable move behind them (R52, R53). -/
theorem passed_granted {s : State} {l : List (MoveRec × HoldReason)} {m : MoveRec}
    (hl : s.adm.waiting = l.map (·.1) ++ [m]) (hnodup : (s.adm.waiting.map (·.number)).Nodup) (hall : AllHeld s l)
    (hm : s.findMove m (heldTiers l) (heldCells s l) (heldPower s l) = .grant) (t : State)
    (ht : t = s.passed.testStalemate) :
    t.adm = { s.adm with waiting := l.map overtaken } ∧ Granted s t m ∧
      (∀ v, v ≠ m.tier → t.holding v = s.holding v ∧ t.seq v = s.seq v) ∧
      t.arb.owed = s.arb.owed ∧ t.arb.passRequested = true ∧ (l = [] → t.arb.armed = true) := by
  obtain ⟨-, hbusy, -, -, -, hpost, -⟩ := (findMove_eq_grant_iff ..).mp hm
  obtain ⟨y, hy⟩ : ∃ y, y = (s.unasked.withList (l.map stamped ++ [m])).bypassed (heldNumbers l) := ⟨_, rfl⟩
  have hpass : s.passed = y.grantMove m := by
    rw [passed_behind hl hnodup hall, visit_grant (show State.findMove _ _ _ _ _ = .grant from hm), hy]
  obtain ⟨hadm, harb, hothers, -⟩ := grantMove_frame y m
  have hgrant : Granted s (y.grantMove m) m := by
    have hslot : (s.seq m.tier).slot = none := by
      unfold State.busyTier at hbusy
      simpa using (Bool.or_eq_false_iff.mp hbusy).1
    refine (grantMove_granted (s := y) (m := m) (by rw [hy]; exact hslot) (by rw [hy]; exact hpost)).congr ?_ ?_ ?_ ?_ ?_ ?_ ?_
      ?_ ?_ rfl rfl (fun _ => id) <;>
    · rw [hy]
      rfl
  obtain ⟨hframe, hmail, hempty⟩ := testStalemate_frame s.passed
  rw [← ht] at hframe hmail hempty
  rw [hpass] at hframe hmail hempty
  have hlist : (y.grantMove m).adm = { s.adm with waiting := l.map overtaken } := by
    rw [hadm, ← overtaken_list (hl ▸ hnodup), hy]
    rfl
  have hhold (v : Tier) : t.holding v = (y.grantMove m).holding v := by rw [hframe]; rfl
  have hseq (v : Tier) : t.seq v = (y.grantMove m).seq v := by rw [hframe]; rfl
  refine ⟨?_, hgrant.later (hhold _) (hseq _) hmail, fun v hv => ?_, ?_, ?_, fun hnil => ?_⟩
  · rw [hframe]
    exact hlist
  · rw [hhold, hseq, (hothers v hv).1, (hothers v hv).2, hy]
    exact ⟨rfl, rfl⟩
  · rw [hframe, harb, hy]
    rfl
  · rw [hframe, harb]
  · rw [hempty (by rw [hlist, hnil]; rfl), harb]

/-! ### Two grantable moves -/

theorem findMove_busy {s : State} {m : MoveRec} (h : (s.holding m.tier).active = true) (cells : CellSet) (power : Nat) :
    s.findMove m [] cells power = .held .tierBusy := by
  have hb : s.busyTier m.tier = true := (busyTier_iff ..).mpr (.inr h)
  unfold State.findMove
  simp [hb]

/-- A move held in a pass behind a granted one, with no other left. -/
theorem visit_last_held {t : State} {n : MoveRec} {r : HoldReason} (hw : t.adm.waiting = [n])
    (h : t.findMove n [] 0 0 = .held r) :
    (Walk.visit ⟨t, [], 0, 0, []⟩ n).state = t.withList [{ n with lastRefusal := some r }] := by
  rw [visit_held (w := ⟨t, [], 0, 0, []⟩) h]
  unfold State.modPending State.withList State.modAdm
  simp [hw]

/-- A pass over two moves that both could be granted (R50 to R52). -/
theorem passed_two {s : State} {m n : MoveRec} (hl : s.adm.waiting = [m, n]) (hne : m.number ≠ n.number) (hfloor : FloorSafe s)
    (hidle : ∀ u, (s.holding u).active = false → (s.holding u).demand = 0) (hm : s.findMove m [] 0 0 = .grant)
    (hn : s.findMove n [] 0 0 = .grant) (t : State) (ht : t = s.passed.testStalemate) :
    Granted s t m ∧
      if m.tier = n.tier then t.adm = { s.adm with waiting := [{ n with lastRefusal := some .tierBusy }] }
      else if s.reservedFor m &&& s.reservedFor n ≠ 0 then
        t.adm = { s.adm with waiting := [{ n with lastRefusal := some .cells }] } ∧ t.holding n.tier = s.holding n.tier
      else if s.tables.hall.capacity < s.arb.committed + s.demandOf m + s.demandOf n then
        t.adm = { s.adm with waiting := [{ n with lastRefusal := some .power }] } ∧ t.holding n.tier = s.holding n.tier
      else t.adm = { s.adm with waiting := [] } ∧ Granted s t n := by
  have slots {k : MoveRec} (h : s.findMove k [] 0 0 = .grant) : (s.seq k.tier).slot = none ∧ s.postureFits k = true := by
    obtain ⟨-, hbusy, -, -, -, hpost, -⟩ := (findMove_eq_grant_iff ..).mp h
    unfold State.busyTier at hbusy
    exact ⟨by simpa using (Bool.or_eq_false_iff.mp hbusy).1, hpost⟩
  obtain ⟨x, hx⟩ : ∃ x, x = s.unasked.grantMove m := ⟨_, rfl⟩
  have hpass : s.passed = (Walk.visit ⟨x, [], 0, 0, []⟩ n).state := by
    unfold State.passed
    rw [hl, List.foldl_cons, List.foldl_cons, List.foldl_nil,
      visit_grant (w := ⟨s.unasked, [], 0, 0, []⟩) (show State.findMove _ _ _ _ _ = .grant from hm), bypassed_nil, hx]
  have hgrant : Granted s x m := hx ▸ grantMove_granted (s := s.unasked) (slots hm).1 (slots hm).2
  obtain ⟨hadm, harb, hothers, -⟩ := grantMove_frame s.unasked m
  have hsteps := passSteps_grantMove s.unasked m
  rw [← hx] at hadm harb hothers hsteps
  have hw : x.adm = { s.adm with waiting := [n] } := by
    rw [hadm, show s.unasked.adm = s.adm from rfl, hl]
    simp [hne.symm]
  have held (r : HoldReason) (h : x.findMove n [] 0 0 = .held r) :
      Granted s t m ∧ t.adm = { s.adm with waiting := [{ n with lastRefusal := some r }] } ∧
        t.holding n.tier = x.holding n.tier := by
    obtain ⟨hframe, hmail, -⟩ := testStalemate_frame s.passed
    rw [← ht] at hframe hmail
    rw [hpass, visit_last_held (by rw [hw]) h] at hframe hmail
    refine ⟨hgrant.later (by rw [hframe]; rfl) (by rw [hframe]; rfl) hmail, ?_, by rw [hframe]; rfl⟩
    have hlist : t.adm = { x.adm with waiting := [{ n with lastRefusal := some r }] } := by rw [hframe]; rfl
    rw [hlist, hw]
  by_cases htier : m.tier = n.tier
  · rw [if_pos htier]
    obtain ⟨h1, h2, -⟩ := held .tierBusy (findMove_busy (htier ▸ hgrant.2.2.1) 0 0)
    exact ⟨h1, h2⟩
  · rw [if_neg htier]
    have hkeep := hothers n.tier (Ne.symm htier)
    have hfind := findMove_beside (t := x) hfloor hidle (Ne.symm htier) (by rw [harb]; rfl) (by rw [harb]; rfl) hkeep.2
      (by rw [hsteps.frame]; rfl) (by rw [hsteps.frame]; rfl) hsteps.axis hm hn
    by_cases hc : s.reservedFor m &&& s.reservedFor n ≠ 0
    · rw [if_pos hc] at hfind ⊢
      obtain ⟨h1, h2, h3⟩ := held .cells hfind
      exact ⟨h1, h2, h3.trans hkeep.1⟩
    · rw [if_neg hc] at hfind ⊢
      by_cases hp : s.tables.hall.capacity < s.arb.committed + s.demandOf m + s.demandOf n
      · rw [if_pos hp] at hfind ⊢
        obtain ⟨h1, h2, h3⟩ := held .power hfind
        exact ⟨h1, h2, h3.trans hkeep.1⟩
      · rw [if_neg hp] at hfind ⊢
        have hpass2 : s.passed = x.grantMove n := by rw [hpass, visit_grant (w := ⟨x, [], 0, 0, []⟩) hfind, bypassed_nil]
        obtain ⟨hadm2, -, hothers2, hmail2⟩ := grantMove_frame x n
        have hlist : (x.grantMove n).adm = { s.adm with waiting := [] } := by
          rw [hadm2, hw]
          simp
        have ht' : t = x.grantMove n := by
          rw [ht, hpass2]
          exact (testStalemate_frame _).2.2 (by rw [hlist])
        obtain ⟨hpath, hres, hdem, -⟩ := figures_congr (n := n) (s := s) (t := x) (by rw [hsteps.frame]; rfl) hsteps.axis hkeep.1
        have hpost : x.postureFits n = true := by
          unfold State.postureFits
          rw [hkeep.1, hkeep.2]
          exact (slots hn).2
        have hsecond := grantMove_granted (s := x) (m := n) (by rw [hkeep.2]; exact (slots hn).1) hpost
        rw [ht']
        refine ⟨hgrant.later (hothers2 m.tier htier).1 (hothers2 m.tier htier).2 hmail2, hlist, ?_⟩
        refine hsecond.congr hpath.symm hres.symm hdem.symm hkeep.1.symm hkeep.2.symm ?_ ?_ ?_ ?_ rfl rfl fun _ => id
        · rw [hsteps.frame]; rfl
        · rw [hsteps.frame]; rfl
        · rw [hsteps.frame]; rfl
        · rw [hsteps.axis]; rfl

/-! ### O40 -/

/-- A pass over one move that fails for an inhibit (R50). -/
theorem passed_inhibited {s : State} {m : MoveRec} (hl : s.adm.waiting = [m]) (hm : s.findMove m [] 0 0 = .inhibited)
    (hout : s.adm.outcomes.length ≤ 16) (t : State) (ht : t = s.passed.testStalemate) :
    t.adm = { s.adm with
        waiting := [], outcomes := newest16 (s.adm.outcomes ++ [endRecord m .failed .inhibit s.clock]) } ∧
      t = { s with adm := t.adm, arb := { s.arb with passRequested := true, armed := true }, mail := t.mail } := by
  have hpass : s.passed = s.unasked.endPending m .failed .inhibit := by
    unfold State.passed
    rw [hl, List.foldl_cons, List.foldl_nil,
      visit_inhibited (w := ⟨s.unasked, [], 0, 0, []⟩) (show State.findMove _ _ _ _ _ = .inhibited from hm)]
  obtain ⟨hadm, hframe, -⟩ := endPending_frame s.unasked m .failed .inhibit
  have hlist : (s.unasked.endPending m .failed .inhibit).adm = { s.adm with
      waiting := [], outcomes := newest16 (s.adm.outcomes ++ [endRecord m .failed .inhibit s.clock]) } := by
    rw [hadm, show s.unasked.adm = s.adm from rfl, pushOutcome_eq _ _ hout, hl]
    simp
    rfl
  have hsame : t = s.unasked.endPending m .failed .inhibit := by
    rw [ht, hpass]
    exact (testStalemate_frame _).2.2 (by rw [hlist])
  rw [hsame]
  refine ⟨hlist, ?_⟩
  rw [hframe]
  rfl

/-- A pass over held moves and its test for stalemate (R50, R51, R55). -/
theorem passed_allHeld {s : State} {l : List (MoveRec × HoldReason)} (hl : s.adm.waiting = l.map (·.1))
    (hnodup : (s.adm.waiting.map (·.number)).Nodup) (hall : AllHeld s l) (t : State) (ht : t = s.passed.testStalemate) :
    t.adm = { s.adm with waiting := l.map stamped } ∧
      t = { s with adm := t.adm, arb := { s.arb with passRequested := false, armed := t.arb.armed }, mail := t.mail } ∧
      ∀ stalemate : Prop, stalemate = (s.arb.armed = true ∧ l ≠ [] ∧ (∀ u, (s.seq u).slot = none) ∧
          ∀ x ∈ l, x.2 = .cells ∨ x.2 = .order) →
        (stalemate → t.arb.armed = false ∧ t.mail = s.mail ++ [.latchEvent (.stalemate l.length)]) ∧
        (¬stalemate → t.arb.armed = s.arb.armed ∧ t.mail = s.mail) := by
  rw [passed_held hl hnodup hall] at ht
  obtain ⟨hframe, -, -⟩ := testStalemate_frame (s.unasked.withList (l.map stamped))
  rw [← ht] at hframe
  refine ⟨by rw [hframe]; rfl, by rw [hframe]; rfl, fun stalemate hst => ?_⟩
  exact testStalemate_held s.unasked l stalemate hst t ht

theorem allHeld_nil (s : State) : AllHeld s [] := fun before after m r e => by simp at e

theorem allHeld_singleton {s : State} {m : MoveRec} {r : HoldReason} (h : s.findMove m [] 0 0 = .held r) :
    AllHeld s [(m, r)] := by
  intro before after n q e
  obtain ⟨rfl, h1, -⟩ | ⟨a, -, h2⟩ := List.cons_eq_append_iff.mp e
  · simp_all [heldTiers, heldCells, heldPower]
  · simp at h2

/-- A pass with no pass asked for, or that reaches no move (R50). -/
theorem exec_grantPass_idle {s : State} (hs : s.held = false) :
    (s.arb.passRequested = false → exec .grantPass s = .next (s.taken .grantPass)) ∧
    (s.arb.passRequested = true → s.auth.mode = .setup ∨ s.man.state ≠ .clear →
      exec .grantPass s = .next { s with arb := { s.arb with passRequested := false }, mail := s.mail.erase .grantPass }) := by
  have hexec := exec_live (f := fun s => if s.arb.passRequested then s.runPass else s) .grantPass (execGrantPass.eq_1 ..) hs
  refine ⟨fun h => ?_, fun h hreach => ?_⟩
  · rw [hexec, if_neg (by simpa using h)]
  · rw [hexec, if_pos (by simpa using h)]
    unfold State.runPass
    dsimp only
    rw [if_neg]
    · rfl
    · obtain hmode | hstop := hreach
      · simp [State.inRun, hmode]
      · simp [State.isClear, hstop]

/-- A pass changes what a grant pass may change, in every state. -/
theorem exec_grantPass_frame {s : State} (hs : s.held = false) : ∃ t, exec .grantPass s = .next t ∧
    PassSteps s t ∧ ((s.auth.mode = .run → ∀ u, (s.seq u).jog = none) → t.man = s.man) := by
  have hexec := exec_live (f := fun s => if s.arb.passRequested then s.runPass else s) .grantPass (execGrantPass.eq_1 ..) hs
  have htaken : PassSteps s (s.taken .grantPass) := .of_lists rfl (List.Sublist.refl _) rfl
  obtain ⟨hsteps, hsetup⟩ := passSteps_runPass (s.taken .grantPass)
  by_cases hp : s.arb.passRequested = true
  · rw [if_pos (by simpa using hp)] at hexec
    refine ⟨_, hexec, htaken.trans hsteps, fun hj => ?_⟩
    cases hmode : s.auth.mode with
    | setup => exact hsetup hmode
    | run => exact (hsteps.jogless (hj hmode)).1
  · rw [if_neg (by simpa using hp)] at hexec
    exact ⟨_, hexec, htaken, fun _ => rfl⟩

/-- What the older moves of a pass change of a check: a blocked tier holds on ORDER, protection alone on AGED (R51, R54). -/
theorem findMove_behind (s : State) (m : MoveRec) (blocked : List Tier) (cells : CellSet) (power : Nat) :
    (m.tier ∈ blocked → s.findMove m blocked cells power = .held .order) ∧
    (s.findMove m blocked 0 0 = .grant →
      s.findMove m blocked cells power = .grant ∨ s.findMove m blocked cells power = .held .aged) := by
  refine ⟨fun h => ?_, fun h => ?_⟩
  · unfold State.findMove
    exact if_pos (List.contains_iff_mem.mpr h)
  · obtain ⟨h1, h2, h3, h4, h5, h6, h7, h8, -⟩ := (findMove_eq_grant_iff ..).mp h
    cases hage : s.agingFits m cells power with
    | true => exact .inl ((findMove_eq_grant_iff ..).mpr ⟨h1, h2, h3, h4, h5, h6, h7, h8, hage⟩)
    | false =>
      refine .inr ?_
      unfold State.findMove
      simp only [h1, h2, h3, h4, h5, h6, h7, h8, hage, Bool.false_eq_true, if_false, Bool.not_true, Bool.not_false, if_true]

/-- Settles O40: frames by `PassSteps`, held moves by `walk_held`, grants by `grantMove_granted`, a second grant by
`findMove_beside`. -/
theorem grantPassOverOneMove : Obligations.GrantPassOverOneMove := by
  unfold Obligations.GrantPassOverOneMove
  intro s hs
  obtain ⟨hidle, hreach⟩ := exec_grantPass_idle hs
  refine ⟨?_, hidle, hreach, fun m hp hmode hclear hl => ?_, findMove_behind s, ?_, ?_, ?_⟩
  · obtain ⟨t, he, h, hman⟩ := exec_grantPass_frame hs
    exact ⟨t, he, h.number, h.list, h.owed, h.holding, h.axis, h.frame, hman⟩
  · have hexec := exec_grantPass hs hp hmode hclear
    have hnodup : (s.adm.waiting.map (·.number)).Nodup := by simp [hl]
    refine ⟨fun r hr => ?_, fun hi hout => ⟨_, hexec, ?_⟩, fun hg => ?_⟩
    · obtain ⟨h1, h2, h3⟩ := passed_allHeld (s := s.taken .grantPass) (l := [(m, r)]) hl hnodup (allHeld_singleton hr) _ rfl
      refine ⟨_, hexec, h1, by rw [h2], fun hc harmed hslots => ?_, h2⟩
      exact (h3 _ rfl).1 ⟨harmed, by simp, hslots, by simp [hc]⟩
    · exact passed_inhibited (s := s.taken .grantPass) hl hi hout _ rfl
    · obtain ⟨h1, h2, h3, h4, h5, h6⟩ :=
        passed_granted (s := s.taken .grantPass) (l := []) hl hnodup (allHeld_nil _) hg _ rfl
      exact ⟨_, hexec, h1, h2, h3, h6 rfl, h5, h4⟩
  · intro l hp hmode hclear hl hnodup hall
    obtain ⟨h1, h2, h3⟩ := passed_allHeld (s := s.taken .grantPass) hl hnodup hall _ rfl
    exact ⟨_, exec_grantPass hs hp hmode hclear, h1, h2, h3⟩
  · intro l m hp hmode hclear hl hnodup hall hm
    obtain ⟨h1, h2, h3, h4, h5, -⟩ := passed_granted (s := s.taken .grantPass) hl hnodup hall hm _ rfl
    exact ⟨_, exec_grantPass hs hp hmode hclear, h1, h2, h3, h4, h5⟩
  · intro m n hp hmode hclear hl hne hfloor hdemand hm hn
    obtain ⟨h1, h2⟩ := passed_two (s := s.taken .grantPass) hl hne hfloor hdemand hm hn _ rfl
    exact ⟨_, exec_grantPass hs hp hmode hclear, h1, h2⟩

end Sys2Proof.Machine

/-! SUPPORT. One update of an axis: what it leaves of the other blocks, and what it reports (R89, R100, R107, R114). -/

namespace Sys2Proof.Machine

open Sys2Proof

/-! ### Arrival and rest, read in neighbouring states -/

theorem KeepsExempt.congr {s t s' t' : State} {u : Tier} (h : KeepsExempt s t u) (hs : s'.seq u = s.seq u)
    (hse : s'.man.exempt.get u = s.man.exempt.get u) (ht : t'.seq u = t.seq u) (hte : t'.man = t.man) :
    KeepsExempt s' t' u := by
  unfold KeepsExempt at *
  rwa [hs, ht, hse, hte]

theorem JogBrakes.congr {q : Seq} {t t' : State} {u : Tier} {j : Jog} (h : JogBrakes q t u j) (ht : t'.seq u = t.seq u)
    (hte : t'.man = t.man) (hmail : ∀ c ∈ t.mail, c ∈ t'.mail) : JogBrakes q t' u j := by
  unfold JogBrakes JogEnded at *
  split at h
  · next hb =>
    obtain ⟨h1, h2, h3⟩ := h
    rw [if_pos hb, ht, hte]
    exact ⟨h1, h2, hmail _ h3⟩
  · next hb =>
    rw [if_neg hb, ht]
    exact ⟨h.1, hmail _ h.2⟩

theorem ArrivalTaken.congr {s t s' t' : State} {u : Tier} (h : ArrivalTaken s t u) (hs : s'.seq u = s.seq u)
    (hse : s'.man.exempt.get u = s.man.exempt.get u) (ht : t'.seq u = t.seq u) (hte : t'.man = t.man)
    (hmail : ∀ c ∈ t.mail, c ∈ t'.mail) : ArrivalTaken s' t' u := by
  obtain ⟨hk, h⟩ := h
  refine ⟨hk.congr hs hse ht hte, ?_⟩
  rw [hs]
  cases hslot : (s.seq u).slot with
  | some a =>
    rw [hslot] at h
    exact ht.trans h
  | none =>
    rw [hslot] at h
    cases hj : (s.seq u).jog with
    | none =>
      rw [hj] at h
      exact ht.trans h
    | some j =>
      rw [hj] at h
      dsimp only at h ⊢
      split at h
      · next hst => exact (if_pos hst).mpr (h.congr ht hte hmail)
      · next hst => exact (if_neg hst).mpr (ht.trans h)

theorem RestTaken.congr {s t s' t' : State} {u : Tier} (h : RestTaken s t u) (hs : s'.seq u = s.seq u)
    (hse : s'.man.exempt.get u = s.man.exempt.get u) (ht : t'.seq u = t.seq u) (hte : t'.man = t.man)
    (hmail : ∀ c ∈ t.mail, c ∈ t'.mail) : RestTaken s' t' u := by
  obtain ⟨hk, h⟩ := h
  refine ⟨hk.congr hs hse ht hte, ?_⟩
  rw [hs]
  cases hslot : (s.seq u).slot with
  | some a =>
    rw [hslot] at h
    dsimp only at h ⊢
    split at h
    · next hst =>
      refine (if_pos hst).mpr ?_
      unfold MoveBrakes at *
      rw [ht]
      exact ⟨h.1, fun hb => hmail _ (h.2 hb)⟩
    · next hst => exact (if_neg hst).mpr (ht.trans h)
  | none =>
    rw [hslot] at h
    cases hj : (s.seq u).jog with
    | none =>
      rw [hj] at h
      exact ht.trans h
    | some j =>
      rw [hj] at h
      dsimp only at h ⊢
      split at h
      · next hst => exact (if_pos hst).mpr (h.congr ht hte hmail)
      · next hst => exact (if_neg hst).mpr (ht.trans h)

/-- A sequencer that acts behind a change of axes. -/
theorem touches_behind_axes {s x t : State} {u : Tier} (hx : x = { s with axes := x.axes }) (h : TouchesOnlySeq x t u) :
    TouchesOnlySeq { s with axes := t.axes } t u ∧ t.axes = x.axes := by
  obtain ⟨axes, rfl⟩ : ∃ axes, x = { s with axes := axes } := ⟨_, hx⟩
  obtain ⟨hothers, hframe⟩ := h
  have haxes : t.axes = axes := congrArg (fun y : State => y.axes) hframe
  refine ⟨⟨hothers, ?_⟩, haxes⟩
  rw [haxes]
  exact hframe

/-! ### One update -/

/-- An update before the report of its phase: the axis changed, the pass asked for, the ENCODER cause and the position
reported (R89, R90, R114). -/
def State.updateBefore (s : State) (a : Axis) (e : EncoderRead) : State :=
  (((s.modAxis a fun _ => s.updated a e).when
      (s.axisPresent a && decide ((s.axis a).valid ≠ (s.updated a e).valid)) State.requestPass).when
    (s.axisPresent a && (s.axis a).valid && !(s.updated a e).valid && (s.updated a e).contactor) fun s =>
      s.emit (.causeReport (s.axisCause a .encoder))).positionReport a (s.updated a e)

/-- What an update reports behind the report of its phase: a release point passed, and what the checks found. -/
def State.updateReports (s : State) (a : Axis) (e : EncoderRead) : List Instr :=
  (if (s.beforeRelease a e).releasePassed then
      [.bandReleaseReport a.tier (s.updated a e).served (s.updated a e).position] else []) ++
    (s.checked a e).2.map fun k => .causeReport ⟨k, some a.tier, some a, (s.updated a e).served, some (s.updated a e).demand,
      some (s.updated a e).position, none⟩

theorem updateAxis_parts (s : State) (a : Axis) (e : EncoderRead) :
    s.updateAxis a e = ((s.updateBefore a e).phaseReport a (s.advanced a e).2).emitAll (s.updateReports a e) := by
  rw [updateAxis_eq]
  unfold State.updateBefore State.updateReports State.when
  dsimp only
  split
  · simp [State.emitAll, State.emit]
  · simp [State.emitAll]

theorem positionReport_acts (s : State) (a : Axis) (x : AxisCtl) : SeqActs a.tier s (s.positionReport a x) := by
  unfold State.positionReport
  split
  · exact .refl ..
  · exact (SeqActs.refl a.tier s).emit _
  · exact (SeqActs.refl a.tier s).emit _

theorem phaseReport_acts (s : State) (a : Axis) (r : PhaseReport) : SeqActs a.tier s (s.phaseReport a r) := by
  cases r with
  | none => exact .refl ..
  | arrival => exact (SeqActs.refl a.tier s).seqArrival.seqReport
  | rest => exact (SeqActs.refl a.tier s).seqRest.seqReport
  | lift | set | settleEnd | settleTimeout => exact (SeqActs.refl a.tier s).emit _

theorem updateBefore_acts (s : State) (a : Axis) (e : EncoderRead) :
    SeqActs a.tier (s.modAxis a fun _ => s.updated a e) (s.updateBefore a e) :=
  (((SeqActs.refl a.tier _).when _ fun _ h => h.requestPass).when _ fun _ h => h.emit _).trans (positionReport_acts ..)

theorem updateAxis_acts (s : State) (a : Axis) (e : EncoderRead) :
    SeqActs a.tier (s.modAxis a fun _ => s.updated a e) (s.updateAxis a e) := by
  rw [updateAxis_parts]
  exact ((updateBefore_acts s a e).trans (phaseReport_acts ..)).emitAll _

/-- An update changes its axis, and its tier's sequencer beyond it. -/
theorem updateAxis_axis (s : State) (a : Axis) (e : EncoderRead) :
    (∀ b, (s.updateAxis a e).axis b = if b = a then s.updated a e else s.axis b) ∧
      TouchesOnlySeq { s with axes := (s.updateAxis a e).axes } (s.updateAxis a e) a.tier := by
  obtain ⟨htouch, haxes⟩ := touches_behind_axes rfl (updateAxis_acts s a e).touches
  refine ⟨fun b => ?_, htouch⟩
  unfold State.axis
  rw [haxes]
  exact State.modAxis_axis ..

theorem updateBefore_frame (s : State) (a : Axis) (e : EncoderRead) :
    (s.updateBefore a e).seqs = s.seqs ∧ (s.updateBefore a e).man = s.man := by
  unfold State.updateBefore State.positionReport State.when
  rw [requestPass_eq]
  split <;> split <;> split <;> exact ⟨rfl, rfl⟩

/-- What the advance of an update leaves of its tier's sequencer (R72, R74, R99). -/
theorem updateAxis_seq (s : State) (a : Axis) (e : EncoderRead) :
    ((s.advanced a e).2 = .arrival → ArrivalTaken s (s.updateAxis a e) a.tier) ∧
    ((s.advanced a e).2 = .rest → RestTaken s (s.updateAxis a e) a.tier) ∧
    ((s.advanced a e).2 ≠ .arrival → (s.advanced a e).2 ≠ .rest →
      (s.updateAxis a e).seqs = s.seqs ∧ (s.updateAxis a e).man = s.man) := by
  obtain ⟨hseqs, hman⟩ := updateBefore_frame s a e
  have hseq : s.seq a.tier = (s.updateBefore a e).seq a.tier := by unfold State.seq; rw [hseqs]
  have hex : s.man.exempt.get a.tier = (s.updateBefore a e).man.exempt.get a.tier := by rw [hman]
  have sent {x : State} (c : Instr) (hc : c ∈ x.mail) : c ∈ (x.emitAll (s.updateReports a e)).mail :=
    List.mem_append_left _ hc
  rw [updateAxis_parts]
  refine ⟨fun h => ?_, fun h => ?_, fun h1 h2 => ?_⟩
  · rw [h]
    exact (seqArrival_taken (s.updateBefore a e) a.tier).congr hseq hex rfl rfl sent
  · rw [h]
    exact (seqRest_taken (s.updateBefore a e) a.tier).congr hseq hex rfl rfl sent
  · cases hr : (s.advanced a e).2 with
    | arrival => exact absurd hr h1
    | rest => exact absurd hr h2
    | none | lift | set | settleEnd | settleTimeout => exact ⟨hseqs, hman⟩

/-- The reports of an update. -/
theorem updateAxis_mail (s : State) (a : Axis) (e : EncoderRead) :
    (∀ c ∈ (s.updateBefore a e).mail, c ∈ (s.updateAxis a e).mail) ∧
    (∀ c ∈ s.updateReports a e, c ∈ (s.updateAxis a e).mail) ∧
    ((s.advanced a e).2 = .lift → Instr.liftComplete a.tier ∈ (s.updateAxis a e).mail) ∧
    ((s.advanced a e).2 = .set → Instr.setComplete a.tier ∈ (s.updateAxis a e).mail) ∧
    ((s.advanced a e).2 = .settleEnd → Instr.settleEnd a ∈ (s.updateAxis a e).mail) ∧
    ((s.advanced a e).2 = .settleTimeout → Instr.settleTimeout a ∈ (s.updateAxis a e).mail) := by
  rw [updateAxis_parts]
  refine ⟨fun c hc => List.mem_append_left _ ((phaseReport_acts ..).sent.subset hc), fun c hc => List.mem_append_right _ hc, ?_⟩
  have told {r : PhaseReport} {c : Instr} (hc : (s.updateBefore a e).phaseReport a r = (s.updateBefore a e).emit c)
      (h : (s.advanced a e).2 = r) :
      c ∈ (((s.updateBefore a e).phaseReport a (s.advanced a e).2).emitAll (s.updateReports a e)).mail := by
    rw [h, hc]
    exact List.mem_append_left _ (List.mem_append_right _ List.mem_cons_self)
  exact ⟨told rfl, told rfl, told rfl, told rfl⟩

/-- A validity that changes asks for a pass, and one that is lost with the contactor closed is an ENCODER cause (R90). -/
theorem updateAxis_validity (s : State) (a : Axis) (e : EncoderRead) :
    (s.axisPresent a = true → (s.updated a e).valid ≠ (s.axis a).valid → (s.updateAxis a e).arb.passRequested = true) ∧
    (s.axisPresent a = true → (s.axis a).valid = true → (s.updated a e).valid = false → (s.updated a e).contactor = true →
      Instr.causeReport ⟨.encoder, some a.tier, some a, (s.updated a e).served, some (s.updated a e).demand,
        some (s.updated a e).position, none⟩ ∈ (s.updateAxis a e).mail) := by
  obtain ⟨x, hx⟩ : ∃ x, x = (s.modAxis a fun _ => s.updated a e).when
      (s.axisPresent a && decide ((s.axis a).valid ≠ (s.updated a e).valid)) State.requestPass := ⟨_, rfl⟩
  have hcause : SeqActs a.tier (x.when (s.axisPresent a && (s.axis a).valid && !(s.updated a e).valid && (s.updated a e).contactor)
      fun s => s.emit (.causeReport (s.axisCause a .encoder))) (s.updateBefore a e) := by
    rw [hx]
    exact positionReport_acts ..
  have hrest : SeqActs a.tier (s.updateBefore a e) (s.updateAxis a e) := by
    rw [updateAxis_parts]
    exact (phaseReport_acts ..).emitAll _
  refine ⟨fun hp hv => hrest.pass (hcause.pass ?_), fun hp hv hlost hc => hrest.sent.subset (hcause.sent.subset ?_)⟩
  · have hasked : x.arb.passRequested = true := by
      rw [hx, hp, decide_eq_true hv.symm]
      exact requestPass_passRequested _
    unfold State.when
    split <;> exact hasked
  · have haxis : x.axis a = s.updated a e := by
      rw [hx]
      unfold State.when
      split
      · rw [requestPass_axis]
        exact (State.modAxis_axis ..).trans (if_pos rfl)
      · exact (State.modAxis_axis ..).trans (if_pos rfl)
    rw [hp, hv, hlost, hc, ← haxis]
    exact List.mem_append_right _ List.mem_cons_self

/-- A jack reports the position that an update gives (R114). -/
theorem updateAxis_jack (s : State) (a : Axis) (e : EncoderRead) (j : Jack) (h : a = jackAxis a.tier j) :
    Instr.jackPositionReport a.tier j (s.updated a e).position (s.updated a e).valid ∈ (s.updateAxis a e).mail := by
  refine (updateAxis_mail s a e).1 _ ?_
  have hrole := congrArg Axis.role h
  unfold State.updateBefore State.positionReport
  cases j with
  | A => rw [hrole]; exact List.mem_append_right _ List.mem_cons_self
  | B => rw [hrole]; exact List.mem_append_right _ List.mem_cons_self

end Sys2Proof.Machine

/-! SUPPORT. One update of an axis: what it leaves of the axis itself (R89, R90, R94 to R101, R106, R107, R115). -/

namespace Sys2Proof.Machine

open Sys2Proof

/-- An axis after the read of an update (R90). -/
def State.readAxis (s : State) (a : Axis) (e : EncoderRead) : AxisCtl := (s.axis a).readEncoder (s.axisRec a).zero e

/-- The advance of a phase changes phase, counts and profile alone. -/
theorem advance_keeps (s : State) (a : Axis) (z : AxisCtl) :
    (s.advance a z).1 = { z with
      phase := (s.advance a z).1.phase, phaseCount := (s.advance a z).1.phaseCount, served := (s.advance a z).1.served
      demand := (s.advance a z).1.demand, v := (s.advance a z).1.v, r := (s.advance a z).1.r, dir := (s.advance a z).1.dir
      target := (s.advance a z).1.target, cap := (s.advance a z).1.cap, stopDecel := (s.advance a z).1.stopDecel
      settleRun := (s.advance a z).1.settleRun, settleAge := (s.advance a z).1.settleAge } := by
  unfold State.advance
  dsimp only
  split
  · dsimp only; split <;> rfl
  · rfl
  · split <;> rfl
  · split
    · rfl
    · split
      · unfold AxisCtl.travelStep
        dsimp only
        split <;> rfl
      · rfl
  · split
    · rfl
    · split
      · unfold AxisCtl.stoppingStep
        dsimp only
        split <;> rfl
      · rfl
  · split
    · unfold AxisCtl.settleCount
      dsimp only
      split_ifs <;> rfl
    · rfl
  · rfl

theorem driveAxis_output (s : State) (a : Axis) (x : AxisCtl) :
    s.driveAxis a x = { x with speed := (s.driveAxis a x).speed, saturated := (s.driveAxis a x).saturated } := by
  unfold State.driveAxis
  dsimp only
  split <;> rfl

/-- An axis after an update has what the advance left, but for speed reference, marks, previous position and release
point. -/
theorem updated_output (s : State) (a : Axis) (e : EncoderRead) :
    s.updated a e = { (s.advanced a e).1 with
      speed := (s.driveAxis a (s.advanced a e).1).speed, saturated := (s.driveAxis a (s.advanced a e).1).saturated
      markFollowing := (s.checked a e).1.markFollowing, markOverspeed := (s.checked a e).1.markOverspeed
      markSoftLimit := (s.checked a e).1.markSoftLimit, previous := (s.updated a e).previous
      release := (s.updated a e).release } := by
  have hchecked : (s.checked a e).1 = { (s.advanced a e).1 with
      speed := (s.driveAxis a (s.advanced a e).1).speed, saturated := (s.driveAxis a (s.advanced a e).1).saturated
      markFollowing := (s.checked a e).1.markFollowing, markOverspeed := (s.checked a e).1.markOverspeed
      markSoftLimit := (s.checked a e).1.markSoftLimit } := by
    exact (checkAxis_output ..).trans (congrArg (fun x : AxisCtl => { x with
      markFollowing := (s.checked a e).1.markFollowing, markOverspeed := (s.checked a e).1.markOverspeed
      markSoftLimit := (s.checked a e).1.markSoftLimit }) (driveAxis_output s a (s.advanced a e).1))
  have hbefore : s.beforeRelease a e = { (s.checked a e).1 with previous := (s.beforeRelease a e).previous } := rfl
  have hupdated : s.updated a e =
      { s.beforeRelease a e with previous := (s.updated a e).previous, release := (s.updated a e).release } := by
    unfold State.updated
    split <;> rfl
  rw [hupdated, hbefore, hchecked]

/-- What an update leaves as the read gave it (R90). -/
theorem updated_read (s : State) (a : Axis) (e : EncoderRead) :
    (s.updated a e).count = (s.readAxis a e).count ∧ (s.updated a e).position = (s.readAxis a e).position ∧
      (s.updated a e).valid = (s.readAxis a e).valid ∧ (s.updated a e).missRun = (s.readAxis a e).missRun ∧
      (s.updated a e).encoderMiss = (s.readAxis a e).encoderMiss ∧ (s.updated a e).released = (s.readAxis a e).released ∧
      (s.updated a e).contactor = (s.readAxis a e).contactor ∧ (s.updated a e).limit = (s.readAxis a e).limit ∧
      (s.updated a e).ready = (s.readAxis a e).ready := by
  have hkeep : (s.advanced a e).1 = _ := advance_keeps s a (s.readAxis a e)
  rw [updated_output]
  dsimp only
  rw [hkeep]
  exact ⟨rfl, rfl, rfl, rfl, rfl, rfl, rfl, rfl, rfl⟩

/-- What an update leaves as the advance gave it (R89). -/
theorem updated_advanced (s : State) (a : Axis) (e : EncoderRead) :
    (s.updated a e).phase = (s.advanced a e).1.phase ∧ (s.updated a e).phaseCount = (s.advanced a e).1.phaseCount ∧
      (s.updated a e).served = (s.advanced a e).1.served ∧ (s.updated a e).demand = (s.advanced a e).1.demand ∧
      (s.updated a e).v = (s.advanced a e).1.v ∧ (s.updated a e).r = (s.advanced a e).1.r ∧
      (s.updated a e).dir = (s.advanced a e).1.dir ∧ (s.updated a e).target = (s.advanced a e).1.target ∧
      (s.updated a e).cap = (s.advanced a e).1.cap ∧ (s.updated a e).stopDecel = (s.advanced a e).1.stopDecel ∧
      (s.updated a e).settleRun = (s.advanced a e).1.settleRun ∧
      (s.updated a e).settleAge = (s.advanced a e).1.settleAge := by
  rw [updated_output]
  exact ⟨rfl, rfl, rfl, rfl, rfl, rfl, rfl, rfl, rfl, rfl, rfl, rfl⟩

/-- The read of an encoder leaves the rest of the axis. -/
theorem readAxis_keeps (s : State) (a : Axis) (e : EncoderRead) :
    s.readAxis a e = { s.axis a with
      count := (s.readAxis a e).count, position := (s.readAxis a e).position, valid := (s.readAxis a e).valid
      missRun := (s.readAxis a e).missRun, encoderMiss := (s.readAxis a e).encoderMiss } := by
  cases e <;> rfl

theorem updated_previous (s : State) (a : Axis) (e : EncoderRead) :
    (s.updated a e).previous = if isGoodRead e then some (s.updated a e).position else (s.axis a).previous := by
  have hpos : (s.updated a e).position = (s.checked a e).1.position := by
    unfold State.updated
    split <;> rfl
  have hchecked : (s.checked a e).1.previous = (s.axis a).previous := by
    have h1 : (s.checked a e).1 = _ := checkAxis_output ..
    have h2 : (s.advanced a e).1 = _ := advance_keeps s a (s.readAxis a e)
    rw [h1, driveAxis_output, h2, readAxis_keeps]
  rw [hpos, ← hchecked]
  unfold State.updated
  split <;> rfl

/-- The read of an update, as it stands behind it (R90). -/
theorem updated_good (s : State) (a : Axis) (c : Count) :
    (s.updated a (.good c)).count = some c ∧
      (s.updated a (.good c)).position = (c.toNat : Int) - (s.axisRec a).zero ∧
      (s.updated a (.good c)).valid = true ∧ (s.updated a (.good c)).missRun = 0 ∧
      (s.updated a (.good c)).encoderMiss = false ∧
      (s.updated a (.good c)).previous = some (s.updated a (.good c)).position := by
  obtain ⟨h1, h2, h3, h4, h5, -⟩ := updated_read s a (.good c)
  exact ⟨h1, h2, h3, h4, h5, updated_previous ..⟩

theorem updated_miss (s : State) (a : Axis) :
    (s.updated a .miss).count = (s.axis a).count ∧ (s.updated a .miss).position = (s.axis a).position ∧
      (s.updated a .miss).valid = ((s.axis a).valid && (s.axis a).missRun == 0) ∧
      (s.updated a .miss).missRun = (if (s.axis a).missRun = 0 then 1 else 2) ∧
      (s.updated a .miss).encoderMiss = true ∧ (s.updated a .miss).previous = (s.axis a).previous := by
  obtain ⟨h1, h2, h3, h4, h5, -⟩ := updated_read s a .miss
  exact ⟨h1, h2, h3, h4, h5, updated_previous ..⟩

theorem updated_inputs (s : State) (a : Axis) (e : EncoderRead) :
    (s.updated a e).released = (s.axis a).released ∧ (s.updated a e).contactor = (s.axis a).contactor ∧
      (s.updated a e).limit = (s.axis a).limit ∧ (s.updated a e).ready = (s.axis a).ready := by
  obtain ⟨-, -, -, -, -, h1, h2, h3, h4⟩ := updated_read s a e
  rw [h1, h2, h3, h4, readAxis_keeps]
  exact ⟨rfl, rfl, rfl, rfl⟩

/-! ### The speed reference -/

/-- What the advance left of an axis is what the update leaves, where the speed reference reads it. -/
theorem updated_driven (s : State) (a : Axis) (e : EncoderRead) :
    (s.updated a e).released = (s.advanced a e).1.released ∧ (s.updated a e).contactor = (s.advanced a e).1.contactor ∧
      (s.updated a e).valid = (s.advanced a e).1.valid ∧ (s.updated a e).position = (s.advanced a e).1.position ∧
      (s.updated a e).speed = (s.driveAxis a (s.advanced a e).1).speed ∧
      (s.updated a e).saturated = (s.driveAxis a (s.advanced a e).1).saturated := by
  rw [updated_output]
  exact ⟨rfl, rfl, rfl, rfl, rfl, rfl⟩

/-- The speed reference is 0 unless brake, contactor, validity and presence allow one (R101). -/
theorem updated_speed_zero (s : State) (a : Axis) (e : EncoderRead)
    (h : (s.updated a e).released = false ∨ (s.updated a e).contactor = false ∨ (s.updated a e).valid = false ∨
      s.axisPresent a = false) : (s.updated a e).speed = 0 ∧ (s.updated a e).saturated = false := by
  obtain ⟨h1, h2, h3, -, h5, h6⟩ := updated_driven s a e
  rw [h1, h2, h3] at h
  rw [h5, h6]
  unfold State.driveAxis
  rw [if_neg]
  · exact ⟨rfl, rfl⟩
  · simp only [Bool.and_eq_true]
    rintro ⟨⟨⟨g1, g2⟩, g3⟩, g4⟩
    simp [g1, g2, g3, g4] at h

/-- The skew correction that an update adds to its command (R101, R115). -/
def State.skewFor (s : State) (a : Axis) (position : Int) : Int :=
  match a.role, (s.tier a.tier).tilt with
  | .A, some g =>
    if (s.pair a.tier).latest.b.valid then -((position - (s.pair a.tier).latest.b.position) * g.ks).tdiv 16 else 0
  | .B, some g =>
    if (s.pair a.tier).latest.a.valid then (((s.pair a.tier).latest.a.position - position) * g.ks).tdiv 16 else 0
  | _, _ => 0

theorem skewAdded_eq {s : State} {a : Axis} {x : AxisCtl} (h : x.valid = true) : s.skewAdded a x = s.skewFor a x.position := by
  unfold State.skewAdded State.skewFor skewTerm
  cases (s.tier a.tier).tilt with
  | none => cases a.role <;> rfl
  | some g => cases a.role <;> simp [h]

theorem clampSpeed_eq (x : Int) : clampSpeed x = max (-8191) (min 8191 x) := by
  unfold clampSpeed clampInt Config.speedMax
  omega

/-- The speed reference of a driven axis (R101). -/
theorem updated_speed (s : State) (a : Axis) (e : EncoderRead) (hr : (s.updated a e).released = true)
    (hc : (s.updated a e).contactor = true) (hv : (s.updated a e).valid = true) (hp : s.axisPresent a = true) :
    (s.updated a e).speed = max (-8191) (min 8191
      ((signedV (s.updated a e).dir (s.updated a e).v * (s.axisRec a).kff).tdiv 256 +
        (((s.updated a e).demand - (s.updated a e).position) * (s.axisRec a).kp).tdiv 16 +
        s.skewFor a (s.updated a e).position)) := by
  obtain ⟨h1, h2, h3, h4, h5, -⟩ := updated_driven s a e
  obtain ⟨-, -, -, hdem, hvel, -, hdir, -⟩ := updated_advanced s a e
  rw [h1] at hr
  rw [h2] at hc
  rw [h3] at hv
  rw [h4, h5, hdem, hvel, hdir]
  unfold State.driveAxis
  rw [if_pos (by simp [hr, hc, hv, hp])]
  dsimp only
  rw [skewAdded_eq hv]
  exact clampSpeed_eq _

/-! ### The release point -/

theorem beforeRelease_keeps (s : State) (a : Axis) (e : EncoderRead) :
    (s.beforeRelease a e).release = (s.axis a).release ∧ (s.beforeRelease a e).valid = (s.updated a e).valid ∧
      (s.beforeRelease a e).position = (s.updated a e).position := by
  refine ⟨?_, ?_, ?_⟩
  · have h1 : (s.checked a e).1 = _ := checkAxis_output ..
    have h2 : (s.advanced a e).1 = _ := advance_keeps s a (s.readAxis a e)
    unfold State.beforeRelease
    dsimp only
    rw [h1, driveAxis_output, h2, readAxis_keeps]
  · unfold State.updated
    split <;> rfl
  · unfold State.updated
    split <;> rfl

/-- A release point passed is reported and forgotten (R100). -/
theorem updated_release (s : State) (a : Axis) (e : EncoderRead) {p : ReleasePoint} (hp : (s.axis a).release = some p) :
    if (s.updated a e).valid = true ∧ p.passed (s.updated a e).position = true then
      (s.updated a e).release = none ∧
        Instr.bandReleaseReport a.tier (s.updated a e).served (s.updated a e).position ∈ (s.updateAxis a e).mail
    else (s.updated a e).release = some p := by
  obtain ⟨hrel, hval, hpos⟩ := beforeRelease_keeps s a e
  have hpassed : (s.beforeRelease a e).releasePassed = true ↔
      (s.updated a e).valid = true ∧ p.passed (s.updated a e).position = true := by
    unfold AxisCtl.releasePassed
    rw [hrel, hp, hval, hpos, Bool.and_eq_true]
  split
  · next h =>
    have hb := hpassed.mpr h
    refine ⟨?_, (updateAxis_mail s a e).2.1 _ ?_⟩
    · unfold State.updated
      rw [if_pos hb]
    · unfold State.updateReports
      rw [if_pos hb]
      exact List.mem_append_left _ List.mem_cons_self
  · next h =>
    unfold State.updated
    rw [if_neg (mt hpassed.mp h), hrel, hp]

end Sys2Proof.Machine

/-! SUPPORT. The phase of an axis under an update, and O48 (R89, R93, R94, R98, R99, R106). -/

namespace Sys2Proof.Machine

open Sys2Proof

section
variable (s : State) (a : Axis) (e : EncoderRead)

/-! ### What the read leaves, and the advance by phase -/

@[simp] theorem readAxis_phase : (s.readAxis a e).phase = (s.axis a).phase := by rw [readAxis_keeps]
@[simp] theorem readAxis_phaseCount : (s.readAxis a e).phaseCount = (s.axis a).phaseCount := by rw [readAxis_keeps]
@[simp] theorem readAxis_served : (s.readAxis a e).served = (s.axis a).served := by rw [readAxis_keeps]
@[simp] theorem readAxis_demand : (s.readAxis a e).demand = (s.axis a).demand := by rw [readAxis_keeps]
@[simp] theorem readAxis_v : (s.readAxis a e).v = (s.axis a).v := by rw [readAxis_keeps]
@[simp] theorem readAxis_r : (s.readAxis a e).r = (s.axis a).r := by rw [readAxis_keeps]
@[simp] theorem readAxis_dir : (s.readAxis a e).dir = (s.axis a).dir := by rw [readAxis_keeps]
@[simp] theorem readAxis_target : (s.readAxis a e).target = (s.axis a).target := by rw [readAxis_keeps]
@[simp] theorem readAxis_cap : (s.readAxis a e).cap = (s.axis a).cap := by rw [readAxis_keeps]
@[simp] theorem readAxis_stopDecel : (s.readAxis a e).stopDecel = (s.axis a).stopDecel := by rw [readAxis_keeps]
@[simp] theorem readAxis_settleRun : (s.readAxis a e).settleRun = (s.axis a).settleRun := by rw [readAxis_keeps]
@[simp] theorem readAxis_settleAge : (s.readAxis a e).settleAge = (s.axis a).settleAge := by rw [readAxis_keeps]

end

section
variable {s : State} {a : Axis} {e : EncoderRead}

theorem advanced_idle (h : (s.axis a).phase = .idle) : s.advanced a e =
    (if (s.readAxis a e).valid then { s.readAxis a e with demand := (s.readAxis a e).position } else s.readAxis a e, .none) := by
  change s.advance a (s.readAxis a e) = _
  unfold State.advance
  simp only [readAxis_phase, h]

theorem advanced_lifting (h : (s.axis a).phase = .lifting) : s.advanced a e =
    ({ s.readAxis a e with phaseCount := (s.axis a).phaseCount + 1 },
      if a.role = .R ∧ (s.axis a).phaseCount + 1 = updatesOf (s.axisRec a).liftTime then .lift else .none) := by
  change s.advance a (s.readAxis a e) = _
  unfold State.advance
  simp only [readAxis_phase, h, readAxis_phaseCount]

theorem advanced_setting (h : (s.axis a).phase = .setting) : s.advanced a e =
    if updatesOf (s.axisRec a).setTime ≤ (s.axis a).phaseCount + 1 then
      ({ s.readAxis a e with phaseCount := (s.axis a).phaseCount + 1, phase := .idle, served := .none },
        if a.role = .R then .set else .none)
    else ({ s.readAxis a e with phaseCount := (s.axis a).phaseCount + 1 }, .none) := by
  change s.advance a (s.readAxis a e) = _
  unfold State.advance
  simp only [readAxis_phase, h, readAxis_phaseCount]

theorem advanced_still (h : (s.axis a).phase = .still) : s.advanced a e = (s.readAxis a e, .none) := by
  change s.advance a (s.readAxis a e) = _
  unfold State.advance
  simp only [readAxis_phase, h]

theorem advanced_settle (h : (s.axis a).phase = .settle) : s.advanced a e =
    if (s.readAxis a e).valid then (s.readAxis a e).settleCount (s.axisRec a) else (s.readAxis a e, .none) := by
  change s.advance a (s.readAxis a e) = _
  unfold State.advance
  simp only [readAxis_phase, h]

/-- No step is taken while the position is invalid (R98, R99). -/
theorem advanced_invalid (h : (s.axis a).phase = .travel ∨ (s.axis a).phase = .stopping)
    (hv : (s.readAxis a e).valid = false) : s.advanced a e = (s.readAxis a e, .none) := by
  change s.advance a (s.readAxis a e) = _
  unfold State.advance
  obtain h | h := h <;>
    simp only [readAxis_phase, h, hv, Bool.not_false, if_true]

theorem advanced_travel (h : (s.axis a).phase = .travel) (hv : (s.readAxis a e).valid = true) (hr : a.role = .R) :
    s.advanced a e = (s.readAxis a e).travelStep (s.axisRec a) := by
  change s.advance a (s.readAxis a e) = _
  unfold State.advance
  simp only [readAxis_phase, h, hv, hr, Bool.not_true, Bool.false_eq_true, if_true, if_false]

theorem advanced_stopping (h : (s.axis a).phase = .stopping) (hv : (s.readAxis a e).valid = true) (hr : a.role = .R) :
    s.advanced a e = (s.readAxis a e).stoppingStep := by
  change s.advance a (s.readAxis a e) = _
  unfold State.advance
  simp only [readAxis_phase, h, hv, hr, Bool.not_true, Bool.false_eq_true, if_true, if_false]

/-- A jack takes what its pair unit last handed it (R88, R89). -/
theorem advanced_follows (h : (s.axis a).phase = .travel ∨ (s.axis a).phase = .stopping)
    (hv : (s.readAxis a e).valid = true) (hr : a.role ≠ .R) :
    s.advanced a e = ((s.readAxis a e).follow (s.pair a.tier) (s.capOf a.tier), .none) := by
  change s.advance a (s.readAxis a e) = _
  unfold State.advance
  obtain h | h := h <;>
    simp only [readAxis_phase, h, hv, hr, Bool.not_true, Bool.false_eq_true, if_false]

/-! ### The axis behind an update, by phase -/

/-- Direction, target, cap and stop deceleration stay. -/
def SameProfile (x y : AxisCtl) : Prop :=
  y.dir = x.dir ∧ y.target = x.target ∧ y.cap = x.cap ∧ y.stopDecel = x.stopDecel

/-- An update that advances an axis to `y`, its profile and what it serves as they were. -/
theorem sameProfile_of_advanced {y : AxisCtl} {r : PhaseReport} (h : s.advanced a e = (y, r))
    (hy : SameProfile (s.readAxis a e) y) : SameProfile (s.axis a) (s.updated a e) := by
  obtain ⟨-, -, -, -, -, -, h1, h2, h3, h4, -⟩ := updated_advanced s a e
  obtain ⟨g1, g2, g3, g4⟩ := hy
  unfold SameProfile
  rw [h1, h2, h3, h4, h]
  exact ⟨g1.trans (readAxis_dir ..), g2.trans (readAxis_target ..), g3.trans (readAxis_cap ..),
    g4.trans (readAxis_stopDecel ..)⟩

theorem updated_valid : (s.updated a e).valid = (s.readAxis a e).valid := (updated_read s a e).2.2.1

theorem updated_position : (s.updated a e).position = (s.readAxis a e).position := (updated_read s a e).2.1

/-- IDLE follows a valid position (R89). -/
theorem updated_idle (h : (s.axis a).phase = .idle) :
    (s.updated a e).phase = .idle ∧ ((s.updated a e).valid = true → (s.updated a e).demand = (s.updated a e).position) ∧
      ((s.updated a e).valid = false → (s.updated a e).demand = (s.axis a).demand) ∧ (s.updated a e).v = (s.axis a).v ∧
      (s.updated a e).r = (s.axis a).r ∧ (s.updated a e).served = (s.axis a).served ∧
      SameProfile (s.axis a) (s.updated a e) ∧ (s.advanced a e).2 = .none := by
  have hadv := advanced_idle (e := e) h
  obtain ⟨h1, -, h3, h4, h5, h6, -⟩ := updated_advanced s a e
  rw [h1, h3, h4, h5, h6, updated_valid, updated_position, hadv]
  cases hv : (s.readAxis a e).valid with
  | true =>
    rw [hv] at hadv
    exact ⟨(readAxis_phase ..).trans h, fun _ => rfl, (fun hf => by cases hf), readAxis_v .., readAxis_r .., readAxis_served ..,
      sameProfile_of_advanced hadv ⟨rfl, rfl, rfl, rfl⟩, rfl⟩
  | false =>
    rw [hv] at hadv
    exact ⟨(readAxis_phase ..).trans h, (fun ht => by cases ht), fun _ => readAxis_demand .., readAxis_v .., readAxis_r ..,
      readAxis_served .., sameProfile_of_advanced hadv ⟨rfl, rfl, rfl, rfl⟩, rfl⟩

/-- LIFTING counts (R93). -/
theorem updated_lifting (h : (s.axis a).phase = .lifting) :
    (s.updated a e).phase = .lifting ∧ (s.updated a e).phaseCount = (s.axis a).phaseCount + 1 ∧
      (s.updated a e).demand = (s.axis a).demand ∧ (s.updated a e).v = (s.axis a).v ∧ (s.updated a e).r = (s.axis a).r ∧
      (s.updated a e).served = (s.axis a).served ∧ SameProfile (s.axis a) (s.updated a e) ∧
      (s.advanced a e).2 =
        if a.role = .R ∧ (s.axis a).phaseCount + 1 = updatesOf (s.axisRec a).liftTime then .lift else .none := by
  have hadv := advanced_lifting (e := e) h
  obtain ⟨h1, h2, h3, h4, h5, h6, -⟩ := updated_advanced s a e
  rw [h1, h2, h3, h4, h5, h6, hadv]
  exact ⟨(readAxis_phase ..).trans h, rfl, readAxis_demand .., readAxis_v .., readAxis_r .., readAxis_served ..,
    sameProfile_of_advanced hadv ⟨rfl, rfl, rfl, rfl⟩, rfl⟩

/-- SETTING counts up to the set time (R94). -/
theorem updated_setting (h : (s.axis a).phase = .setting) :
    (s.updated a e).phaseCount = (s.axis a).phaseCount + 1 ∧
      (if updatesOf (s.axisRec a).setTime ≤ (s.axis a).phaseCount + 1 then
        (s.updated a e).phase = .idle ∧ (s.updated a e).served = .none ∧
          (s.advanced a e).2 = (if a.role = .R then .set else .none)
      else (s.updated a e).phase = .setting ∧ (s.advanced a e).2 = .none) ∧
      (s.updated a e).demand = (s.axis a).demand ∧ (s.updated a e).v = (s.axis a).v ∧ (s.updated a e).r = (s.axis a).r ∧
      SameProfile (s.axis a) (s.updated a e) := by
  have hadv := advanced_setting (e := e) h
  obtain ⟨h1, h2, h3, h4, h5, h6, -⟩ := updated_advanced s a e
  rw [h1, h2, h3, h4, h5, h6, hadv]
  by_cases hc : updatesOf (s.axisRec a).setTime ≤ (s.axis a).phaseCount + 1
  · rw [if_pos hc] at hadv ⊢
    rw [if_pos hc]
    exact ⟨rfl, ⟨rfl, rfl, rfl⟩, readAxis_demand .., readAxis_v .., readAxis_r ..,
      sameProfile_of_advanced hadv ⟨rfl, rfl, rfl, rfl⟩⟩
  · rw [if_neg hc] at hadv ⊢
    rw [if_neg hc]
    exact ⟨rfl, ⟨(readAxis_phase ..).trans h, rfl⟩, readAxis_demand .., readAxis_v .., readAxis_r ..,
      sameProfile_of_advanced hadv ⟨rfl, rfl, rfl, rfl⟩⟩

/-- An update that leaves phase and profile alone: STILL, and without a valid position TRAVEL, STOPPING and SETTLE. -/
theorem updated_resting (h : s.advanced a e = (s.readAxis a e, .none)) :
    (s.updated a e).phase = (s.axis a).phase ∧ (s.updated a e).demand = (s.axis a).demand ∧
      (s.updated a e).v = (s.axis a).v ∧ (s.updated a e).r = (s.axis a).r ∧ (s.updated a e).served = (s.axis a).served ∧
      (s.updated a e).settleAge = (s.axis a).settleAge ∧ SameProfile (s.axis a) (s.updated a e) := by
  obtain ⟨h1, -, h3, h4, h5, h6, -, -, -, -, -, h12⟩ := updated_advanced s a e
  rw [h1, h3, h4, h5, h6, h12, h]
  exact ⟨readAxis_phase .., readAxis_demand .., readAxis_v .., readAxis_r .., readAxis_served .., readAxis_settleAge ..,
    sameProfile_of_advanced h ⟨rfl, rfl, rfl, rfl⟩⟩

/-- SETTLE counts the updates within the window (R106, R107). -/
theorem updated_settle (h : (s.axis a).phase = .settle) (hv : (s.updated a e).valid = true) :
    (s.updated a e).settleAge = (s.axis a).settleAge + 1 ∧
      (s.updated a e).settleRun =
        (if ((s.updated a e).position - (s.axis a).target.getD (s.axis a).demand).natAbs ≤ (s.axisRec a).window then
          (s.axis a).settleRun + 1 else 0) ∧
      (if (s.axisRec a).settleCount ≤ (s.updated a e).settleRun then
        (s.updated a e).phase = .still ∧ (s.advanced a e).2 = .settleEnd
      else if (s.axisRec a).settleTimeout ≤ (s.updated a e).settleAge then
        (s.updated a e).phase = .still ∧ (s.advanced a e).2 = .settleTimeout
      else (s.updated a e).phase = .settle ∧ (s.advanced a e).2 = .none) ∧
      (s.updated a e).demand = (s.axis a).demand ∧ (s.updated a e).v = (s.axis a).v ∧ (s.updated a e).r = (s.axis a).r ∧
      (s.updated a e).served = (s.axis a).served ∧ SameProfile (s.axis a) (s.updated a e) := by
  have hadv := advanced_settle (e := e) h
  rw [updated_valid] at hv
  rw [if_pos hv] at hadv
  obtain ⟨h1, -, h3, h4, h5, h6, -, -, -, -, h11, h12⟩ := updated_advanced s a e
  rw [h1, h3, h4, h5, h6, h11, h12, updated_position, hadv]
  unfold AxisCtl.settleCount at hadv ⊢
  dsimp only at hadv ⊢
  rw [readAxis_settleRun, readAxis_settleAge, readAxis_target, readAxis_demand] at hadv ⊢
  simp only [decide_eq_true_eq] at hadv ⊢
  generalize (if ((s.readAxis a e).position - (s.axis a).target.getD (s.axis a).demand).natAbs ≤ (s.axisRec a).window
    then (s.axis a).settleRun + 1 else 0) = run at hadv ⊢
  by_cases hrun : (s.axisRec a).settleCount ≤ run
  · rw [if_pos hrun] at hadv ⊢
    exact ⟨rfl, rfl, by rw [if_pos hrun]; exact ⟨rfl, rfl⟩, rfl, readAxis_v .., readAxis_r .., readAxis_served ..,
      sameProfile_of_advanced hadv ⟨rfl, (readAxis_target ..).symm, rfl, rfl⟩⟩
  · rw [if_neg hrun] at hadv ⊢
    by_cases hage : (s.axisRec a).settleTimeout ≤ (s.axis a).settleAge + 1
    · rw [if_pos hage] at hadv ⊢
      exact ⟨rfl, rfl, by rw [if_neg hrun, if_pos hage]; exact ⟨rfl, rfl⟩, rfl, readAxis_v .., readAxis_r .., readAxis_served ..,
        sameProfile_of_advanced hadv ⟨rfl, (readAxis_target ..).symm, rfl, rfl⟩⟩
    · rw [if_neg hage] at hadv ⊢
      exact ⟨rfl, rfl, by rw [if_neg hrun, if_neg hage]; exact ⟨(readAxis_phase ..).trans h, rfl⟩, rfl, readAxis_v ..,
        readAxis_r .., readAxis_served .., sameProfile_of_advanced hadv ⟨rfl, (readAxis_target ..).symm, rfl, rfl⟩⟩

/-- A rotation axis takes a profile step in TRAVEL (R98). -/
theorem updated_travel (h : (s.axis a).phase = .travel) (hr : a.role = .R) (hv : (s.updated a e).valid = true) :
    (⟨(s.updated a e).demand, (s.updated a e).v, (s.updated a e).r⟩ : Motion) =
        profileStep (s.axisRec a).a ((s.axis a).cap.getD 1) (s.axis a).dir ⟨(s.axis a).demand, (s.axis a).v, (s.axis a).r⟩ ∧
      (s.updated a e).phase =
        (if (s.updated a e).r ≠ 0 then .travel else if (s.axis a).served = .jog then .still else .settle) ∧
      (s.updated a e).served = (s.axis a).served ∧ SameProfile (s.axis a) (s.updated a e) ∧
      (s.advanced a e).2 = if (s.updated a e).r = 0 then .arrival else .none := by
  rw [updated_valid] at hv
  have hadv := advanced_travel h hv hr
  obtain ⟨h1, -, h3, h4, h5, h6, -⟩ := updated_advanced s a e
  rw [h1, h3, h4, h5, h6, hadv]
  unfold AxisCtl.travelStep at hadv ⊢
  dsimp only at hadv ⊢
  rw [readAxis_cap, readAxis_dir, readAxis_demand, readAxis_v, readAxis_r] at hadv ⊢
  have hstop : (profileStep (s.axisRec a).a ((s.axis a).cap.getD 1) (s.axis a).dir
      ⟨(s.axis a).demand, (s.axis a).v, (s.axis a).r⟩).r = 0 →
      (profileStep (s.axisRec a).a ((s.axis a).cap.getD 1) (s.axis a).dir
        ⟨(s.axis a).demand, (s.axis a).v, (s.axis a).r⟩).v = 0 := fun h0 => if_pos h0
  generalize profileStep (s.axisRec a).a ((s.axis a).cap.getD 1) (s.axis a).dir
    ⟨(s.axis a).demand, (s.axis a).v, (s.axis a).r⟩ = m at hadv hstop ⊢
  obtain ⟨demand, v, r⟩ := m
  by_cases hm : r = 0
  · rw [if_pos hm] at hadv ⊢
    refine ⟨?_, ?_, readAxis_served .., sameProfile_of_advanced hadv ⟨(readAxis_dir ..).symm, rfl, (readAxis_cap ..).symm, rfl⟩, rfl⟩
    · have hv0 : v = 0 := hstop hm
      simp [AxisCtl.arrive, hm, hv0]
    · simp [AxisCtl.arrive]
  · rw [if_neg hm] at hadv ⊢
    refine ⟨rfl, ?_, readAxis_served .., sameProfile_of_advanced hadv ⟨(readAxis_dir ..).symm, rfl, (readAxis_cap ..).symm, rfl⟩, ?_⟩
    · rw [if_pos hm]
      exact (readAxis_phase ..).trans h
    · rw [if_neg hm]

/-- A rotation axis takes a stop step in STOPPING (R99). -/
theorem updated_stopping (h : (s.axis a).phase = .stopping) (hr : a.role = .R) (hv : (s.updated a e).valid = true) :
    (⟨(s.updated a e).demand, (s.updated a e).v, (s.updated a e).r⟩ : Motion) =
        stopStep ((s.axis a).stopDecel.getD 1) (s.axis a).dir ⟨(s.axis a).demand, (s.axis a).v, (s.axis a).r⟩ ∧
      (s.updated a e).phase = (if (s.updated a e).v = 0 then .still else .stopping) ∧
      (s.updated a e).served = (s.axis a).served ∧ SameProfile (s.axis a) (s.updated a e) ∧
      (s.advanced a e).2 = if (s.updated a e).v = 0 then .rest else .none := by
  rw [updated_valid] at hv
  have hadv := advanced_stopping h hv hr
  obtain ⟨h1, -, h3, h4, h5, h6, -⟩ := updated_advanced s a e
  rw [h1, h3, h4, h5, h6, hadv]
  unfold AxisCtl.stoppingStep at hadv ⊢
  dsimp only at hadv ⊢
  rw [readAxis_stopDecel, readAxis_dir, readAxis_demand, readAxis_v, readAxis_r] at hadv ⊢
  generalize stopStep ((s.axis a).stopDecel.getD 1) (s.axis a).dir
    ⟨(s.axis a).demand, (s.axis a).v, (s.axis a).r⟩ = m at hadv ⊢
  obtain ⟨demand, v, r⟩ := m
  by_cases hm : v = 0
  · rw [if_pos hm] at hadv ⊢
    exact ⟨rfl, by rw [if_pos hm], readAxis_served .., sameProfile_of_advanced hadv ⟨(readAxis_dir ..).symm, rfl, rfl, (readAxis_stopDecel ..).symm⟩,
      by rw [if_pos hm]⟩
  · rw [if_neg hm] at hadv ⊢
    exact ⟨rfl, by rw [if_neg hm]; exact (readAxis_phase ..).trans h, readAxis_served ..,
      sameProfile_of_advanced hadv ⟨(readAxis_dir ..).symm, rfl, rfl, (readAxis_stopDecel ..).symm⟩, by rw [if_neg hm]⟩

/-- A jack follows its pair unit in TRAVEL and STOPPING (R88, R89, R119). -/
theorem updated_follows (h : (s.axis a).phase = .travel ∨ (s.axis a).phase = .stopping) (hr : a.role ≠ .R)
    (hv : (s.updated a e).valid = true) :
    (s.updated a e).phase = (s.axis a).phase ∧ (s.updated a e).v = (s.pair a.tier).v ∧
      (s.updated a e).dir = (s.pair a.tier).dir ∧ (s.updated a e).r = (s.pair a.tier).r ∧
      (s.updated a e).target = (s.pair a.tier).target ∧ (s.updated a e).stopDecel = (s.pair a.tier).stopDecel ∧
      (s.updated a e).cap = some (s.capOf a.tier) ∧
      (∀ d, (s.pair a.tier).demand = some d → (s.updated a e).demand = d) ∧
      (s.updated a e).served = (s.axis a).served ∧ (s.advanced a e).2 = .none := by
  rw [updated_valid] at hv
  have hadv := advanced_follows h hv hr
  obtain ⟨h1, -, h3, h4, h5, h6, h7, h8, h9, h10, -⟩ := updated_advanced s a e
  rw [h1, h3, h4, h5, h6, h7, h8, h9, h10, hadv]
  exact ⟨readAxis_phase .., rfl, rfl, rfl, rfl, rfl, rfl, fun d hd => by simp [AxisCtl.follow, hd], readAxis_served .., rfl⟩

end

end Sys2Proof.Machine

/-! SUPPORT. The clauses of an update, and O48 and O49. -/

namespace Sys2Proof.Machine

open Sys2Proof

section
variable {s : State} {a : Axis} {e : EncoderRead}

theorem advanced_settle_invalid (h : (s.axis a).phase = .settle) (hv : (s.updated a e).valid = false) :
    s.advanced a e = (s.readAxis a e, .none) := by
  rw [updated_valid] at hv
  rw [advanced_settle h, hv]
  rfl

/-- Outside TRAVEL and STOPPING an update reports neither arrival nor rest, and keeps velocity, remaining distance and profile. -/
theorem updated_elsewhere (h1 : (s.axis a).phase ≠ .travel) (h2 : (s.axis a).phase ≠ .stopping) :
    ((s.advanced a e).2 ≠ .arrival ∧ (s.advanced a e).2 ≠ .rest) ∧
    ((s.updated a e).v = (s.axis a).v ∧ (s.updated a e).r = (s.axis a).r ∧
      ((s.axis a).phase ≠ .idle ∨ (s.updated a e).valid = false → (s.updated a e).demand = (s.axis a).demand)) ∧
    SameProfile (s.axis a) (s.updated a e) := by
  cases hp : (s.axis a).phase with
  | travel => exact absurd hp h1
  | stopping => exact absurd hp h2
  | idle =>
    obtain ⟨-, -, g3, g4, g5, -, g7, g8⟩ := updated_idle (e := e) hp
    exact ⟨by simp [g8], ⟨g4, g5, fun h => g3 (h.resolve_left fun hn => hn rfl)⟩, g7⟩
  | lifting =>
    obtain ⟨-, -, g3, g4, g5, -, g7, g8⟩ := updated_lifting (e := e) hp
    refine ⟨?_, ⟨g4, g5, fun _ => g3⟩, g7⟩
    rw [g8]
    split <;> simp
  | setting =>
    obtain ⟨-, g2, g3, g4, g5, g6⟩ := updated_setting (e := e) hp
    refine ⟨?_, ⟨g4, g5, fun _ => g3⟩, g6⟩
    split at g2
    · rw [g2.2.2]
      split <;> simp
    · simp [g2.2]
  | still =>
    obtain ⟨-, g2, g3, g4, -, -, g7⟩ := updated_resting (advanced_still (e := e) hp)
    exact ⟨by simp [advanced_still hp], ⟨g3, g4, fun _ => g2⟩, g7⟩
  | settle =>
    cases hv : (s.updated a e).valid with
    | true =>
      obtain ⟨-, -, g3, g4, g5, g6, -, g8⟩ := updated_settle hp hv
      refine ⟨?_, ⟨g5, g6, fun _ => g4⟩, g8⟩
      split at g3
      · simp [g3.2]
      · split at g3 <;> simp [g3.2]
    | false =>
      have hadv := advanced_settle_invalid hp hv
      obtain ⟨-, g2, g3, g4, -, -, g7⟩ := updated_resting hadv
      exact ⟨by simp [hadv], ⟨g3, g4, fun _ => g2⟩, g7⟩

/-- An update reports an arrival when tR has come to its target in TRAVEL (R98). -/
theorem advanced_arrival_iff : (s.advanced a e).2 = .arrival ↔
    a.role = .R ∧ (s.axis a).phase = .travel ∧ (s.updated a e).valid = true ∧ (s.updated a e).r = 0 := by
  by_cases ht : (s.axis a).phase = .travel
  · cases hv : (s.updated a e).valid with
    | false => simp [advanced_invalid (.inl ht) (updated_valid.symm.trans hv)]
    | true =>
      by_cases hr : a.role = .R
      · rw [(updated_travel ht hr hv).2.2.2.2]
        split <;> simp_all
      · simp [(updated_follows (.inl ht) hr hv).2.2.2.2.2.2.2.2.2, hr]
  · by_cases hst : (s.axis a).phase = .stopping
    · cases hv : (s.updated a e).valid with
      | false => simp [advanced_invalid (.inr hst) (updated_valid.symm.trans hv)]
      | true =>
        by_cases hr : a.role = .R
        · rw [(updated_stopping hst hr hv).2.2.2.2]
          split <;> simp [ht]
        · simp [(updated_follows (.inr hst) hr hv).2.2.2.2.2.2.2.2.2, hr]
    · simp [(updated_elsewhere ht hst).1.1, ht]

/-- An update reports rest when tR has come to velocity 0 in STOPPING (R99). -/
theorem advanced_rest_iff : (s.advanced a e).2 = .rest ↔
    a.role = .R ∧ (s.axis a).phase = .stopping ∧ (s.updated a e).valid = true ∧ (s.updated a e).v = 0 := by
  by_cases hst : (s.axis a).phase = .stopping
  · cases hv : (s.updated a e).valid with
    | false => simp [advanced_invalid (.inr hst) (updated_valid.symm.trans hv)]
    | true =>
      by_cases hr : a.role = .R
      · rw [(updated_stopping hst hr hv).2.2.2.2]
        split <;> simp_all
      · simp [(updated_follows (.inr hst) hr hv).2.2.2.2.2.2.2.2.2, hr]
  · by_cases ht : (s.axis a).phase = .travel
    · cases hv : (s.updated a e).valid with
      | false => simp [advanced_invalid (.inl ht) (updated_valid.symm.trans hv)]
      | true =>
        by_cases hr : a.role = .R
        · rw [(updated_travel ht hr hv).2.2.2.2]
          split <;> simp [hst]
        · simp [(updated_follows (.inl ht) hr hv).2.2.2.2.2.2.2.2.2, hr]
    · simp [(updated_elsewhere ht hst).1.2, hst]

/-- What an update leaves of its tier's sequencer. -/
theorem updateAxis_sequencer :
    if a.role = .R ∧ (s.axis a).phase = .travel ∧ (s.updated a e).valid = true ∧ (s.updated a e).r = 0 then
      ArrivalTaken s (s.updateAxis a e) a.tier
    else if a.role = .R ∧ (s.axis a).phase = .stopping ∧ (s.updated a e).valid = true ∧ (s.updated a e).v = 0 then
      RestTaken s (s.updateAxis a e) a.tier
    else (s.updateAxis a e).seqs = s.seqs ∧ (s.updateAxis a e).man = s.man := by
  obtain ⟨h1, h2, h3⟩ := updateAxis_seq s a e
  rw [advanced_arrival_iff] at h1
  rw [advanced_rest_iff] at h2
  split
  · next h => exact h1 h
  · next h =>
    split
    · next g => exact h2 g
    · next g => exact h3 (mt advanced_arrival_iff.mp h) (mt advanced_rest_iff.mp g)

/-- A jack's profile is its pair's in TRAVEL and STOPPING; any other axis keeps its own (R88, R89). -/
theorem updated_profile :
    if a.role ≠ .R ∧ ((s.axis a).phase = .travel ∨ (s.axis a).phase = .stopping) ∧ (s.updated a e).valid = true then
      (s.updated a e).phase = (s.axis a).phase ∧ (s.updated a e).v = (s.pair a.tier).v ∧
      (s.updated a e).dir = (s.pair a.tier).dir ∧ (s.updated a e).r = (s.pair a.tier).r ∧
      (s.updated a e).target = (s.pair a.tier).target ∧ (s.updated a e).stopDecel = (s.pair a.tier).stopDecel ∧
      (s.updated a e).cap = some (s.capOf a.tier) ∧
      (∀ d, (s.pair a.tier).demand = some d → (s.updated a e).demand = d)
    else SameProfile (s.axis a) (s.updated a e) := by
  split
  · next h =>
    obtain ⟨h1, h2, h3, h4, h5, h6, h7, h8, -⟩ := updated_follows h.2.1 h.1 h.2.2
    exact ⟨h1, h2, h3, h4, h5, h6, h7, h8⟩
  · next h =>
    by_cases hp : (s.axis a).phase = .travel ∨ (s.axis a).phase = .stopping
    · cases hv : (s.updated a e).valid with
      | false => exact (updated_resting (advanced_invalid hp (updated_valid.symm.trans hv))).2.2.2.2.2.2
      | true =>
        have hr : a.role = .R := by
          by_contra hr
          exact h ⟨hr, hp, hv⟩
        obtain hp | hp := hp
        · exact (updated_travel hp hr hv).2.2.2.1
        · exact (updated_stopping hp hr hv).2.2.2.1
    · exact (updated_elsewhere (fun h => hp (.inl h)) fun h => hp (.inr h)).2.2

/-- An axis serves what it served, but for the end of SETTING. -/
theorem updated_served (h : (s.axis a).phase ≠ .setting) : (s.updated a e).served = (s.axis a).served := by
  have moving (hp : (s.axis a).phase = .travel ∨ (s.axis a).phase = .stopping) :
      (s.updated a e).served = (s.axis a).served := by
    cases hv : (s.updated a e).valid with
    | false => exact (updated_resting (advanced_invalid hp (updated_valid.symm.trans hv))).2.2.2.2.1
    | true =>
      by_cases hr : a.role = .R
      · obtain hp | hp := hp
        · exact (updated_travel hp hr hv).2.2.1
        · exact (updated_stopping hp hr hv).2.2.1
      · exact (updated_follows hp hr hv).2.2.2.2.2.2.2.2.1
  cases hp : (s.axis a).phase with
  | setting => exact absurd hp h
  | travel => exact moving (.inl hp)
  | stopping => exact moving (.inr hp)
  | idle => exact (updated_idle hp).2.2.2.2.2.1
  | lifting => exact (updated_lifting hp).2.2.2.2.2.1
  | still => exact (updated_resting (advanced_still hp)).2.2.2.2.1
  | settle =>
    cases hv : (s.updated a e).valid with
    | true => exact (updated_settle hp hv).2.2.2.2.2.2.1
    | false => exact (updated_resting (advanced_settle_invalid hp hv)).2.2.2.2.1

/-- The phase of an axis behind an update, with the reports of the phase. -/
def PhaseUpdated (s : State) (a : Axis) (x : AxisCtl) (mail : List Instr) : Prop :=
  match (s.axis a).phase with
  | .idle => x.phase = .idle ∧ (x.valid = true → x.demand = x.position)
  | .lifting =>
    x.phase = .lifting ∧ x.phaseCount = (s.axis a).phaseCount + 1 ∧
    (a.role = .R → x.phaseCount = updatesOf (s.axisRec a).liftTime → Instr.liftComplete a.tier ∈ mail)
  | .setting =>
    x.phaseCount = (s.axis a).phaseCount + 1 ∧
    (if updatesOf (s.axisRec a).setTime ≤ x.phaseCount then
       x.phase = .idle ∧ x.served = .none ∧ (a.role = .R → Instr.setComplete a.tier ∈ mail)
     else x.phase = .setting)
  | .travel =>
    (a.role = .R → x.valid = true →
      (⟨x.demand, x.v, x.r⟩ : Motion) =
        profileStep (s.axisRec a).a ((s.axis a).cap.getD 1) (s.axis a).dir
          ⟨(s.axis a).demand, (s.axis a).v, (s.axis a).r⟩ ∧
      x.phase = if x.r ≠ 0 then .travel else if (s.axis a).served = .jog then .still else .settle) ∧
    (x.valid = false →
      x.phase = .travel ∧ x.demand = (s.axis a).demand ∧ x.v = (s.axis a).v ∧ x.r = (s.axis a).r)
  | .stopping =>
    (a.role = .R → x.valid = true →
      (⟨x.demand, x.v, x.r⟩ : Motion) =
        stopStep ((s.axis a).stopDecel.getD 1) (s.axis a).dir ⟨(s.axis a).demand, (s.axis a).v, (s.axis a).r⟩ ∧
      x.phase = if x.v = 0 then .still else .stopping) ∧
    (x.valid = false →
      x.phase = .stopping ∧ x.demand = (s.axis a).demand ∧ x.v = (s.axis a).v ∧ x.r = (s.axis a).r)
  | .settle =>
    if x.valid then
      x.settleAge = (s.axis a).settleAge + 1 ∧
      x.settleRun =
        (if (x.position - (s.axis a).target.getD (s.axis a).demand).natAbs ≤ (s.axisRec a).window then
           (s.axis a).settleRun + 1
         else 0) ∧
      (if (s.axisRec a).settleCount ≤ x.settleRun then x.phase = .still ∧ Instr.settleEnd a ∈ mail
       else if (s.axisRec a).settleTimeout ≤ x.settleAge then x.phase = .still ∧ Instr.settleTimeout a ∈ mail
       else x.phase = .settle)
    else x.phase = .settle ∧ x.settleAge = (s.axis a).settleAge
  | .still => x.phase = .still

theorem updated_phase : PhaseUpdated s a (s.updated a e) (s.updateAxis a e).mail := by
  obtain ⟨-, -, hlift, hset, hend, hout⟩ := updateAxis_mail s a e
  unfold PhaseUpdated
  cases hp : (s.axis a).phase with
  | idle =>
    obtain ⟨h1, h2, -⟩ := updated_idle (e := e) hp
    exact ⟨h1, h2⟩
  | lifting =>
    obtain ⟨h1, h2, -, -, -, -, -, h8⟩ := updated_lifting (e := e) hp
    exact ⟨h1, h2, fun hr hn => hlift (h8.trans (if_pos ⟨hr, h2 ▸ hn⟩))⟩
  | setting =>
    obtain ⟨h1, h2, -⟩ := updated_setting (e := e) hp
    refine ⟨h1, ?_⟩
    rw [h1]
    split
    · next hc =>
      rw [if_pos hc] at h2
      exact ⟨h2.1, h2.2.1, fun hr => hset (h2.2.2.trans (if_pos hr))⟩
    · next hc =>
      rw [if_neg hc] at h2
      exact h2.1
  | travel =>
    refine ⟨fun hr hv => ?_, fun hv => ?_⟩
    · obtain ⟨h1, h2, -⟩ := updated_travel hp hr hv
      exact ⟨h1, h2⟩
    · obtain ⟨h1, h2, h3, h4, -⟩ := updated_resting (advanced_invalid (.inl hp) (updated_valid.symm.trans hv))
      exact ⟨h1.trans hp, h2, h3, h4⟩
  | stopping =>
    refine ⟨fun hr hv => ?_, fun hv => ?_⟩
    · obtain ⟨h1, h2, -⟩ := updated_stopping hp hr hv
      exact ⟨h1, h2⟩
    · obtain ⟨h1, h2, h3, h4, -⟩ := updated_resting (advanced_invalid (.inr hp) (updated_valid.symm.trans hv))
      exact ⟨h1.trans hp, h2, h3, h4⟩
  | settle =>
    show if _ then _ else _
    split
    · next hv =>
      obtain ⟨h1, h2, h3, -⟩ := updated_settle hp hv
      refine ⟨h1, h2, ?_⟩
      split at h3
      · next hr => exact (if_pos hr).mpr ⟨h3.1, hend h3.2⟩
      · next hr =>
        rw [if_neg hr]
        split at h3
        · next ha => exact (if_pos ha).mpr ⟨h3.1, hout h3.2⟩
        · next ha => exact (if_neg ha).mpr h3.1
    · next hv =>
      obtain ⟨h1, -, -, -, -, h6, -⟩ := updated_resting (advanced_settle_invalid hp (Bool.eq_false_iff.mpr hv))
      exact ⟨h1.trans hp, h6⟩
  | still => exact (updated_resting (advanced_still hp)).1.trans hp

end

/-- Settles O48: the parts of an update by `updateAxis_parts`, the axis by `updated_output` and the phase by
`updated_phase`. -/
theorem axisUpdatesReadAdvanceAndDrive : Obligations.AxisUpdatesReadAdvanceAndDrive := by
  unfold Obligations.AxisUpdatesReadAdvanceAndDrive
  intro a e s hs
  have he := exec_live (f := fun s => s.updateAxis a e) (.axisUpdate a e) (execAxisUpdate.eq_1 ..) hs
  obtain ⟨s', hs'⟩ : ∃ s', s' = s.taken (.axisUpdate a e) := ⟨_, rfl⟩
  rw [← hs'] at he
  obtain ⟨haxis, htouch⟩ := updateAxis_axis s' a e
  have hself : (s'.updateAxis a e).axis a = s'.updated a e := (haxis a).trans (if_pos rfl)
  obtain ⟨hpass, hcause⟩ := updateAxis_validity s' a e
  obtain ⟨hrel, hcon, hlim, hrdy⟩ := updated_inputs s' a e
  refine ⟨_, he, ?_, ?_, ?_, ?_, ?_⟩
  · intro x hx
    rw [haxis, if_neg hx, hs']
    rfl
  · rw [hs'] at htouch ⊢
    exact htouch
  · rw [hself]
    have := updateAxis_sequencer (s := s') (a := a) (e := e)
    rw [hs'] at this ⊢
    exact this
  · rw [hself]
    cases e with
    | good c => rw [hs']; exact updated_good ..
    | miss => rw [hs']; exact updated_miss ..
  · rw [hself]
    rw [hs'] at *
    refine ⟨hrel, hcon, hlim, hrdy, updated_speed_zero _ a e, ?_, hpass, fun h1 h2 h3 h4 => hcause h1 h2 h3 (hcon.trans h4),
      fun j hj => updateAxis_jack _ a e j hj, fun p hp => updated_release _ a e hp, updated_profile,
      fun h1 h2 => (updated_elsewhere (s := s.taken _) h1 h2).2.1, fun h => updated_served (s := s.taken _) h,
      updated_phase (s := s.taken (.axisUpdate a e)) (a := a) (e := e)⟩
    rintro h1 h2 h3 h4 k rfl
    exact updated_speed (s.taken _) a e h1 h2 h3 h4

end Sys2Proof.Machine

/-! SUPPORT. The checks in motion, and O49 (R102 to R105). -/

namespace Sys2Proof.Machine

open Sys2Proof

theorem markCheck_mark (made fault mark : Bool) : (markCheck made fault mark).1 = if made then fault else mark := by
  cases made <;> rfl

/-- A check reports when its mark rises (R105). -/
theorem markCheck_reported (made fault mark : Bool) :
    (markCheck made fault mark).2 = ((markCheck made fault mark).1 && !mark) := by
  cases made <;> cases fault <;> cases mark <;> rfl

section
variable (s : State) (a : Axis) (e : EncoderRead)

/-- FOLLOWING, its check and its mark (R102). -/
def State.followingCheck : Bool × Bool :=
  markCheck ((s.updated a e).contactor && (s.updated a e).valid)
    (decide ((s.axisRec a).feLimit * 256 < ((s.updated a e).demand - (s.updated a e).position).natAbs)) (s.axis a).markFollowing

/-- OVERSPEED, its check and its mark (R103). -/
def State.overspeedCheck : Bool × Bool :=
  markCheck ((s.updated a e).contactor && isGoodRead e && (s.axis a).missRun == 0 && (s.axis a).previous.isSome)
    (decide ((s.axisRec a).vLim + (s.axisRec a).vLim / 4 <
      ((s.updated a e).position - (s.axis a).previous.getD (s.updated a e).position).natAbs)) (s.axis a).markOverspeed

/-- SOFT_LIMIT, its check and its mark (R104). -/
def State.softLimitCheck : Bool × Bool :=
  markCheck (s.inRun && (s.updated a e).valid)
    (decide ((s.updated a e).position < Config.fine * (s.axisRange a).1 - Config.fine) ||
      decide (Config.fine * (s.axisRange a).2 + Config.fine < (s.updated a e).position)) (s.axis a).markSoftLimit

/-- What the checks of an update read of the axis is what the update leaves, with the marks from before. -/
theorem driveAxis_reads :
    (s.driveAxis a (s.advanced a e).1).contactor = (s.updated a e).contactor ∧
      (s.driveAxis a (s.advanced a e).1).released = (s.axis a).released ∧
      (s.driveAxis a (s.advanced a e).1).valid = (s.updated a e).valid ∧
      (s.driveAxis a (s.advanced a e).1).position = (s.updated a e).position ∧
      (s.driveAxis a (s.advanced a e).1).demand = (s.updated a e).demand ∧
      (s.driveAxis a (s.advanced a e).1).markFollowing = (s.axis a).markFollowing ∧
      (s.driveAxis a (s.advanced a e).1).markOverspeed = (s.axis a).markOverspeed ∧
      (s.driveAxis a (s.advanced a e).1).markSoftLimit = (s.axis a).markSoftLimit := by
  obtain ⟨h1, h2, h3, h4, -⟩ := updated_driven s a e
  obtain ⟨-, -, -, h5, -⟩ := updated_advanced s a e
  have hkeep : (s.advanced a e).1 = _ := advance_keeps s a (s.readAxis a e)
  have hmarks : (s.advanced a e).1.markFollowing = (s.axis a).markFollowing ∧
      (s.advanced a e).1.markOverspeed = (s.axis a).markOverspeed ∧
      (s.advanced a e).1.markSoftLimit = (s.axis a).markSoftLimit := by
    rw [hkeep, readAxis_keeps]
    exact ⟨rfl, rfl, rfl⟩
  rw [driveAxis_output, h2, h3, h4, h5, ← hmarks.1, ← hmarks.2.1, ← hmarks.2.2, ← (updated_inputs s a e).1, h1]
  exact ⟨rfl, rfl, rfl, rfl, rfl, rfl, rfl, rfl⟩

theorem updated_marks :
    (s.updated a e).markFollowing = (s.checked a e).1.markFollowing ∧
      (s.updated a e).markOverspeed = (s.checked a e).1.markOverspeed ∧
      (s.updated a e).markSoftLimit = (s.checked a e).1.markSoftLimit := by
  rw [updated_output]
  exact ⟨rfl, rfl, rfl⟩

/-- The checks of a released, present axis (R102 to R105). -/
theorem checked_made (h : (s.axis a).released = true ∧ s.axisPresent a = true) :
    (s.updated a e).markFollowing = (s.followingCheck a e).1 ∧ (s.updated a e).markOverspeed = (s.overspeedCheck a e).1 ∧
      (s.updated a e).markSoftLimit = (s.softLimitCheck a e).1 ∧
      (s.checked a e).2 = (if (s.followingCheck a e).2 then [Kind.following] else []) ++
        (if (s.overspeedCheck a e).2 then [Kind.overspeed] else []) ++
        (if (s.softLimitCheck a e).2 then [Kind.softLimit] else []) := by
  obtain ⟨h1, h2, h3⟩ := updated_marks s a e
  obtain ⟨g1, g2, g3, g4, g5, g6, g7, g8⟩ := driveAxis_reads s a e
  rw [h1, h2, h3]
  unfold State.checked State.checkAxis State.followingCheck State.overspeedCheck State.softLimitCheck
  rw [if_neg (by rw [g2, h.1, h.2]; decide)]
  dsimp only
  rw [g1, g3, g4, g5, g6, g7, g8]
  exact ⟨rfl, rfl, rfl, rfl⟩

/-- With no check made the marks stay (R105). -/
theorem checked_unmade (h : ¬((s.axis a).released = true ∧ s.axisPresent a = true)) :
    (s.updated a e).markFollowing = (s.axis a).markFollowing ∧ (s.updated a e).markOverspeed = (s.axis a).markOverspeed ∧
      (s.updated a e).markSoftLimit = (s.axis a).markSoftLimit := by
  obtain ⟨h1, h2, h3⟩ := updated_marks s a e
  obtain ⟨-, g2, -, -, -, g6, g7, g8⟩ := driveAxis_reads s a e
  rw [h1, h2, h3]
  unfold State.checked State.checkAxis
  rw [if_pos (by rw [g2, Bool.not_eq_true', ← Bool.not_eq_true, Bool.and_eq_true]; exact h)]
  exact ⟨g6, g7, g8⟩

/-- A kind that the checks of an update report. -/
theorem updateAxis_checked {k : Kind} (h : k ∈ (s.checked a e).2) :
    Instr.causeReport ⟨k, some a.tier, some a, (s.updated a e).served, some (s.updated a e).demand,
      some (s.updated a e).position, none⟩ ∈ (s.updateAxis a e).mail :=
  (updateAxis_mail s a e).2.1 _ (List.mem_append_right _ (List.mem_map.mpr ⟨k, h, rfl⟩))

theorem followingCheck_mark : (s.followingCheck a e).1 =
    if (s.axis a).contactor = true ∧ (s.updated a e).valid = true then
      decide ((s.axisRec a).feLimit * 256 < ((s.updated a e).demand - (s.updated a e).position).natAbs)
    else (s.axis a).markFollowing := by
  unfold State.followingCheck
  rw [markCheck_mark, (updated_inputs s a e).2.1]
  simp only [Bool.and_eq_true]

theorem overspeedCheck_mark : (s.overspeedCheck a e).1 =
    match e, (s.axis a).previous with
    | .good _, some p =>
      if (s.axis a).contactor = true ∧ (s.axis a).missRun = 0 then
        decide ((s.axisRec a).vLim + (s.axisRec a).vLim / 4 < ((s.updated a e).position - p).natAbs)
      else (s.axis a).markOverspeed
    | _, _ => (s.axis a).markOverspeed := by
  unfold State.overspeedCheck
  rw [markCheck_mark, (updated_inputs s a e).2.1]
  cases e with
  | miss => simp [isGoodRead]
  | good c => cases hp : (s.axis a).previous <;> simp [isGoodRead]

theorem softLimitCheck_mark : (s.softLimitCheck a e).1 =
    if s.auth.mode = .run ∧ (s.updated a e).valid = true then
      decide ((s.updated a e).position < 256 * (s.axisRange a).1 - 256 ∨
        256 * (s.axisRange a).2 + 256 < (s.updated a e).position)
    else (s.axis a).markSoftLimit := by
  unfold State.softLimitCheck
  rw [markCheck_mark]
  simp only [Bool.and_eq_true, inRun_iff, Bool.decide_or]
  rfl

end

/-- Settles O49: each mark by `checked_made`, each report by `markCheck_reported`. -/
theorem motionChecksMarkAndReport : Obligations.MotionChecksMarkAndReport := by
  unfold Obligations.MotionChecksMarkAndReport
  intro a e s hs
  have he := exec_live (f := fun s => s.updateAxis a e) (.axisUpdate a e) (execAxisUpdate.eq_1 ..) hs
  obtain ⟨s', hs'⟩ : ∃ s', s' = s.taken (.axisUpdate a e) := ⟨_, rfl⟩
  rw [← hs'] at he
  have hself : (s'.updateAxis a e).axis a = s'.updated a e := ((updateAxis_axis s' a e).1 a).trans (if_pos rfl)
  refine ⟨_, he, ?_⟩
  rw [hself]
  split
  · next h =>
    obtain ⟨h1, h2, h3, h4⟩ := checked_made s' a e (by rw [hs']; exact h)
    have h5 := followingCheck_mark s' a e
    have h6 := overspeedCheck_mark s' a e
    have h7 := softLimitCheck_mark s' a e
    rw [← h1] at h5
    rw [← h2] at h6
    rw [← h3] at h7
    have rises {k : Kind} (hk : k ∈ (s'.checked a e).2) := updateAxis_checked s' a e hk
    have reported {c : Bool × Bool} {mark old : Bool} (hm : mark = c.1) (hc : c.2 = (c.1 && !old)) (h1 : mark = true)
        (h0 : old = false) : c.2 = true := by rw [hc, ← hm, h1, h0]; rfl
    have kinds (k : Kind) (hk : k = .following ∧ (s'.followingCheck a e).2 = true ∨
        k = .overspeed ∧ (s'.overspeedCheck a e).2 = true ∨ k = .softLimit ∧ (s'.softLimitCheck a e).2 = true) :
        k ∈ (s'.checked a e).2 := by
      rw [h4, List.mem_append, List.mem_append]
      obtain ⟨rfl, hc⟩ | ⟨rfl, hc⟩ | ⟨rfl, hc⟩ := hk <;> simp [hc]
    rw [hs'] at *
    refine ⟨h5, h6, h7, fun k hk => rises (kinds k ?_)⟩
    obtain ⟨hk, hm, ho⟩ | ⟨hk, hm, ho⟩ | ⟨hk, hm, ho⟩ := hk
    · exact .inl ⟨hk, reported h1 (markCheck_reported ..) hm ho⟩
    · exact .inr (.inl ⟨hk, reported h2 (markCheck_reported ..) hm ho⟩)
    · exact .inr (.inr ⟨hk, reported h3 (markCheck_reported ..) hm ho⟩)
  · next h =>
    rw [hs']
    exact checked_unmade (s.taken _) a e h

end Sys2Proof.Machine

/-! SUPPORT. The orders and the contactor's report at an axis, and O50 (R91, R93, R94, R96, R99, R101). -/

namespace Sys2Proof.Machine

open Sys2Proof

/-! ### The release of a brake -/

/-- A state that differs from another in the stop manager alone has its other axes and reads. -/
theorem OnlyMan.axis {s t : State} (h : OnlyMan s t) (a : Axis) : t.axis a = s.axis a := by
  unfold OnlyMan at h
  rw [h]
  rfl

/-- A release under a limit input that is not exempt, or a drive that is not ready (R160). -/
def State.tripsAtRelease (s : State) (a : Axis) : Prop :=
  s.axisPresent a = true ∧ ((s.axis a).limit = true ∧ s.isExempt a = false ∨ (s.axis a).ready = false)

theorem checkRelease_spec (s : State) (a : Axis) :
    OnlyMan s (s.checkRelease a) ∧ (s.tripsAtRelease a → (s.checkRelease a).man.state = .tripped) ∧
      (¬s.tripsAtRelease a → s.checkRelease a = s) := by
  obtain ⟨x, hx⟩ : ∃ x, x = if (s.axis a).limit && !s.isExempt a then s.takeCause (s.axisCause a .limitHit) else s := ⟨_, rfl⟩
  have hxs : OnlyMan s x := by
    rw [hx]
    split
    · exact takeCause_frame ..
    · rfl
  have e : s.checkRelease a = if s.axisPresent a then
      if !(s.axis a).ready then x.takeCause (s.axisCause a .driveLost) else x else s := by rw [hx]; rfl
  by_cases hp : s.axisPresent a = true
  · rw [if_pos hp] at e
    cases hr : (s.axis a).ready with
    | false =>
      rw [hr] at e
      rw [show s.checkRelease a = x.takeCause (s.axisCause a .driveLost) from e]
      exact ⟨hxs.trans (takeCause_frame ..), fun _ => (takeCause_trips (c := s.axisCause a .driveLost) x rfl).1,
        fun h => absurd ⟨hp, .inr hr⟩ h⟩
    | true =>
      rw [hr] at e
      rw [show s.checkRelease a = x from e]
      refine ⟨hxs, fun ⟨_, h⟩ => ?_, fun h => ?_⟩
      · obtain ⟨h1, h2⟩ := h.resolve_right (by simp [hr])
        rw [hx, h1, h2]
        exact (takeCause_trips (c := s.axisCause a .limitHit) s rfl).1
      · rw [hx, if_neg]
        intro hc
        simp only [Bool.and_eq_true, Bool.not_eq_true'] at hc
        exact h ⟨hp, .inl hc⟩
  · rw [if_neg hp] at e
    rw [e]
    exact ⟨rfl, fun h => absurd h.1 hp, fun _ => rfl⟩

/-- A release order in IDLE or SETTING (R59, R93, R160). -/
theorem releaseAxis_spec {s : State} {a : Axis} (served : Served) (h : (s.axis a).phase = .idle ∨ (s.axis a).phase = .setting)
    (t : State) (ht : t = s.releaseAxis a served) :
    (∀ x, t.axis x = if x = a then
        (s.axis a).releaseBrake (s.clampToTravel a (s.axis a).position) served (s.pointAtRelease a served) else s.axis x) ∧
      t = { s with axes := t.axes, man := t.man, mail := t.mail } ∧
      (a.role = .R → (s.axisRec a).liftTime = 0 → Instr.liftComplete a.tier ∈ t.mail) ∧
      (s.tripsAtRelease a → t.man.state = .tripped) ∧ (¬s.tripsAtRelease a → t.man = s.man) := by
  obtain ⟨y, hy⟩ : ∃ y, y = s.modAxis a fun x =>
    x.releaseBrake (s.clampToTravel a (s.axis a).position) served (s.pointAtRelease a served) := ⟨_, rfl⟩
  have e : t = if a.role = .R ∧ updatesOf (s.axisRec a).liftTime = 0 then (y.checkRelease a).emit (.liftComplete a.tier)
      else y.checkRelease a := by
    rw [ht, hy]
    exact if_pos h
  obtain ⟨hman, htrip, hsame⟩ := checkRelease_spec y a
  have htrips : y.tripsAtRelease a ↔ s.tripsAtRelease a := by
    have hya : y.axis a = (s.axis a).releaseBrake (s.clampToTravel a (s.axis a).position) served (s.pointAtRelease a served) := by
      rw [hy]
      exact (State.modAxis_axis ..).trans (if_pos rfl)
    unfold State.tripsAtRelease
    rw [hya, hy]
    rfl
  have hmail : ∃ l, t = { y.checkRelease a with mail := (y.checkRelease a).mail ++ l } ∧
      (a.role = .R → (s.axisRec a).liftTime = 0 → Instr.liftComplete a.tier ∈ l) := by
    rw [e]
    split
    · exact ⟨[.liftComplete a.tier], rfl, fun _ _ => List.mem_cons_self⟩
    · next hn =>
      refine ⟨[], ?_, fun hr hl => absurd ⟨hr, by rw [hl]; rfl⟩ hn⟩
      rw [List.append_nil]
  obtain ⟨l, hl, hlift⟩ := hmail
  have htman : t.man = (y.checkRelease a).man := by rw [hl]
  refine ⟨fun x => ?_, ?_, fun hr h0 => ?_, fun h1 => ?_, fun h1 => ?_⟩
  · have : t.axis x = y.axis x := by
      rw [← hman.axis x, hl]
      rfl
    rw [this, hy]
    exact State.modAxis_axis ..
  · have hframe : y.checkRelease a = { y with man := (y.checkRelease a).man, mail := (y.checkRelease a).mail } := hman
    rw [hl, hframe, hy]
    rfl
  · rw [hl]
    exact List.mem_append_right _ (hlift hr h0)
  · rw [htman]
    exact htrip (htrips.mpr h1)
  · rw [htman, hsame (mt htrips.mp h1), hy]
    rfl

theorem releaseAxis_ignored {s : State} {a : Axis} (served : Served)
    (h : ¬((s.axis a).phase = .idle ∨ (s.axis a).phase = .setting)) : s.releaseAxis a served = s := if_neg h

/-- The release point that a ROTATE on its way takes up again (R56, R59). -/
theorem pointAtRelease_path {s : State} {a : Axis} {p : Path} {served : Served} (hp : (s.holding a.tier).path = some p)
    (hr : a.role = .R) (hrot : p.rotate = true) (hs : served = .move p.number) :
    s.pointAtRelease a served =
      if p.next = p.g then none
      else if p.s < p.g then some ⟨256 * (bandStart (p.next + 1) + s.tables.hall.releaseMargin), .up⟩
      else some ⟨256 * (bandStart p.next - s.tables.hall.releaseMargin), .down⟩ := by
  unfold State.pointAtRelease
  rw [hr, hp]
  dsimp only
  rw [if_pos ⟨hrot, hs⟩]
  unfold State.nextPoint State.releasePoint pathDir
  by_cases h : p.s < p.g
  · rw [if_pos h, if_pos h]
    rfl
  · rw [if_neg h, if_neg h]
    rfl

/-! ### The application of a brake -/

theorem updatesOf_eq_zero_iff (n : Nat) : updatesOf n = 0 ↔ n = 0 := by
  unfold updatesOf
  omega

/-- An apply order outside IDLE (R94). -/
theorem applyAxis_spec {s : State} {a : Axis} (h : (s.axis a).phase ≠ .idle) (t : State) (ht : t = s.applyAxis a) :
    (∀ x, t.axis x = if x = a then { (s.axis a).brake with
        phase := if (s.axisRec a).setTime = 0 then .idle else .setting
        served := if (s.axisRec a).setTime = 0 then .none else (s.axis a).served } else s.axis x) ∧
      t = { s with axes := t.axes, mail := t.mail } ∧
      (a.role = .R → (s.axisRec a).setTime = 0 → Instr.setComplete a.tier ∈ t.mail) := by
  unfold State.applyAxis at ht
  rw [if_neg h] at ht
  by_cases h0 : (s.axisRec a).setTime = 0
  · rw [if_pos ((updatesOf_eq_zero_iff _).mpr h0)] at ht
    simp only [h0, if_true]
    by_cases hr : a.role = .R
    · rw [if_pos hr] at ht
      rw [ht]
      exact ⟨fun x => State.modAxis_axis s a (fun x => { x.brake with phase := .idle, served := .none }) x, rfl,
        fun _ _ => List.mem_append_right _ List.mem_cons_self⟩
    · rw [if_neg hr] at ht
      rw [ht]
      exact ⟨fun x => State.modAxis_axis .., rfl, fun h => absurd h hr⟩
  · rw [if_neg (mt (updatesOf_eq_zero_iff _).mp h0)] at ht
    simp only [h0, if_false]
    rw [ht]
    exact ⟨fun x => State.modAxis_axis .., rfl, fun _ h => h.elim⟩

theorem applyAxis_idle {s : State} {a : Axis} (h : (s.axis a).phase = .idle) : s.applyAxis a = s := if_pos h

/-- A trip order outside IDLE (R94). -/
theorem tripAxis_axis {s : State} {a : Axis} (h : (s.axis a).phase ≠ .idle) (x : Axis) :
    (s.tripAxis a).axis x = if x = a then { (s.axis a).brake with phase := .idle, served := .none } else s.axis x := by
  unfold State.tripAxis
  rw [if_neg h]
  exact State.modAxis_axis ..

theorem tripAxis_idle {s : State} {a : Axis} (h : (s.axis a).phase = .idle) : s.tripAxis a = s := if_pos h

theorem tripAxis_frame (s : State) (a : Axis) : s.tripAxis a = { s with axes := (s.tripAxis a).axes } := by
  unfold State.tripAxis
  split <;> rfl

/-! ### Travel and stop -/

theorem resettles_iff (q : Seq) : q.resettles = true ↔ ∃ b, q.slot = some b ∧ b.fromSettle = true := by
  unfold Seq.resettles
  cases q.slot <;> simp

/-- A sequencer that takes an arrival or rest behind a change of its axis. -/
theorem taken_behind_axis {s t x : State} {u : Tier} {a : Axis} {y : AxisCtl} (hx : x = s.modAxis a fun _ => y)
    (ht : SeqActs u x t) :
    (∀ b, t.axis b = if b = a then y else s.axis b) ∧ TouchesOnlySeq { s with axes := t.axes } t u := by
  obtain ⟨htouch, haxes⟩ := touches_behind_axes (by rw [hx]) ht.touches
  refine ⟨fun b => ?_, htouch⟩
  unfold State.axis
  rw [haxes, hx]
  exact State.modAxis_axis ..

theorem arrival_behind_axis {s x : State} {u : Tier} {a : Axis} {f : AxisCtl → AxisCtl} (hx : x = s.modAxis a f) :
    ArrivalTaken s ((x.seqArrival u).seqReport u) u := by
  rw [hx]
  exact (seqArrival_taken (s.modAxis a f) u).congr rfl rfl rfl rfl fun _ => id

theorem rest_behind_axis {s x : State} {u : Tier} {a : Axis} {f : AxisCtl → AxisCtl} (hx : x = s.modAxis a f) :
    RestTaken s ((x.seqRest u).seqReport u) u := by
  rw [hx]
  exact (seqRest_taken (s.modAxis a f) u).congr rfl rfl rfl rfl fun _ => id

/-- An axis set up for a travel order (R96). -/
theorem travelSetup_eq (s : State) (u : Tier) (target : Int) (cls : SpeedClass) (d : Int)
    (hd : d = s.clampToTravel ⟨u, .R⟩ (s.axis ⟨u, .R⟩).position) :
    s.travelSetup u target cls = { s.axis ⟨u, .R⟩ with
      phase := .travel, demand := d, v := 0, r := (target - d).natAbs
      dir := if d ≤ target then .up else .down, target := some target
      cap := some (classCap (s.axisRec ⟨u, .R⟩).vLim cls), stopDecel := none } := by
  rw [hd]
  rfl

/-- A travel order (R83, R96). -/
theorem travelAxis_spec (s : State) (u : Tier) (target : Int) (cls : SpeedClass) (t : State) (ht : t = s.travelAxis u target cls)
    (d : Int) (hd : d = s.clampToTravel ⟨u, .R⟩ (s.axis ⟨u, .R⟩).position) :
    (∀ x, x ≠ (⟨u, .R⟩ : Axis) → t.axis x = s.axis x) ∧ TouchesOnlySeq { s with axes := t.axes } t u ∧
      if d = target ∨ (∃ b, (s.seq u).slot = some b ∧ b.fromSettle = true) ∧ (s.axis ⟨u, .R⟩).valid = true ∧
          ((s.axis ⟨u, .R⟩).position - target).natAbs ≤ (s.axisRec ⟨u, .R⟩).window then
        (t.axis ⟨u, .R⟩).demand = target ∧ (t.axis ⟨u, .R⟩).v = 0 ∧ (t.axis ⟨u, .R⟩).r = 0 ∧
        (t.axis ⟨u, .R⟩).target = some target ∧
        (t.axis ⟨u, .R⟩).phase = (if (s.axis ⟨u, .R⟩).served = .jog then .still else .settle) ∧ ArrivalTaken s t u
      else
        t.seqs = s.seqs ∧ t.man = s.man ∧
        t.axis ⟨u, .R⟩ = { s.axis ⟨u, .R⟩ with
          phase := .travel, demand := d, v := 0, r := (target - d).natAbs
          dir := if d ≤ target then .up else .down, target := some target
          cap := some (classCap (s.axisRec ⟨u, .R⟩).vLim cls), stopDecel := none } := by
  obtain ⟨y, hy⟩ : ∃ y, y = s.travelSetup u target cls := ⟨_, rfl⟩
  have hset := travelSetup_eq s u target cls d hd
  rw [← hy] at hset
  have hcond : s.arrivesAtOnce u y target = true ↔ d = target ∨ (∃ b, (s.seq u).slot = some b ∧ b.fromSettle = true) ∧
      (s.axis ⟨u, .R⟩).valid = true ∧ ((s.axis ⟨u, .R⟩).position - target).natAbs ≤ (s.axisRec ⟨u, .R⟩).window := by
    unfold State.arrivesAtOnce inWindow
    rw [hset, Bool.or_eq_true, Bool.and_eq_true, Bool.and_eq_true, resettles_iff, decide_eq_true_iff, beq_iff_eq]
    exact or_congr (by dsimp only; omega) Iff.rfl
  unfold State.travelAxis at ht
  rw [← hy] at ht
  dsimp only at ht
  by_cases hc : s.arrivesAtOnce u y target = true
  · rw [if_pos hc] at ht
    have hacts : SeqActs u (s.modAxis ⟨u, .R⟩ fun _ => { y.arrive with demand := target }) t := by
      rw [ht]
      exact (SeqActs.refl u _).seqArrival.seqReport
    obtain ⟨haxis, htouch⟩ := taken_behind_axis rfl hacts
    rw [if_pos (hcond.mp hc), haxis, if_pos rfl]
    refine ⟨fun x hx => (haxis x).trans (if_neg hx), htouch, rfl, rfl, rfl, by rw [hset]; rfl, by rw [hset]; rfl, ?_⟩
    rw [ht]
    exact arrival_behind_axis rfl
  · rw [if_neg hc] at ht
    obtain ⟨haxis, htouch⟩ := taken_behind_axis (u := u) ht (.refl u t)
    rw [if_neg (mt hcond.mpr hc), haxis, if_pos rfl]
    exact ⟨fun x hx => (haxis x).trans (if_neg hx), htouch, by rw [ht]; rfl, by rw [ht]; rfl, hset⟩

/-- A stop order by the phase of tR (R99). -/
def AxisCtl.stopped (x : AxisCtl) (d : Nat) : AxisCtl :=
  match x.phase with
  | .travel => { x with phase := .stopping, stopDecel := some d }
  | .settle => { x with phase := .stopping, stopDecel := some d, v := 0 }
  | .stopping => { x with stopDecel := if x.stopDecel.getD 0 < d then some d else x.stopDecel }
  | .idle | .lifting | .still | .setting => x

theorem stopped_of_stopping {x : AxisCtl} (h : x.phase = .stopping) (d : Nat) :
    x.stopped d = { x with stopDecel := if x.stopDecel.getD 0 < d then some d else x.stopDecel } := by
  unfold AxisCtl.stopped
  simp only [h]

theorem stopped_of_other {x : AxisCtl} (h1 : x.phase ≠ .travel) (h2 : x.phase ≠ .settle) (h3 : x.phase ≠ .stopping) (d : Nat) :
    x.stopped d = x := by
  unfold AxisCtl.stopped
  cases h : x.phase with
  | travel => exact absurd h h1
  | settle => exact absurd h h2
  | stopping => exact absurd h h3
  | idle | lifting | still | setting => rfl

theorem stopAxis_eq (s : State) (u : Tier) (rate : StopRate) (d : Nat)
    (hd : d = if rate = .a then (s.axisRec ⟨u, .R⟩).a else (s.axisRec ⟨u, .R⟩).aQs) :
    s.stopAxis u rate =
      match (s.axis ⟨u, .R⟩).phase with
      | .travel => s.modAxis ⟨u, .R⟩ fun x => { x with phase := .stopping, stopDecel := some d }
      | .settle =>
        ((s.modAxis ⟨u, .R⟩ fun x => { x with phase := .stopping, stopDecel := some d, v := 0 }).seqRest u).seqReport u
      | .stopping =>
        s.modAxis ⟨u, .R⟩ fun x => { x with stopDecel := if x.stopDecel.getD 0 < d then some d else x.stopDecel }
      | .idle | .lifting | .still | .setting => s := by
  rw [hd]
  cases rate <;> rfl

theorem stopAxis_spec (s : State) (u : Tier) (rate : StopRate) (t : State) (ht : t = s.stopAxis u rate) (d : Nat)
    (hd : d = if rate = .a then (s.axisRec ⟨u, .R⟩).a else (s.axisRec ⟨u, .R⟩).aQs) :
    (∀ x, t.axis x = if x = ⟨u, .R⟩ then (s.axis ⟨u, .R⟩).stopped d else s.axis x) ∧
      TouchesOnlySeq { s with axes := t.axes } t u ∧
      if (s.axis ⟨u, .R⟩).phase = .settle then RestTaken s t u else t.seqs = s.seqs ∧ t.man = s.man := by
  rw [stopAxis_eq s u rate d hd] at ht
  cases hp : (s.axis ⟨u, .R⟩).phase with
  | travel =>
    have hst : (s.axis ⟨u, .R⟩).stopped d = { s.axis ⟨u, .R⟩ with phase := .stopping, stopDecel := some d } := by
      unfold AxisCtl.stopped
      rw [hp]
    rw [hp] at ht
    rw [ht, hst]
    exact ⟨fun x => State.modAxis_axis s ⟨u, .R⟩ (fun x => { x with phase := .stopping, stopDecel := some d }) x, .refl .., rfl, rfl⟩
  | stopping =>
    rw [hp] at ht
    rw [ht, stopped_of_stopping hp]
    exact ⟨fun x => State.modAxis_axis s ⟨u, .R⟩ (fun x =>
      { x with stopDecel := if x.stopDecel.getD 0 < d then some d else x.stopDecel }) x, .refl .., rfl, rfl⟩
  | settle =>
    have hst : (s.axis ⟨u, .R⟩).stopped d = { s.axis ⟨u, .R⟩ with phase := .stopping, stopDecel := some d, v := 0 } := by
      unfold AxisCtl.stopped
      rw [hp]
    rw [hp] at ht
    have hacts : SeqActs u (s.modAxis ⟨u, .R⟩ fun x => { x with phase := .stopping, stopDecel := some d, v := 0 }) t := by
      rw [ht]
      exact (SeqActs.refl u _).seqRest.seqReport
    obtain ⟨haxis, htouch⟩ := taken_behind_axis (y := { s.axis ⟨u, .R⟩ with phase := .stopping, stopDecel := some d, v := 0 }) rfl hacts
    refine ⟨hst ▸ haxis, htouch, ?_⟩
    rw [if_pos rfl, ht]
    exact rest_behind_axis rfl
  | idle | lifting | still | setting =>
    have hst : (s.axis ⟨u, .R⟩).stopped d = s.axis ⟨u, .R⟩ :=
      stopped_of_other (by simp [hp]) (by simp [hp]) (by simp [hp]) d
    rw [hp] at ht
    replace ht : t = s := ht
    rw [ht, hst]
    refine ⟨fun x => ?_, .refl .., rfl, rfl⟩
    by_cases h : x = ⟨u, .R⟩
    · exact (congrArg s.axis h).trans (if_pos h).symm
    · exact (if_neg h).symm

/-! ### The contactor -/

/-- A closing with an invalid position of a present axis is an ENCODER cause (R91). -/
theorem contactorAt_closed (s : State) (a : Axis) (t : State) (ht : t = s.contactorAt a true) :
    (∀ x, t.axis x = if x = a then { s.axis a with contactor := true } else s.axis x) ∧
      t = { s with axes := t.axes, mail := t.mail } ∧
      (s.axisPresent a = true → (s.axis a).valid = false →
        Instr.causeReport ⟨.encoder, some a.tier, some a, (s.axis a).served, some (s.axis a).demand,
          some (s.axis a).position, none⟩ ∈ t.mail) := by
  obtain ⟨y, hy⟩ : ∃ y, y = s.modAxis a fun x => { x with contactor := true } := ⟨_, rfl⟩
  have haxis (x : Axis) : y.axis x = if x = a then { s.axis a with contactor := true } else s.axis x := by
    rw [hy]
    exact State.modAxis_axis ..
  have hself : y.axis a = { s.axis a with contactor := true } := (haxis a).trans (if_pos rfl)
  have e : t = if y.axisPresent a && !(y.axis a).valid then y.emit (.causeReport (y.axisCause a .encoder)) else y := by
    rw [ht, hy]
    rfl
  have hpres : y.axisPresent a = s.axisPresent a := by rw [hy]; rfl
  rw [hpres, hself] at e
  by_cases hc : (s.axisPresent a && !(s.axis a).valid) = true
  · rw [show t = y.emit (.causeReport (y.axisCause a .encoder)) from e.trans (if_pos hc)]
    refine ⟨haxis, by rw [hy]; rfl, fun _ _ => List.mem_append_right _ ?_⟩
    unfold State.axisCause
    rw [hself]
    exact List.mem_cons_self
  · rw [show t = y from e.trans (if_neg hc)]
    exact ⟨haxis, by rw [hy]; rfl, fun h1 h2 => absurd (by rw [h1, h2]; rfl) hc⟩

/-! ### O50 -/

/-- Settles O50, order by order. -/
theorem ordersMeetAnAxis : Obligations.OrdersMeetAnAxis := by
  unfold Obligations.OrdersMeetAnAxis
  intro a s hs
  have other {P Q : AxisCtl} {x : Axis} (h : P = if x = a then Q else s.axis x) (hx : x ≠ a) : P = s.axis x :=
    h.trans (if_neg hx)
  refine ⟨fun served => ?_, ?_, ?_, fun target cls hr => ?_, fun rate hr => ?_, ?_, ?_⟩
  · have he := exec_live (f := fun s => s.releaseAxis a served) (.brakeReleaseOrder a served) (execBrakeReleaseOrder.eq_1 ..) hs
    by_cases hp : (s.axis a).phase = .idle ∨ (s.axis a).phase = .setting
    · obtain ⟨haxis, hframe, hlift, htrip, hman⟩ := releaseAxis_spec (s := s.taken _) served hp _ rfl
      refine ⟨_, he, fun x hx => other (haxis x) hx, ?_⟩
      have hself := (haxis a).trans (if_pos rfl)
      rw [if_pos hp, hself]
      refine ⟨?_, pointAtRelease_other s a served, fun p h1 h2 h3 h4 => pointAtRelease_path h1 h2 h3 h4, hframe, hlift, ?_⟩
      · have hclamp : s.clampToTravel a (s.axis a).position =
            min (256 * (s.axisRange a).2) (max (256 * (s.axisRange a).1) (s.axis a).position) := rfl
        rw [← hclamp]
        rfl
      · split
        · next h => exact htrip h
        · next h => exact hman h
    · rw [releaseAxis_ignored (s := s.taken _) served hp] at he
      refine ⟨_, he, fun _ _ => rfl, ?_⟩
      rw [if_neg hp]
  · have he := exec_live (f := fun s => s.applyAxis a) (.brakeApplyOrder a) (execBrakeApplyOrder.eq_1 ..) hs
    by_cases hp : (s.axis a).phase = .idle
    · rw [applyAxis_idle (s := s.taken _) hp] at he
      refine ⟨_, he, fun _ _ => rfl, rfl, ?_⟩
      rw [if_pos hp]
      rfl
    · obtain ⟨haxis, hframe, hset⟩ := applyAxis_spec (s := s.taken _) hp _ rfl
      refine ⟨_, he, fun x hx => other (haxis x) hx, hframe, ?_⟩
      rw [if_neg hp, (haxis a).trans (if_pos rfl)]
      exact ⟨rfl, rfl, rfl, hset⟩
  · have he := exec_live (f := fun s => s.tripAxis a) (.axisTripOrder a) (execAxisTripOrder.eq_1 ..) hs
    by_cases hp : (s.axis a).phase = .idle
    · rw [tripAxis_idle (s := s.taken _) hp] at he
      refine ⟨_, he, fun _ _ => rfl, rfl, ?_⟩
      rw [if_pos hp]
      rfl
    · have haxis := tripAxis_axis (s := s.taken (.axisTripOrder a)) hp
      refine ⟨_, he, fun x hx => other (haxis x) hx, tripAxis_frame (s.taken _) a, ?_⟩
      rw [if_neg hp, (haxis a).trans (if_pos rfl)]
      exact ⟨rfl, rfl, rfl⟩
  · obtain ⟨u, r⟩ := a
    obtain rfl : r = .R := hr
    have he := exec_live (f := fun s => s.travelAxis u target cls) (.travelOrder u target cls) (execTravelOrder.eq_1 ..) hs
    refine ⟨_, he, ?_, ?_, fun d hd => ?_⟩
    · exact (travelAxis_spec (s.taken _) u target cls _ rfl _ rfl).1
    · exact (travelAxis_spec (s.taken _) u target cls _ rfl _ rfl).2.1
    · exact (travelAxis_spec (s.taken _) u target cls _ rfl d hd).2.2
  · obtain ⟨u, r⟩ := a
    obtain rfl : r = .R := hr
    have he := exec_live (f := fun s => s.stopAxis u rate) (.stopOrder u rate) (execStopOrder.eq_1 ..) hs
    obtain ⟨haxis, htouch, htaken⟩ := stopAxis_spec (s.taken _) u rate _ rfl _ rfl
    refine ⟨_, he, fun x hx => other (haxis x) hx, htouch, htaken, fun d hd => ?_⟩
    exact ((stopAxis_spec (s.taken _) u rate _ rfl d hd).1 _).trans (if_pos rfl)
  · have he := exec_live (f := fun s => s.contactorAt a false) (.contactorReport a false) (execContactorReport.eq_1 ..) hs
    have haxis (x : Axis) := State.modAxis_axis (s.taken (.contactorReport a false)) a
      (fun x => { x with contactor := false, speed := 0 }) x
    exact ⟨_, he, fun x hx => other (haxis x) hx, (haxis a).trans (if_pos rfl), rfl⟩
  · have he := exec_live (f := fun s => s.contactorAt a true) (.contactorReport a true) (execContactorReport.eq_1 ..) hs
    obtain ⟨haxis, hframe, hcause⟩ := contactorAt_closed (s.taken _) a _ rfl
    exact ⟨_, he, fun x hx => other (haxis x) hx, (haxis a).trans (if_pos rfl), hframe, hcause⟩

end Sys2Proof.Machine

/-! SUPPORT. The orders at a tilt pair unit, and O51 (R112, R118, R119, R121). -/

namespace Sys2Proof.Machine

open Sys2Proof

/-! ### A pair and its jacks -/

theorem modJacks_axis (s : State) (u : Tier) (f : AxisCtl → AxisCtl) (x : Axis) :
    (s.modJacks u f).axis x = if x = ⟨u, .A⟩ ∨ x = ⟨u, .B⟩ then f (s.axis x) else s.axis x := by
  unfold State.modJacks
  rw [State.modAxis_axis, State.modAxis_axis, State.modAxis_axis]
  by_cases hb : x = ⟨u, .B⟩
  · subst hb
    simp
  · rw [if_neg hb]
    by_cases ha : x = ⟨u, .A⟩
    · rw [if_pos ha, if_pos (.inl ha), ha]
    · rw [if_neg ha, if_neg (by simp [ha, hb])]

theorem modJacks_jack (s : State) (u : Tier) (f : AxisCtl → AxisCtl) (j : Jack) :
    (s.modJacks u f).axis (jackAxis u j) = f (s.axis (jackAxis u j)) := by
  rw [modJacks_axis, if_pos]
  cases j
  · exact .inl rfl
  · exact .inr rfl

/-- A sequencer that acts behind its tier's pair and axes. -/
theorem touches_behind_group {s x t : State} {u : Tier} (hx : x = { s with axes := x.axes, pairs := x.pairs })
    (h : TouchesOnlySeq x t u) :
    TouchesOnlySeq { s with axes := t.axes, pairs := t.pairs } t u ∧ t.axes = x.axes ∧ t.pairs = x.pairs := by
  obtain ⟨axes, pairs, rfl⟩ : ∃ axes pairs, x = { s with axes := axes, pairs := pairs } := ⟨_, _, hx⟩
  obtain ⟨hothers, hframe⟩ := h
  have haxes : t.axes = axes := congrArg (fun y : State => y.axes) hframe
  have hpairs : t.pairs = pairs := congrArg (fun y : State => y.pairs) hframe
  refine ⟨⟨hothers, ?_⟩, haxes, hpairs⟩
  rw [haxes, hpairs]
  exact hframe

/-- From `s` to `t` the pair of tier `u` has become `p` and its jacks what `f` makes of them; every other pair and axis is
as it was. -/
structure GroupMoved (s t : State) (u : Tier) (p : PairUnit) (f : AxisCtl → AxisCtl) : Prop where
  pair : t.pair u = p
  jack : ∀ j, t.axis (jackAxis u j) = f (s.axis (jackAxis u j))
  otherPairs : ∀ v, v ≠ u → t.pair v = s.pair v
  otherAxes : ∀ x, x ≠ ⟨u, .A⟩ → x ≠ ⟨u, .B⟩ → t.axis x = s.axis x

/-- A pair and its jacks changed. -/
theorem groupMoved_of (s : State) (u : Tier) (g : PairUnit → PairUnit) (f : AxisCtl → AxisCtl) :
    GroupMoved s ((s.modPair u g).modJacks u f) u (g (s.pair u)) f where
  pair := (State.modPair_pair ..).trans (if_pos rfl)
  jack j := modJacks_jack ..
  otherPairs v hv := (State.modPair_pair ..).trans (if_neg hv)
  otherAxes x ha hb := (modJacks_axis ..).trans (if_neg (by simp [ha, hb]))

theorem GroupMoved.trans {s t v : State} {u : Tier} {p q : PairUnit} {f g : AxisCtl → AxisCtl} (h : GroupMoved s t u p f)
    (k : GroupMoved t v u q g) : GroupMoved s v u q (g ∘ f) where
  pair := k.pair
  jack j := (k.jack j).trans (congrArg g (h.jack j))
  otherPairs w hw := (k.otherPairs w hw).trans (h.otherPairs w hw)
  otherAxes x ha hb := (k.otherAxes x ha hb).trans (h.otherAxes x ha hb)

/-- A sequencer that acts leaves pair and jacks. -/
theorem GroupMoved.behind {s x t : State} {u : Tier} {p : PairUnit} {f : AxisCtl → AxisCtl} (h : GroupMoved s x u p f)
    (ha : t.axes = x.axes) (hp : t.pairs = x.pairs) : GroupMoved s t u p f := by
  have axis (a : Axis) : t.axis a = x.axis a := by unfold State.axis; rw [ha]
  have pair (v : Tier) : t.pair v = x.pair v := by unfold State.pair; rw [hp]
  exact ⟨(pair u).trans h.pair, fun j => (axis _).trans (h.jack j), fun v hv => (pair v).trans (h.otherPairs v hv),
    fun a h1 h2 => (axis a).trans (h.otherAxes a h1 h2)⟩

/-! ### Arrival and rest of a pair -/

/-- A pair that arrives at `target` (R120). -/
def PairUnit.arrived (p : PairUnit) (target : Int) : PairUnit :=
  { p with
    v := 0, r := 0, demand := some target, gather := ⟨.counting, .counting⟩
    phase := if p.served = .jog then .still else .settle }

/-- A jack of a pair that arrives at `target` (R120). -/
def AxisCtl.arrivedWith (x : AxisCtl) (p : PairUnit) (target : Int) : AxisCtl :=
  { x with
    demand := target, target := some target, v := 0, r := 0, settleRun := 0, settleAge := 0
    phase := if p.served = .jog then .still else .settle }

/-- Where a pair arrives (R120). -/
def PairUnit.goal (p : PairUnit) : Int := p.target.getD (p.demand.getD 0)

theorem pairArrive_spec (s : State) (u : Tier) (t : State) (ht : t = s.pairArrive u) :
    GroupMoved s t u ((s.pair u).arrived (s.pair u).goal) (fun x => x.arrivedWith (s.pair u) (s.pair u).goal) ∧
      TouchesOnlySeq { s with axes := t.axes, pairs := t.pairs } t u ∧ ArrivalTaken s t u := by
  obtain ⟨x, hx⟩ : ∃ x, x = (s.modPair u fun p =>
      { p with
        v := 0, r := 0, demand := some (s.pair u).goal, gather := ⟨.counting, .counting⟩
        phase := if (s.pair u).served = .jog then .still else .settle }).modJacks u
      fun x => x.arrivedWith (s.pair u) (s.pair u).goal := ⟨_, rfl⟩
  have hphase : (if decide ((s.pair u).served = .jog) = true then Phase.still else .settle) =
      if (s.pair u).served = .jog then .still else .settle := by simp only [decide_eq_true_eq]
  have e : t = (x.seqArrival u).seqReport u := by
    rw [ht, hx]
    unfold State.pairArrive AxisCtl.arrivedWith
    dsimp only
    rw [hphase]
    rfl
  have hmoved : GroupMoved s x u ((s.pair u).arrived (s.pair u).goal) fun x => x.arrivedWith (s.pair u) (s.pair u).goal := by
    rw [hx]
    exact groupMoved_of ..
  have hacts : SeqActs u x t := by
    rw [e]
    exact (SeqActs.refl u x).seqArrival.seqReport
  obtain ⟨htouch, ha, hp⟩ := touches_behind_group (s := s) (by rw [hx]; rfl) hacts.touches
  refine ⟨hmoved.behind ha hp, htouch, ?_⟩
  rw [e]
  exact (seqArrival_taken x u).congr (by rw [hx]; rfl) (by rw [hx]; rfl) rfl rfl fun _ => id

/-- A pair that comes to rest (R121). -/
def PairUnit.rested (p : PairUnit) : PairUnit := { p with v := 0, phase := .still, gather := ⟨.counting, .counting⟩ }

theorem pairRest_spec (s : State) (u : Tier) (t : State) (ht : t = s.pairRest u) :
    t.pair u = (s.pair u).rested ∧ (∀ v, v ≠ u → t.pair v = s.pair v) ∧
      (∀ x, x ≠ (⟨u, .A⟩ : Axis) → x ≠ ⟨u, .B⟩ → t.axis x = s.axis x) ∧
      TouchesOnlySeq { s with axes := t.axes, pairs := t.pairs } t u ∧ RestTaken s t u ∧ ∀ j, JackAtRest t u j := by
  obtain ⟨f, x, hx, e⟩ : ∃ f x, x = (s.modPair u PairUnit.rested).modJacks u f ∧ t = (x.seqRest u).seqReport u :=
    ⟨_, _, rfl, ht⟩
  have hmoved : GroupMoved s x u (s.pair u).rested f := by
    rw [hx]
    exact groupMoved_of ..
  have hacts : SeqActs u x t := by
    rw [e]
    exact (SeqActs.refl u x).seqRest.seqReport
  obtain ⟨htouch, ha, hp⟩ := touches_behind_group (s := s) (by rw [hx]; rfl) hacts.touches
  obtain ⟨h1, -, h3, h4⟩ := hmoved.behind ha hp
  refine ⟨h1, h3, h4, htouch, ?_, fun j => ht ▸ pairRest_jacks s u j⟩
  rw [e]
  exact (seqRest_taken x u).congr (by rw [hx]; rfl) (by rw [hx]; rfl) rfl rfl fun _ => id

/-! ### Release, apply and trip -/

/-- What a release order leaves outside its axis, whatever its phase. -/
theorem releaseAxis_frame (s : State) (a : Axis) (served : Served) :
    (∀ x, x ≠ a → (s.releaseAxis a served).axis x = s.axis x) ∧
      s.releaseAxis a served = { s with
        axes := (s.releaseAxis a served).axes, man := (s.releaseAxis a served).man
        mail := (s.releaseAxis a served).mail } := by
  by_cases h : (s.axis a).phase = .idle ∨ (s.axis a).phase = .setting
  · obtain ⟨haxis, hframe, -⟩ := releaseAxis_spec served h _ rfl
    exact ⟨fun x hx => (haxis x).trans (if_neg hx), hframe⟩
  · rw [releaseAxis_ignored served h]
    exact ⟨fun _ _ => rfl, rfl⟩

/-- A jack that takes a release order in IDLE or SETTING (R93). -/
theorem releaseAxis_lifts {s : State} {a : Axis} (served : Served) (h : (s.axis a).phase = .idle ∨ (s.axis a).phase = .setting) :
    ((s.releaseAxis a served).axis a).released = true ∧ ((s.releaseAxis a served).axis a).phase = .lifting ∧
      ((s.releaseAxis a served).axis a).served = served := by
  rw [((releaseAxis_spec served h _ rfl).1 a).trans (if_pos rfl)]
  exact ⟨rfl, rfl, rfl⟩

theorem jack_ne (u : Tier) : (⟨u, .A⟩ : Axis) ≠ ⟨u, .B⟩ := by simp

/-- A release order of a pair (R118). -/
theorem releasePair_spec {s : State} {u : Tier} (served : Served)
    (h : (s.tier u).tilt.isSome = true ∧ ((s.pair u).phase = .idle ∨ (s.pair u).phase = .setting)) (t : State)
    (ht : t = s.releasePair u served) :
    (∀ v, t.pair v = if v = u then { s.pair u with phase := .lifting, phaseCount := 0, served := served } else s.pair v) ∧
      (∀ x, x ≠ (⟨u, .A⟩ : Axis) → x ≠ ⟨u, .B⟩ → t.axis x = s.axis x) ∧
      (∀ j, (s.axis (jackAxis u j)).phase = .idle ∨ (s.axis (jackAxis u j)).phase = .setting →
        (t.axis (jackAxis u j)).released = true ∧ (t.axis (jackAxis u j)).phase = .lifting ∧
        (t.axis (jackAxis u j)).served = served) ∧
      ((s.axisRec ⟨u, .A⟩).liftTime = 0 → (s.axisRec ⟨u, .B⟩).liftTime = 0 → Instr.pairLiftComplete u ∈ t.mail) ∧
      t = { s with axes := t.axes, pairs := t.pairs, man := t.man, mail := t.mail } := by
  obtain ⟨y, hy⟩ : ∃ y, y = s.releaseAxis ⟨u, .A⟩ served := ⟨_, rfl⟩
  obtain ⟨z, hz⟩ : ∃ z, z = y.releaseAxis ⟨u, .B⟩ served := ⟨_, rfl⟩
  obtain ⟨w, hw⟩ : ∃ w, w = z.modPair u fun p => { p with phase := .lifting, phaseCount := 0, served := served } := ⟨_, rfl⟩
  have e : t = if s.pairLift u = 0 then w.emit (.pairLiftComplete u) else w := by
    rw [ht, hw, hz, hy]
    exact if_pos h
  obtain ⟨hya, hyf⟩ := releaseAxis_frame s ⟨u, .A⟩ served
  obtain ⟨hza, hzf⟩ := releaseAxis_frame y ⟨u, .B⟩ served
  rw [← hy] at hya hyf
  rw [← hz] at hza hzf
  have hzpair (v : Tier) : z.pair v = s.pair v := by rw [hzf, hyf]; rfl
  have hwaxis (x : Axis) : w.axis x = z.axis x := by rw [hw]; rfl
  have htw : t = { w with mail := t.mail } ∧ ((s.axisRec ⟨u, .A⟩).liftTime = 0 → (s.axisRec ⟨u, .B⟩).liftTime = 0 →
      Instr.pairLiftComplete u ∈ t.mail) := by
    split at e
    · rw [e]
      exact ⟨rfl, fun _ _ => List.mem_append_right _ List.mem_cons_self⟩
    · next hl =>
      rw [e]
      refine ⟨rfl, fun ha hb => absurd ?_ hl⟩
      unfold State.pairLift
      rw [ha, hb]
      rfl
  obtain ⟨htw, hlift⟩ := htw
  have htaxis (x : Axis) : t.axis x = z.axis x := by
    rw [htw]
    exact hwaxis x
  refine ⟨fun v => ?_, fun x ha hb => ?_, fun j hj => ?_, hlift, ?_⟩
  · rw [htw]
    refine ((congrArg (fun x : State => x.pair v) hw).trans (State.modPair_pair ..)).trans ?_
    rw [hzpair, hzpair]
  · rw [htaxis, hza x hb, hya x ha]
  · rw [htaxis]
    cases j with
    | A =>
      have hA : z.axis ⟨u, .A⟩ = y.axis ⟨u, .A⟩ := hza _ (jack_ne u)
      rw [show jackAxis u .A = ⟨u, .A⟩ from rfl, hA, hy]
      exact releaseAxis_lifts served hj
    | B =>
      have hB : y.axis ⟨u, .B⟩ = s.axis ⟨u, .B⟩ := hya _ (jack_ne u).symm
      rw [show jackAxis u .B = ⟨u, .B⟩ from rfl, hz]
      exact releaseAxis_lifts served (by rw [hB]; exact hj)
  · rw [htw, hw, hzf, hyf]
    rfl

/-- What an apply or a trip order leaves of a jack (R94). -/
def AxisCtl.appliedAs (x : AxisCtl) (atOnce : Bool) : AxisCtl :=
  if x.phase = .idle then x
  else { x.brake with
    phase := if atOnce then .idle else .setting, served := if atOnce then .none else x.served }

theorem applyAxis_axis (s : State) (a x : Axis) :
    (s.applyAxis a).axis x = if x = a then (s.axis a).appliedAs (decide ((s.axisRec a).setTime = 0)) else s.axis x := by
  unfold AxisCtl.appliedAs
  by_cases hp : (s.axis a).phase = .idle
  · rw [applyAxis_idle hp, if_pos hp]
    split
    · next h => rw [h]
    · rfl
  · rw [(applyAxis_spec hp _ rfl).1 x, if_neg hp]
    simp only [decide_eq_true_eq]

theorem applyAxis_frame (s : State) (a : Axis) :
    s.applyAxis a = { s with axes := (s.applyAxis a).axes, mail := (s.applyAxis a).mail } := by
  by_cases hp : (s.axis a).phase = .idle
  · rw [applyAxis_idle hp]
  · exact (applyAxis_spec hp _ rfl).2.1

theorem tripAxis_axis' (s : State) (a x : Axis) :
    (s.tripAxis a).axis x = if x = a then (s.axis a).appliedAs true else s.axis x := by
  unfold AxisCtl.appliedAs
  by_cases hp : (s.axis a).phase = .idle
  · rw [tripAxis_idle hp, if_pos hp]
    split
    · next h => rw [h]
    · rfl
  · rw [tripAxis_axis hp, if_neg hp]
    rfl

/-- What is left of a pair's profile whose brakes are ordered to apply (R118). -/
def PairUnit.appliedAs (p : PairUnit) (atOnce : Bool) : PairUnit :=
  { p.brake with phase := if atOnce then .idle else .setting, served := if atOnce then .none else p.served }

/-- The set time of a pair is 0 when both jacks' are. -/
theorem pairSet_eq_zero_iff (s : State) (u : Tier) :
    s.pairSet u = 0 ↔ (s.axisRec ⟨u, .A⟩).setTime = 0 ∧ (s.axisRec ⟨u, .B⟩).setTime = 0 := by
  unfold State.pairSet updatesOf
  omega

/-- An apply order of a pair outside IDLE (R94, R118). -/
theorem applyPair_spec {s : State} {u : Tier} (h : (s.pair u).phase ≠ .idle) (t : State) (ht : t = s.applyPair u) :
    (∀ v, t.pair v = if v = u then (s.pair u).appliedAs (decide ((s.axisRec ⟨u, .A⟩).setTime = 0 ∧ (s.axisRec ⟨u, .B⟩).setTime = 0))
      else s.pair v) ∧
      (∀ x, x ≠ (⟨u, .A⟩ : Axis) → x ≠ ⟨u, .B⟩ → t.axis x = s.axis x) ∧
      (∀ j, t.axis (jackAxis u j) =
        (s.axis (jackAxis u j)).appliedAs (decide ((s.axisRec (jackAxis u j)).setTime = 0))) ∧
      t = { s with axes := t.axes, pairs := t.pairs, mail := t.mail } := by
  obtain ⟨y, hy⟩ : ∃ y, y = (s.applyAxis ⟨u, .A⟩).applyAxis ⟨u, .B⟩ := ⟨_, rfl⟩
  have hyaxis (x : Axis) : y.axis x = if x = ⟨u, .B⟩ then (s.axis ⟨u, .B⟩).appliedAs (decide ((s.axisRec ⟨u, .B⟩).setTime = 0))
      else if x = ⟨u, .A⟩ then (s.axis ⟨u, .A⟩).appliedAs (decide ((s.axisRec ⟨u, .A⟩).setTime = 0)) else s.axis x := by
    have hrec : (s.applyAxis ⟨u, .A⟩).axisRec ⟨u, .B⟩ = s.axisRec ⟨u, .B⟩ := by rw [applyAxis_frame]; rfl
    rw [hy, applyAxis_axis, applyAxis_axis, applyAxis_axis, if_neg (jack_ne u).symm, hrec]
  have hyframe : y = { s with axes := y.axes, mail := y.mail } := by
    have h1 := applyAxis_frame s ⟨u, .A⟩
    have h2 := applyAxis_frame (s.applyAxis ⟨u, .A⟩) ⟨u, .B⟩
    rw [← hy] at h2
    rw [h2, h1]
  have e : ∃ l, t = { y.modPair u fun p => p.appliedAs (decide ((s.axisRec ⟨u, .A⟩).setTime = 0 ∧ (s.axisRec ⟨u, .B⟩).setTime = 0)) with
      mail := l } := by
    unfold State.applyPair at ht
    rw [if_neg h, ← hy] at ht
    dsimp only at ht
    by_cases h0 : s.pairSet u = 0
    · rw [if_pos h0] at ht
      refine ⟨t.mail, ?_⟩
      rw [decide_eq_true ((pairSet_eq_zero_iff s u).mp h0), ht]
      rfl
    · rw [if_neg h0] at ht
      refine ⟨t.mail, ?_⟩
      rw [decide_eq_false (mt (pairSet_eq_zero_iff s u).mpr h0), ht]
      rfl
  obtain ⟨l, hl⟩ := e
  have htaxis (x : Axis) : t.axis x = y.axis x := by rw [hl]; rfl
  refine ⟨fun v => ?_, fun x ha hb => ?_, fun j => ?_, ?_⟩
  · have hpair (v : Tier) : y.pair v = s.pair v := by rw [hyframe]; rfl
    have htp : t.pair v = (y.modPair u fun p =>
        p.appliedAs (decide ((s.axisRec ⟨u, .A⟩).setTime = 0 ∧ (s.axisRec ⟨u, .B⟩).setTime = 0))).pair v := by
      rw [hl]
      rfl
    rw [htp, State.modPair_pair, hpair, hpair]
  · rw [htaxis, hyaxis, if_neg hb, if_neg ha]
  · rw [htaxis, hyaxis]
    cases j with
    | A => exact (if_neg (jack_ne u)).trans (if_pos rfl)
    | B => exact if_pos rfl
  · rw [hl, hyframe]
    rfl

/-- A trip order of a pair outside IDLE (R94, R118). -/
theorem tripPair_spec {s : State} {u : Tier} (h : (s.pair u).phase ≠ .idle) (t : State) (ht : t = s.tripPair u) :
    (∀ v, t.pair v = if v = u then (s.pair u).appliedAs true else s.pair v) ∧
      (∀ x, x ≠ (⟨u, .A⟩ : Axis) → x ≠ ⟨u, .B⟩ → t.axis x = s.axis x) ∧
      (∀ j, t.axis (jackAxis u j) = (s.axis (jackAxis u j)).appliedAs true) ∧
      t = { s with axes := t.axes, pairs := t.pairs, mail := t.mail } := by
  obtain ⟨y, hy⟩ : ∃ y, y = (s.tripAxis ⟨u, .A⟩).tripAxis ⟨u, .B⟩ := ⟨_, rfl⟩
  have hyaxis (x : Axis) : y.axis x = if x = ⟨u, .B⟩ then (s.axis ⟨u, .B⟩).appliedAs true
      else if x = ⟨u, .A⟩ then (s.axis ⟨u, .A⟩).appliedAs true else s.axis x := by
    rw [hy, tripAxis_axis', tripAxis_axis', tripAxis_axis', if_neg (jack_ne u).symm]
  have hyframe : y = { s with axes := y.axes } := by
    have h1 := tripAxis_frame s ⟨u, .A⟩
    have h2 := tripAxis_frame (s.tripAxis ⟨u, .A⟩) ⟨u, .B⟩
    rw [← hy] at h2
    rw [h2, h1]
  have e : t = y.modPair u fun p => p.appliedAs true := by
    rw [ht, hy]
    exact if_neg h
  have htaxis (x : Axis) : t.axis x = y.axis x := by rw [e]; rfl
  refine ⟨fun v => ?_, fun x ha hb => ?_, fun j => ?_, ?_⟩
  · have hpair (v : Tier) : y.pair v = s.pair v := by rw [hyframe]; rfl
    rw [e]
    refine (State.modPair_pair y u _ v).trans ?_
    rw [hpair, hpair]
  · rw [htaxis, hyaxis, if_neg hb, if_neg ha]
  · rw [htaxis, hyaxis]
    cases j with
    | A => exact (if_neg (jack_ne u)).trans (if_pos rfl)
    | B => exact if_pos rfl
  · rw [e, hyframe]
    rfl

/-! ### Travel and stop -/

/-- Both jacks within their windows, read jack by jack (R83, R106). -/
theorem pairInWindow_iff (s : State) (u : Tier) (target : Int) : s.pairInWindow u target = true ↔
    ∀ j, ((s.pair u).latest.jack j).valid = true ∧
      (((s.pair u).latest.jack j).position - target).natAbs ≤ (s.axisRec (jackAxis u j)).window := by
  unfold State.pairInWindow inWindow
  simp only [Bool.and_eq_true, decide_eq_true_eq]
  exact ⟨fun ⟨ha, hb⟩ j => by cases j; exacts [ha, hb], fun h => ⟨h .A, h .B⟩⟩

/-- The shared profile of a travel order (R119). -/
def PairUnit.started (p : PairUnit) (target d : Int) (cls : SpeedClass) : PairUnit :=
  { p with
    phase := .travel, target := some target, demand := some d, v := 0, r := (target - d).natAbs, dir := dirTo d target
    cls := some cls, stopDecel := none }

/-- A jack at the start of its pair's travel (R119). -/
def AxisCtl.startedWith (x : AxisCtl) (target d : Int) (cap : Nat) : AxisCtl :=
  { x with
    phase := .travel, demand := d, v := 0, r := (target - d).natAbs, dir := dirTo d target, target := some target
    cap := some cap, stopDecel := none }

/-- A travel order of a pair before it asks whether there is anything to travel (R119). -/
theorem startTravel_eq (s : State) (u : Tier) (target : Int) (cls : SpeedClass) (d : Int)
    (hd : d = s.clampToTravel ⟨u, .A⟩ (((s.pair u).latest.a.position + (s.pair u).latest.b.position) / 2)) :
    ∃ x f, GroupMoved s x u ((s.pair u).started target d cls) f ∧ x = { s with axes := x.axes, pairs := x.pairs } ∧
      (∀ y, ∃ cap, f y = y.startedWith target d cap) ∧
      s.startTravel u target cls =
        if (target - d).natAbs = 0 ∨ (s.seq u).resettles = true ∧ s.pairInWindow u target = true then x.pairArrive u
        else x := by
  obtain ⟨cap, hcap⟩ : ∃ cap, cap = (s.modPair u fun p => p.started target d cls).capOf u := ⟨_, rfl⟩
  refine ⟨(s.modPair u fun p => p.started target d cls).modJacks u fun y => y.startedWith target d cap,
    fun y => y.startedWith target d cap, groupMoved_of .., rfl, fun y => ⟨cap, rfl⟩, ?_⟩
  rw [hcap, hd]
  rfl

/-- A travel order of a pair that arrives in its own event: there is nothing to travel, or a move resumed from SETTLE finds
both jacks within their windows (R83, R119). -/
def State.pairArrivesAt (s : State) (u : Tier) (target d : Int) : Prop :=
  d = target ∨ (∃ b, (s.seq u).slot = some b ∧ b.fromSettle = true) ∧
    ∀ j, ((s.pair u).latest.jack j).valid = true ∧
      (((s.pair u).latest.jack j).position - target).natAbs ≤ (s.axisRec (jackAxis u j)).window

/-- A travel order of a tier with a tilt group (R83, R119). -/
theorem startTravel_spec (s : State) (u : Tier) (target : Int) (cls : SpeedClass) (t : State)
    (ht : t = s.startTravel u target cls) (d : Int)
    (hd : d = s.clampToTravel ⟨u, .A⟩ (((s.pair u).latest.a.position + (s.pair u).latest.b.position) / 2)) :
    (∀ v, v ≠ u → t.pair v = s.pair v) ∧ (∀ x, x ≠ (⟨u, .A⟩ : Axis) → x ≠ ⟨u, .B⟩ → t.axis x = s.axis x) ∧
      TouchesOnlySeq { s with axes := t.axes, pairs := t.pairs } t u ∧
      ∃ q f, GroupMoved s t u q f ∧
        (s.pairArrivesAt u target d →
          q = ((s.pair u).started target d cls).arrived target ∧
          (∀ y, ∃ cap, f y = (y.startedWith target d cap).arrivedWith (s.pair u) target) ∧ ArrivalTaken s t u) ∧
        (¬s.pairArrivesAt u target d →
          q = (s.pair u).started target d cls ∧ (∀ y, ∃ cap, f y = y.startedWith target d cap) ∧
          t.seqs = s.seqs ∧ t.man = s.man) := by
  obtain ⟨x, f, hmoved, hframe, hf, e⟩ := startTravel_eq s u target cls d hd
  rw [← ht] at e
  have hcond : ((target - d).natAbs = 0 ∨ (s.seq u).resettles = true ∧ s.pairInWindow u target = true) ↔
      s.pairArrivesAt u target d :=
    or_congr (by omega) (and_congr (resettles_iff _) (pairInWindow_iff ..))
  by_cases hc : (target - d).natAbs = 0 ∨ (s.seq u).resettles = true ∧ s.pairInWindow u target = true
  · rw [if_pos hc] at e
    obtain ⟨hx, htouch, htaken⟩ := pairArrive_spec x u t e
    rw [hmoved.pair] at hx
    have hgoal : ((s.pair u).started target d cls).goal = target := rfl
    rw [hgoal] at hx
    have hall := hmoved.trans hx
    have hbehind : TouchesOnlySeq { s with axes := t.axes, pairs := t.pairs } t u := by
      rw [hframe] at htouch
      exact htouch
    refine ⟨hall.otherPairs, hall.otherAxes, hbehind, _, _, hall, fun _ => ?_, fun h => absurd (hcond.mp hc) h⟩
    refine ⟨rfl, fun y => ?_, htaken.congr ?_ ?_ rfl rfl fun _ => id⟩
    · obtain ⟨cap, hcap⟩ := hf y
      exact ⟨cap, congrArg (fun z : AxisCtl => z.arrivedWith (s.pair u) target) hcap⟩
    · rw [hframe]; rfl
    · rw [hframe]
  · rw [if_neg hc] at e
    rw [e]
    refine ⟨hmoved.otherPairs, hmoved.otherAxes, ?_, _, _, hmoved, fun h => absurd (hcond.mpr h) hc, fun _ => ?_⟩
    · refine ⟨fun v _ => ?_, ?_⟩
      · rw [hframe]
        exact ⟨rfl, rfl⟩
      · rw [hframe]
    · exact ⟨rfl, hf, by rw [hframe], by rw [hframe]⟩

/-- A stop order of a pair by its phase (R121). -/
theorem stopPair_spec (s : State) (u : Tier) (rate : StopRate) (t : State) (ht : t = s.stopPair u rate) (d : Nat)
    (hd : d = if rate = .a then s.groupA u else s.groupAQs u) :
    (∀ v, v ≠ u → t.pair v = s.pair v) ∧ (∀ x, x ≠ (⟨u, .A⟩ : Axis) → x ≠ ⟨u, .B⟩ → t.axis x = s.axis x) ∧
      TouchesOnlySeq { s with axes := t.axes, pairs := t.pairs } t u ∧
      (if (s.pair u).phase = .settle then RestTaken s t u ∧ ∀ j, JackAtRest t u j else t.seqs = s.seqs ∧ t.man = s.man) ∧
      t.pair u =
        match (s.pair u).phase with
        | .travel => { s.pair u with phase := .stopping, stopDecel := some d }
        | .settle => { s.pair u with phase := .still, v := 0, gather := ⟨.counting, .counting⟩ }
        | .stopping =>
          { s.pair u with
            stopDecel := if (s.pair u).stopDecel.getD 0 < d then some d else (s.pair u).stopDecel }
        | .idle | .lifting | .still | .setting => s.pair u := by
  have e : t =
      match (s.pair u).phase with
      | .travel =>
        (s.modPair u fun p => { p with phase := .stopping, stopDecel := some d }).modJacks u fun x =>
          { x with phase := .stopping, stopDecel := some d }
      | .settle => s.pairRest u
      | .stopping =>
        s.modPair u fun p => { p with stopDecel := if p.stopDecel.getD 0 < d then some d else p.stopDecel }
      | .still | .lifting | .setting | .idle => s := by
    rw [ht, hd]
    cases rate <;> rfl
  cases hp : (s.pair u).phase with
  | travel =>
    rw [hp] at e
    rw [e]
    have hm := groupMoved_of s u (fun p => { p with phase := .stopping, stopDecel := some d }) fun x =>
      { x with phase := .stopping, stopDecel := some d }
    exact ⟨hm.otherPairs, hm.otherAxes, .refl .., ⟨rfl, rfl⟩, hm.pair⟩
  | settle =>
    rw [hp] at e
    obtain ⟨h1, h2, h3, h4, h5, h6⟩ := pairRest_spec s u t e
    exact ⟨h2, h3, h4, (if_pos rfl).mpr ⟨h5, h6⟩, h1⟩
  | stopping =>
    have hst : s.pair u = { s.pair u with phase := .stopping } := by rw [← hp]
    rw [hp] at e
    rw [e]
    refine ⟨fun v hv => (State.modPair_pair ..).trans (if_neg hv), fun _ _ _ => rfl, .refl .., ⟨rfl, rfl⟩, ?_⟩
    rw [State.modPair_pair, if_pos rfl, hst]
  | idle | lifting | still | setting =>
    rw [hp] at e
    replace e : t = s := e
    rw [e]
    exact ⟨fun _ _ => rfl, fun _ _ _ => rfl, .refl .., ⟨rfl, rfl⟩, rfl⟩

/-! ### The fields behind an order -/

/-- What an apply or a trip order leaves of a pair and its jacks (R94, R118). -/
theorem pairApplied_fields {p q : PairUnit} {b : Bool} {P J : Prop} [Decidable P] (hq : q = p.appliedAs b) (hP : b = true ↔ P)
    (hJ : J) :
    q.target = none ∧ q.v = 0 ∧ q.r = 0 ∧ q.cls = none ∧ q.stopDecel = none ∧ q.phaseCount = 0 ∧ q.latest = p.latest ∧
      q.skew = p.skew ∧ q.degrade = p.degrade ∧ q.stowed = p.stowed ∧ q.phase = (if P then .idle else .setting) ∧ J := by
  rw [hq]
  refine ⟨rfl, rfl, rfl, rfl, rfl, rfl, rfl, rfl, rfl, rfl, ?_, hJ⟩
  unfold PairUnit.appliedAs
  simp only [hP]

theorem jackApplied_fields {x y : AxisCtl} {b : Bool} {P : Prop} [Decidable P] (hy : y = x.appliedAs b) (hP : b = true ↔ P) :
    (x.phase = .idle → y = x) ∧
      (x.phase ≠ .idle → y.released = false ∧ y.speed = 0 ∧ y.phase = if P then .idle else .setting) := by
  rw [hy]
  unfold AxisCtl.appliedAs
  refine ⟨fun h => if_pos h, fun h => ?_⟩
  rw [if_neg h]
  refine ⟨rfl, rfl, ?_⟩
  simp only [hP]

theorem applies_iff (u : Tier) (P : Prop) [Decidable P] :
    decide P = true ↔ (Instr.pairApplyOrder u = .pairTripOrder u ∨ P) := by simp

theorem trips_iff (u : Tier) (P : Prop) : true = true ↔ (Instr.pairTripOrder u = .pairTripOrder u ∨ P) := by simp

/-- What a travel order leaves of a pair and its jacks (R119). -/
theorem travelled_fields {s t : State} {u : Tier} {target d : Int} {cls : SpeedClass} {q : PairUnit} {f : AxisCtl → AxisCtl}
    (hmoved : GroupMoved s t u q f)
    (harrive : s.pairArrivesAt u target d →
      q = ((s.pair u).started target d cls).arrived target ∧
        (∀ y, ∃ cap, f y = (y.startedWith target d cap).arrivedWith (s.pair u) target) ∧ ArrivalTaken s t u)
    (hstart : ¬s.pairArrivesAt u target d →
      q = (s.pair u).started target d cls ∧ (∀ y, ∃ cap, f y = y.startedWith target d cap) ∧
        t.seqs = s.seqs ∧ t.man = s.man) {near : Prop}
    (hnear : near = ((∃ b, (s.seq u).slot = some b ∧ b.fromSettle = true) ∧
      ∀ j, ((s.pair u).latest.jack j).valid = true ∧
        (((s.pair u).latest.jack j).position - target).natAbs ≤ (s.axisRec (jackAxis u j)).window)) :
    (t.pair u).v = 0 ∧ (t.pair u).target = some target ∧ (t.pair u).cls = some cls ∧ (t.pair u).stopDecel = none ∧
      (d < target → (t.pair u).dir = .up) ∧ (target < d → (t.pair u).dir = .down) ∧
      (d = target ∨ near →
        (t.pair u).demand = some target ∧ (t.pair u).r = 0 ∧
        (t.pair u).phase = (if (s.pair u).served = .jog then .still else .settle) ∧ ArrivalTaken s t u) ∧
      (d ≠ target → ¬near →
        (t.pair u).demand = some d ∧ (t.pair u).r = (target - d).natAbs ∧ (t.pair u).phase = .travel ∧
        t.seqs = s.seqs ∧ t.man = s.man) ∧
      ∀ j, some (t.axis (jackAxis u j)).demand = (t.pair u).demand ∧ (t.axis (jackAxis u j)).v = 0 ∧
        (t.axis (jackAxis u j)).target = some target ∧ (t.axis (jackAxis u j)).phase = (t.pair u).phase := by
  have hat : s.pairArrivesAt u target d ↔ d = target ∨ near := by
    rw [hnear]
    exact Iff.rfl
  have hup : d < target → dirTo d target = .up := fun h => if_pos h.le
  have hdown : target < d → dirTo d target = .down := fun h => if_neg (by omega)
  rw [hmoved.pair]
  by_cases h : s.pairArrivesAt u target d
  · obtain ⟨hq, hf, htaken⟩ := harrive h
    rw [hq]
    refine ⟨rfl, rfl, rfl, rfl, hup, hdown, fun _ => ⟨rfl, rfl, rfl, htaken⟩,
      fun h1 h2 => absurd (hat.mp h) (not_or.mpr ⟨h1, h2⟩), fun j => ?_⟩
    obtain ⟨cap, hc⟩ := hf (s.axis (jackAxis u j))
    rw [hmoved.jack, hc]
    exact ⟨rfl, rfl, rfl, rfl⟩
  · obtain ⟨hq, hf, hseqs, hman⟩ := hstart h
    rw [hq]
    refine ⟨rfl, rfl, rfl, rfl, hup, hdown, fun hn => absurd (hat.mpr hn) h, fun _ _ => ⟨rfl, rfl, rfl, hseqs, hman⟩,
      fun j => ?_⟩
    obtain ⟨cap, hc⟩ := hf (s.axis (jackAxis u j))
    rw [hmoved.jack, hc]
    exact ⟨rfl, rfl, rfl, rfl⟩

/-! ### O51 -/

/-- Settles O51, order by order. -/
theorem ordersMeetAPair : Obligations.OrdersMeetAPair := by
  unfold Obligations.OrdersMeetAPair
  intro u s hs
  refine ⟨fun served => ?_, fun c hc => ?_, fun target cls => ?_, fun rate => ?_⟩
  · have he := exec_live (f := fun s => s.releasePair u served) (.pairReleaseOrder u served) (execPairReleaseOrder.eq_1 ..) hs
    by_cases h : (s.tier u).tilt.isSome = true ∧ ((s.pair u).phase = .idle ∨ (s.pair u).phase = .setting)
    · obtain ⟨h1, h2, h3, h4, h5⟩ := releasePair_spec (s := s.taken _) served h _ rfl
      refine ⟨_, he, fun v hv => (h1 v).trans (if_neg hv), h2, ?_⟩
      rw [if_pos h]
      exact ⟨(h1 u).trans (if_pos rfl), h3, h4, h5⟩
    · refine ⟨_, he.trans (congrArg _ (if_neg h)), fun _ _ => rfl, fun _ _ _ => rfl, ?_⟩
      rw [if_neg h]
  · obtain rfl | rfl := hc
    · have he := exec_live (f := fun s => s.applyPair u) (.pairApplyOrder u) (execPairApplyOrder.eq_1 ..) hs
      by_cases h : (s.pair u).phase = .idle
      · refine ⟨_, he.trans (congrArg _ (if_pos h)), fun _ _ => rfl, fun _ _ _ => rfl, rfl, ?_⟩
        rw [if_pos h]
      · obtain ⟨h1, h2, h3, h4⟩ := applyPair_spec (s := s.taken _) h _ rfl
        refine ⟨_, he, fun v hv => (h1 v).trans (if_neg hv), h2, h4, ?_⟩
        rw [if_neg h]
        exact pairApplied_fields ((h1 u).trans (if_pos rfl)) (applies_iff ..) fun j => jackApplied_fields (h3 j) (applies_iff ..)
    · have he := exec_live (f := fun s => s.tripPair u) (.pairTripOrder u) (execPairTripOrder.eq_1 ..) hs
      by_cases h : (s.pair u).phase = .idle
      · refine ⟨_, he.trans (congrArg _ (if_pos h)), fun _ _ => rfl, fun _ _ _ => rfl, rfl, ?_⟩
        rw [if_pos h]
      · obtain ⟨h1, h2, h3, h4⟩ := tripPair_spec (s := s.taken _) h _ rfl
        refine ⟨_, he, fun v hv => (h1 v).trans (if_neg hv), h2, h4, ?_⟩
        rw [if_neg h]
        exact pairApplied_fields ((h1 u).trans (if_pos rfl)) (trips_iff ..) fun j => jackApplied_fields (h3 j) (trips_iff ..)
  · have he := exec_live (f := fun s => s.travelPair u target cls) (.pairTravelOrder u target cls)
      (execPairTravelOrder.eq_1 ..) hs
    by_cases ht : (s.tier u).tilt.isSome = true
    · replace he := he.trans (congrArg _ (if_pos ht))
      have hspec := startTravel_spec (s.taken (.pairTravelOrder u target cls)) u target cls _ rfl
      obtain ⟨h1, h2, h3, -⟩ := hspec _ rfl
      refine ⟨_, he, h1, h2, h3, (fun hn => by rw [hn] at ht; cases ht), fun _ d hd near hnear => ?_⟩
      obtain ⟨-, -, -, q, f, hmoved, harrive, hstart⟩ := hspec d hd
      exact travelled_fields hmoved harrive hstart hnear
    · refine ⟨_, he.trans (congrArg _ (if_neg ht)), fun _ _ => rfl, fun _ _ _ => rfl, .refl .., fun _ => rfl,
        fun h => absurd h ht⟩
  · have he := exec_live (f := fun s => s.stopPair u rate) (.pairStopOrder u rate) (execPairStopOrder.eq_1 ..) hs
    obtain ⟨h1, h2, h3, h4, -⟩ := stopPair_spec (s.taken _) u rate _ rfl _ rfl
    exact ⟨_, he, h1, h2, h3, h4, fun d hd => (stopPair_spec (s.taken _) u rate _ rfl d hd).2.2.2.2⟩

end Sys2Proof.Machine

/-! SUPPORT. Pair updates and jack reports, and O52 (R112 to R122). -/

namespace Sys2Proof.Machine

open Sys2Proof

/-! ### One pair update -/

/-- A sequencer that acts behind steps of its pair alone. -/
theorem touches_behind_modPair {s t : State} {u : Tier} {f : PairUnit → PairUnit}
    (h : TouchesOnlySeq { s.modPair u f with axes := t.axes, pairs := t.pairs } t u) :
    TouchesOnlySeq { s with axes := t.axes, pairs := t.pairs } t u := h

/-- A profile step of the pair in TRAVEL (R98, R119, R120). -/
theorem updatePair_travel {s : State} {u : Tier} (h : (s.pair u).phase = .travel) (hv : (s.pair u).bothValid = true) (t : State)
    (ht : t = s.updatePair u) (m : Motion) (hm : m = profileStep (s.groupA u) (s.capOf u) (s.pair u).dir (s.pair u).motion) :
    (∀ v, v ≠ u → t.pair v = s.pair v) ∧ (∀ x, x ≠ (⟨u, .A⟩ : Axis) → x ≠ ⟨u, .B⟩ → t.axis x = s.axis x) ∧
      TouchesOnlySeq { s with axes := t.axes, pairs := t.pairs } t u ∧
      (t.pair u).r = m.r ∧ (t.pair u).v = m.v ∧
      (m.r ≠ 0 → (t.pair u).demand = some m.demand ∧ (t.pair u).phase = .travel ∧
        t = { s with pairs := t.pairs }) ∧
      (m.r = 0 → (t.pair u).phase = (if (s.pair u).served = .jog then .still else .settle) ∧ ArrivalTaken s t u) := by
  have hstop : m.r = 0 → m.v = 0 := fun h0 => by
    rw [hm] at h0 ⊢
    exact if_pos h0
  have e : t = if m.r = 0 then (s.modPair u fun p => p.withMotion m).pairArrive u else s.modPair u fun p => p.withMotion m := by
    rw [ht, hm]
    unfold State.updatePair
    simp only [h, hv, if_true]
  have hpair (v : Tier) : (s.modPair u fun p => p.withMotion m).pair v = if v = u then (s.pair u).withMotion m else s.pair v :=
    State.modPair_pair ..
  by_cases h0 : m.r = 0
  · rw [if_pos h0] at e
    obtain ⟨hg, htouch, htaken⟩ := pairArrive_spec _ u t e
    rw [(hpair u).trans (if_pos rfl)] at hg
    refine ⟨fun v hv => (hg.otherPairs v hv).trans ((hpair v).trans (if_neg hv)), hg.otherAxes,
      touches_behind_modPair htouch, ?_, ?_, fun hn => absurd h0 hn, fun _ => ⟨?_, ?_⟩⟩
    · rw [hg.pair, h0]
      rfl
    · rw [hg.pair, hstop h0]
      rfl
    · rw [hg.pair]
      rfl
    · exact htaken.congr rfl rfl rfl rfl fun _ => id
  · rw [if_neg h0] at e
    rw [e]
    refine ⟨fun v hv => (hpair v).trans (if_neg hv), fun _ _ _ => rfl, .refl .., ?_, ?_, fun _ => ⟨?_, ?_, rfl⟩,
      fun hn => absurd hn h0⟩
    all_goals rw [(hpair u).trans (if_pos rfl)]
    · rfl
    · rfl
    · rfl
    · exact h

/-- A stop step of the pair in STOPPING (R99, R121). -/
theorem updatePair_stopping {s : State} {u : Tier} (h : (s.pair u).phase = .stopping) (hv : (s.pair u).bothValid = true)
    (t : State) (ht : t = s.updatePair u) (m : Motion)
    (hm : m = stopStep ((s.pair u).stopDecel.getD 1) (s.pair u).dir (s.pair u).motion) :
    (∀ v, v ≠ u → t.pair v = s.pair v) ∧ (∀ x, x ≠ (⟨u, .A⟩ : Axis) → x ≠ ⟨u, .B⟩ → t.axis x = s.axis x) ∧
      TouchesOnlySeq { s with axes := t.axes, pairs := t.pairs } t u ∧
      (t.pair u).demand = some m.demand ∧ (t.pair u).v = m.v ∧ (t.pair u).r = m.r ∧
      (t.pair u).phase = (if m.v = 0 then .still else .stopping) ∧
      (if m.v = 0 then RestTaken s t u ∧ ∀ j, JackAtRest t u j else t.seqs = s.seqs ∧ t.man = s.man) := by
  have e : t = if m.v = 0 then (s.modPair u fun p => p.withMotion m).pairRest u else s.modPair u fun p => p.withMotion m := by
    rw [ht, hm]
    unfold State.updatePair
    simp only [h, hv, if_true]
  have hpair (v : Tier) : (s.modPair u fun p => p.withMotion m).pair v = if v = u then (s.pair u).withMotion m else s.pair v :=
    State.modPair_pair ..
  by_cases h0 : m.v = 0
  · rw [if_pos h0] at e
    obtain ⟨h1, h2, h3, h4, h5, h6⟩ := pairRest_spec _ u t e
    rw [(hpair u).trans (if_pos rfl)] at h1
    rw [h1, if_pos h0, if_pos h0]
    exact ⟨fun v hv => (h2 v hv).trans ((hpair v).trans (if_neg hv)), h3, touches_behind_modPair h4, rfl, h0.symm, rfl, rfl,
      h5.congr rfl rfl rfl rfl fun _ => id, h6⟩
  · rw [if_neg h0] at e
    rw [e, (hpair u).trans (if_pos rfl), if_neg h0, if_neg h0]
    exact ⟨fun v hv => (hpair v).trans (if_neg hv), fun _ _ _ => rfl, .refl .., rfl, rfl, rfl, h, rfl, rfl⟩

/-- A count of the pair in LIFTING (R118). -/
theorem updatePair_lifting {s : State} {u : Tier} (h : (s.pair u).phase = .lifting) (t : State) (ht : t = s.updatePair u) :
    (∀ v, t.pair v = if v = u then { s.pair u with phaseCount := (s.pair u).phaseCount + 1 } else s.pair v) ∧
      t = { s with pairs := t.pairs, mail := t.mail } ∧
      ((s.pair u).phaseCount + 1 = s.pairLift u → Instr.pairLiftComplete u ∈ t.mail) := by
  have e : t = if (s.pair u).phaseCount + 1 = s.pairLift u then
      (s.modPair u fun p => { p with phaseCount := p.phaseCount + 1 }).emit (.pairLiftComplete u)
      else s.modPair u fun p => { p with phaseCount := p.phaseCount + 1 } := by
    rw [ht]
    unfold State.updatePair
    simp only [h]
  have hpair (v : Tier) := State.modPair_pair s u (fun p => { p with phaseCount := p.phaseCount + 1 }) v
  by_cases h0 : (s.pair u).phaseCount + 1 = s.pairLift u
  · rw [if_pos h0] at e
    rw [e]
    exact ⟨hpair, rfl, fun _ => List.mem_append_right _ List.mem_cons_self⟩
  · rw [if_neg h0] at e
    rw [e]
    exact ⟨hpair, rfl, fun h => absurd h h0⟩

/-- A count of the pair in SETTING (R118). -/
theorem updatePair_setting {s : State} {u : Tier} (h : (s.pair u).phase = .setting) (t : State) (ht : t = s.updatePair u) :
    (∀ v, v ≠ u → t.pair v = s.pair v) ∧ t = { s with pairs := t.pairs, mail := t.mail } ∧
      (t.pair u).phaseCount = (s.pair u).phaseCount + 1 ∧
      (s.pairSet u ≤ (s.pair u).phaseCount + 1 →
        (t.pair u).phase = .idle ∧ (t.pair u).served = .none ∧ Instr.pairSetComplete u ∈ t.mail) := by
  have e : t = if s.pairSet u ≤ (s.pair u).phaseCount + 1 then
      (s.modPair u fun p => { p with phaseCount := p.phaseCount + 1, phase := .idle, served := .none }).emit (.pairSetComplete u)
      else s.modPair u fun p => { p with phaseCount := p.phaseCount + 1 } := by
    rw [ht]
    unfold State.updatePair
    simp only [h]
  by_cases h0 : s.pairSet u ≤ (s.pair u).phaseCount + 1
  · rw [if_pos h0] at e
    have hself : t.pair u = { s.pair u with phaseCount := (s.pair u).phaseCount + 1, phase := .idle, served := .none } := by
      rw [e]
      exact modPair_pair_self s u fun p => { p with phaseCount := p.phaseCount + 1, phase := .idle, served := .none }
    rw [hself]
    refine ⟨fun v hv => ?_, by rw [e]; rfl, rfl, fun _ => ⟨rfl, rfl, ?_⟩⟩
    · rw [e]
      exact (State.modPair_pair s u (fun p => { p with phaseCount := p.phaseCount + 1, phase := .idle, served := .none }) v).trans
        (if_neg hv)
    · rw [e]
      exact List.mem_append_right _ List.mem_cons_self
  · rw [if_neg h0] at e
    rw [e]
    exact ⟨fun v hv => (State.modPair_pair ..).trans (if_neg hv), rfl,
      congrArg PairUnit.phaseCount (modPair_pair_self s u fun p => { p with phaseCount := p.phaseCount + 1 }),
      fun h => absurd h h0⟩

/-- Elsewhere an update of the pair does nothing: IDLE, SETTLE, STILL, and without two valid positions TRAVEL and STOPPING. -/
theorem updatePair_still {s : State} {u : Tier}
    (h : (s.pair u).phase = .idle ∨ (s.pair u).phase = .settle ∨ (s.pair u).phase = .still ∨
      ((s.pair u).phase = .travel ∨ (s.pair u).phase = .stopping) ∧ (s.pair u).bothValid = false) :
    s.updatePair u = s := by
  unfold State.updatePair
  obtain h | h | h | ⟨h | h, hv⟩ := h
  · simp only [h]
  · simp only [h]
  · simp only [h]
  · simp only [h, hv, Bool.false_eq_true, if_false]
  · simp only [h, hv, Bool.false_eq_true, if_false]

/-! ### Skew and degrade -/

/-- From `s` to `t` the pair unit of tier `u` has become `p`, reports beyond it apart. -/
structure PairSet (s t : State) (u : Tier) (p : PairUnit) : Prop where
  pair : t.pair u = p
  others : ∀ v, v ≠ u → t.pair v = s.pair v
  frame : t = { s with pairs := t.pairs, mail := t.mail }
  sent : ∀ c ∈ s.mail, c ∈ t.mail

theorem PairSet.refl (s : State) (u : Tier) : PairSet s s u (s.pair u) := ⟨rfl, fun _ _ => rfl, rfl, fun _ => id⟩

theorem PairSet.trans {s t v : State} {u : Tier} {p q : PairUnit} (h : PairSet s t u p) (g : PairSet t v u q) : PairSet s v u q where
  pair := g.pair
  others w hw := (g.others w hw).trans (h.others w hw)
  frame := by rw [g.frame, h.frame]
  sent c hc := g.sent c (h.sent c hc)

theorem pairSet_modPair (s : State) (u : Tier) (f : PairUnit → PairUnit) : PairSet s (s.modPair u f) u (f (s.pair u)) :=
  ⟨modPair_pair_self .., fun _ hv => (State.modPair_pair ..).trans (if_neg hv), rfl, fun _ => id⟩

theorem PairSet.emit {s t : State} {u : Tier} {p : PairUnit} (h : PairSet s t u p) (c : Instr) : PairSet s (t.emit c) u p where
  pair := h.pair
  others := h.others
  frame := by
    have hf := h.frame
    unfold State.emit
    rw [hf]
  sent c hc := List.mem_append_left _ (h.sent c hc)

theorem PairSet.when {s t : State} {u : Tier} {p : PairUnit} (h : PairSet s t u p) (b : Bool) (c : State → Instr) :
    PairSet s (t.when b fun s => s.emit (c s)) u p ∧ (b = true → c t ∈ (t.when b fun s => s.emit (c s)).mail) := by
  unfold State.when
  split
  · exact ⟨h.emit _, fun _ => List.mem_append_right _ List.mem_cons_self⟩
  · next hb => exact ⟨h, fun hb' => absurd hb' hb⟩

theorem mem_when_emit {t : State} {m : Instr} (b : Bool) (c : State → Instr) (h : m ∈ t.mail) :
    m ∈ (t.when b fun s => s.emit (c s)).mail := by
  unfold State.when
  split
  · exact List.mem_append_left _ h
  · exact h

/-- The degrade evaluation (R116). -/
theorem evalDegrade_spec (s : State) (u : Tier) (g : TiltRec) (k : Int) :
    PairSet s (s.evalDegrade u g k) u { s.pair u with degrade := degradeAfter g.skewWarn (s.pair u).degrade k } ∧
      ((s.tier u).present = true → degradeAfter g.skewWarn (s.pair u).degrade k = true → (s.pair u).degrade = false →
        Instr.latchEvent (.tier u .degrade) ∈ (s.evalDegrade u g k).mail) := by
  have h := (pairSet_modPair s u fun p => { p with degrade := degradeAfter g.skewWarn (s.pair u).degrade k }).when
    (!(s.pair u).degrade && degradeAfter g.skewWarn (s.pair u).degrade k && (s.tier u).present)
    fun _ => .latchEvent (.tier u .degrade)
  exact ⟨h.1, fun hp ha hb => h.2 (by rw [ha, hb, hp]; rfl)⟩

/-- Whether the skew checks of a pair are made: a brake of it is released, with the contactor closed (R117). -/
def State.skewMade (s : State) (u : Tier) : Bool :=
  ((s.axis ⟨u, .A⟩).released || (s.axis ⟨u, .B⟩).released) && s.man.contactor

/-- A pair unit behind the skew checks of a present tier (R117). -/
def PairUnit.skewChecked (p : PairUnit) (g : TiltRec) (k : Int) (made : Bool) : PairUnit :=
  { p with
    markSkew := if made then decide (g.skewTrip * 256 ≤ k.natAbs) else p.markSkew
    markSevere := decide (2 * g.skewTrip * 256 ≤ k.natAbs) }

/-- The skew checks (R117). -/
theorem checkSkew_spec {s : State} {u : Tier} (hp : (s.tier u).present = true) (g : TiltRec) (k : Int) :
    PairSet s (s.checkSkew u g k) u ((s.pair u).skewChecked g k (s.skewMade u)) ∧
      ∀ c : Kind, (c = .skew ∧ ((s.pair u).skewChecked g k (s.skewMade u)).markSkew = true ∧ (s.pair u).markSkew = false ∨
          c = .skewSevere ∧ ((s.pair u).skewChecked g k (s.skewMade u)).markSevere = true ∧ (s.pair u).markSevere = false) →
        Instr.causeReport (s.skewCause u c k) ∈ (s.checkSkew u g k).mail := by
  obtain ⟨a, ha⟩ : ∃ a, a = markCheck (s.skewMade u) (decide (g.skewTrip * 256 ≤ k.natAbs)) (s.pair u).markSkew := ⟨_, rfl⟩
  obtain ⟨b, hb⟩ : ∃ b, b = markCheck true (decide (2 * g.skewTrip * 256 ≤ k.natAbs)) (s.pair u).markSevere := ⟨_, rfl⟩
  have hp1 : (s.pair u).skewChecked g k (s.skewMade u) = { s.pair u with markSkew := a.1, markSevere := b.1 } := by
    rw [ha, hb, markCheck_mark, markCheck_mark]
    rfl
  have h1 := (pairSet_modPair s u fun p => { p with markSkew := a.1, markSevere := b.1 }).when a.2
    fun s => .causeReport (s.skewCause u .skew k)
  have h2 := h1.1.when b.2 fun s => .causeReport (s.skewCause u .skewSevere k)
  have e : s.checkSkew u g k = ((s.modPair u fun p => { p with markSkew := a.1, markSevere := b.1 }).when a.2
      fun s => s.emit (.causeReport (s.skewCause u .skew k))).when b.2 fun s => s.emit (.causeReport (s.skewCause u .skewSevere k)) := by
    unfold State.checkSkew
    rw [hp, ha, hb]
    rfl
  rw [hp1, e]
  have hcause {t : State} (ht : t.pair u = { s.pair u with markSkew := a.1, markSevere := b.1 }) (c : Kind) :
      t.skewCause u c k = s.skewCause u c k := by
    unfold State.skewCause
    rw [ht]
  refine ⟨h2.1, fun c hc => ?_⟩
  obtain ⟨rfl, hm, ho⟩ | ⟨rfl, hm, ho⟩ := hc
  · have ha2 : a.2 = true := by
      rw [ha, markCheck_reported, ← ha, ho]
      simpa using hm
    have hmem := h1.2 ha2
    rw [hcause (modPair_pair_self ..)] at hmem
    exact mem_when_emit _ _ hmem
  · have hb2 : b.2 = true := by
      rw [hb, markCheck_reported, ← hb, ho]
      simpa using hm
    have hmem := h2.2 hb2
    rw [hcause h1.1.pair] at hmem
    exact hmem

theorem checkSkew_absent {s : State} {u : Tier} (hp : (s.tier u).present = false) (g : TiltRec) (k : Int) :
    s.checkSkew u g k = s := by
  unfold State.checkSkew
  rw [hp]
  rfl

/-! ### Stowed -/

/-- What a tier that is no longer stowed makes of its occupant (R76, R86). -/
def StowLostMeets (s t : State) (u : Tier) : Prop :=
  (∀ k, (s.seq u).jog = some k → (s.seq u).slot = none →
    if k.target = .rotation then JogMeets (s.seq u) t u k .stowLost .aqs else t.seq u = told (s.seq u)) ∧
  (∀ a, (s.seq u).slot = some a →
    if a.move.goal.kind = .rotate ∧ s.auth.mode = .run ∧
        (a.stage = .liftBrake ∨ a.stage = .travel ∨ a.stage = .settle) then
      t.seq u = told { s.seq u with slot := some { a with fixedEnd := some (a.fixedEnd.getD (.aborted, .stop)) } } ∧
      Instr.causeReport ⟨.stowLost, some u, none, .move a.move.number, none, none, none⟩ ∈ t.mail
    else t.seq u = told (s.seq u))

theorem StowLostMeets.congr {s s' t : State} {u : Tier} (h : StowLostMeets s t u) (hs : s'.seq u = s.seq u)
    (hm : s'.auth.mode = s.auth.mode) : StowLostMeets s' t u := by
  unfold StowLostMeets
  rw [hs, hm]
  exact h

theorem seqStowed_lost (s : State) (u : Tier) : StowLostMeets s ((s.seqStowed u false).seqReport u) u := by
  obtain ⟨hq, -, -, hm⟩ := seqReport_eq (s.seqStowed u false) u
  refine ⟨fun k hk hs => ?_, fun a ha => ?_⟩
  · have e : s.seqStowed u false = if k.target = .rotation then s.haltJog u .stowLost else s := by
      unfold State.seqStowed
      rw [hs, hk]
      rfl
    by_cases hr : k.target = .rotation
    · rw [if_pos hr] at e ⊢
      rw [e]
      exact haltJog_meets s u .stowLost hs hk
    · rw [if_neg hr] at e ⊢
      rw [hq, e]
  · have e : s.seqStowed u false = if a.move.goal.kind = .rotate ∧ s.inRun = true ∧
        (a.stage = .liftBrake ∨ a.stage = .travel ∨ a.stage = .settle) then s.losePosture u .stowLost .stop else s := by
      unfold State.seqStowed
      rw [ha]
      rfl
    have hiff : (a.move.goal.kind = .rotate ∧ s.inRun = true ∧
          (a.stage = .liftBrake ∨ a.stage = .travel ∨ a.stage = .settle)) ↔
        (a.move.goal.kind = .rotate ∧ s.auth.mode = .run ∧
          (a.stage = .liftBrake ∨ a.stage = .travel ∨ a.stage = .settle)) :=
      and_congr Iff.rfl (and_congr (inRun_iff s) Iff.rfl)
    by_cases hc : a.move.goal.kind = .rotate ∧ s.auth.mode = .run ∧
        (a.stage = .liftBrake ∨ a.stage = .travel ∨ a.stage = .settle)
    · rw [if_pos (hiff.mpr hc)] at e
      rw [if_pos hc]
      rw [e] at hq hm ⊢
      exact ⟨hq.trans (congrArg told (losePosture_seq ha _ _)), hm _ (mem_losePosture ha _ _)⟩
    · rw [if_neg (mt hiff.mp hc)] at e
      rw [if_neg hc, hq, e]

/-- The report of the stowed condition, when it differs from the one last reported (R76, R86, R122). -/
theorem reportStowed_meets (s : State) (u : Tier) (t : State) (ht : t = s.reportStowed u) :
    TouchesOnlySeq { s with pairs := t.pairs } t u ∧ (∀ v, v ≠ u → t.pair v = s.pair v) ∧
      t.pair u = { s.pair u with
        toldStowed := if (s.tier u).present then (s.pair u).stowed else (s.pair u).toldStowed } ∧
      (∀ c ∈ s.mail, c ∈ t.mail) ∧
      ((s.tier u).present = true → (s.pair u).stowed ≠ (s.pair u).toldStowed →
        Instr.stowedChangeReport u (s.pair u).stowed ∈ t.mail) ∧
      ((s.tier u).present = true → (s.pair u).stowed = false → (s.pair u).toldStowed = true → StowLostMeets s t u) := by
  by_cases h : (s.tier u).present = true ∧ (s.pair u).stowed ≠ (s.pair u).toldStowed
  · obtain ⟨x, hx⟩ : ∃ x, x = (s.modPair u fun p => { p with toldStowed := p.stowed }).emit
      (.stowedChangeReport u (s.pair u).stowed) := ⟨_, rfl⟩
    have e : t = (x.seqStowed u (s.pair u).stowed).seqReport u := by
      rw [ht, hx]
      exact if_pos (by rw [h.1, decide_eq_true h.2]; rfl)
    have hacts : SeqActs u x t := by
      rw [e]
      exact ((SeqActs.refl u x).seqStowed _).seqReport
    have hpairs : t.pairs = x.pairs := by rw [hacts.touches.2]
    have hpair (v : Tier) : t.pair v = (s.modPair u fun p => { p with toldStowed := p.stowed }).pair v := by
      unfold State.pair
      rw [hpairs, hx]
      rfl
    refine ⟨⟨fun v hv => ?_, ?_⟩, fun v hv => ?_, ?_, fun c hc => ?_, fun _ _ => ?_, fun _ hst _ => ?_⟩
    · obtain ⟨h1, h2⟩ := hacts.touches.1 v hv
      rw [hx] at h1 h2
      exact ⟨h1, h2⟩
    · have hframe := hacts.touches.2
      rw [hpairs]
      rw [hx] at hframe ⊢
      exact hframe
    · exact (hpair v).trans ((State.modPair_pair ..).trans (if_neg hv))
    · rw [hpair, if_pos h.1]
      exact modPair_pair_self ..
    · exact hacts.sent.subset (by rw [hx]; exact List.mem_append_left _ hc)
    · exact hacts.sent.subset (by rw [hx]; exact List.mem_append_right _ List.mem_cons_self)
    · rw [e, hst]
      exact (seqStowed_lost x u).congr (by rw [hx]; rfl) (by rw [hx]; rfl)
  · have e : t = s := by
      rw [ht]
      refine if_neg fun hc => h ?_
      rw [Bool.and_eq_true, decide_eq_true_eq] at hc
      exact hc
    rw [e]
    refine ⟨.refl .., fun _ _ => rfl, ?_, fun _ => id, fun hp hn => absurd ⟨hp, hn⟩ h, fun hp hst htold =>
      absurd ⟨hp, by rw [hst, htold]; decide⟩ h⟩
    have htold : (if (s.tier u).present = true then (s.pair u).stowed else (s.pair u).toldStowed) = (s.pair u).toldStowed := by
      split
      · next hp =>
        by_contra hn
        exact h ⟨hp, hn⟩
      · rfl
    rw [htold]

/-- The stowed decision (R122). -/
theorem decideStowed_meets (s : State) (u : Tier) (t : State) (ht : t = s.decideStowed u) :
    TouchesOnlySeq { s with pairs := t.pairs } t u ∧ (∀ v, v ≠ u → t.pair v = s.pair v) ∧
      t.pair u = { s.pair u with
        stowed := s.stowedNow u
        toldStowed := if (s.tier u).present then s.stowedNow u else (s.pair u).toldStowed } ∧
      (∀ c ∈ s.mail, c ∈ t.mail) ∧
      ((s.tier u).present = true → s.stowedNow u ≠ (s.pair u).toldStowed →
        Instr.stowedChangeReport u (s.stowedNow u) ∈ t.mail) ∧
      ((s.tier u).present = true → s.stowedNow u = false → (s.pair u).toldStowed = true → StowLostMeets s t u) := by
  obtain ⟨x, hx⟩ : ∃ x, x = s.modPair u fun p => { p with stowed := s.stowedNow u } := ⟨_, rfl⟩
  have hself : x.pair u = { s.pair u with stowed := s.stowedNow u } := by
    rw [hx]
    exact modPair_pair_self ..
  obtain ⟨h1, h2, h3, h4, h5, h6⟩ := reportStowed_meets x u t (by rw [ht, hx]; rfl)
  have htier : x.tier u = s.tier u := by rw [hx]; rfl
  rw [hself, htier] at h3 h5 h6
  refine ⟨?_, fun v hv => (h2 v hv).trans ?_, h3, fun c hc => h4 c (by rw [hx]; exact hc), h5, fun a b c => (h6 a b c).congr ?_ ?_⟩
  · rw [hx] at h1
    exact h1
  · rw [hx]
    exact (State.modPair_pair ..).trans (if_neg hv)
  · rw [hx]; rfl
  · rw [hx]; rfl

/-! ### A jack's report -/

/-- A pair unit with a jack's report and the skew found from it (R114). -/
def PairUnit.reported (p : PairUnit) (latest : Both Reported) : PairUnit :=
  { p with latest := latest, skew := skewOf latest }

/-- A pair unit behind the degrade and skew evaluations of a known skew (R116, R117). -/
def PairUnit.skewed (p : PairUnit) (g : TiltRec) (present made : Bool) : PairUnit :=
  match p.skew with
  | none => p
  | some k =>
    if present then { p with degrade := degradeAfter g.skewWarn p.degrade k }.skewChecked g k made
    else { p with degrade := degradeAfter g.skewWarn p.degrade k }

theorem skewed_none {p : PairUnit} (h : p.skew = none) (g : TiltRec) (present made : Bool) : p.skewed g present made = p := by
  unfold PairUnit.skewed
  split
  · rfl
  · next hk => cases h.symm.trans hk

theorem skewed_some {p : PairUnit} {k : Int} (h : p.skew = some k) (g : TiltRec) (present made : Bool) :
    p.skewed g present made =
      if present then { p with degrade := degradeAfter g.skewWarn p.degrade k }.skewChecked g k made
      else { p with degrade := degradeAfter g.skewWarn p.degrade k } := by
  unfold PairUnit.skewed
  split
  · next hk => cases h.symm.trans hk
  · next k' hk => rw [Option.some.inj (h.symm.trans hk)]

/-- The evaluations of a skew just found (R116, R117). -/
def State.evalSkew (s : State) (u : Tier) (g : TiltRec) : State :=
  match (s.pair u).skew with
  | none => s
  | some k => (s.evalDegrade u g k).checkSkew u g k

theorem evalSkew_spec (s : State) (u : Tier) (g : TiltRec) :
    PairSet s (s.evalSkew u g) u ((s.pair u).skewed g (s.tier u).present (s.skewMade u)) ∧
      ∀ k, (s.pair u).skew = some k → (s.tier u).present = true →
        (degradeAfter g.skewWarn (s.pair u).degrade k = true → (s.pair u).degrade = false →
          Instr.latchEvent (.tier u .degrade) ∈ (s.evalSkew u g).mail) ∧
        ∀ c : Kind, (c = .skew ∧ ((s.pair u).skewed g (s.tier u).present (s.skewMade u)).markSkew = true ∧ (s.pair u).markSkew = false ∨
            c = .skewSevere ∧ ((s.pair u).skewed g (s.tier u).present (s.skewMade u)).markSevere = true ∧
              (s.pair u).markSevere = false) →
          Instr.causeReport (s.skewCause u c k) ∈ (s.evalSkew u g).mail := by
  rcases hk : (s.pair u).skew with _ | k
  · have e : s.evalSkew u g = s := by
      unfold State.evalSkew
      rw [hk]
    rw [e, skewed_none hk]
    exact ⟨.refl s u, fun k h => by cases h⟩
  · have e : s.evalSkew u g = (s.evalDegrade u g k).checkSkew u g k := by
      unfold State.evalSkew
      rw [hk]
    rw [e, skewed_some hk]
    obtain ⟨hd, hdm⟩ := evalDegrade_spec s u g k
    obtain ⟨x, hx⟩ : ∃ x, x = s.evalDegrade u g k := ⟨_, rfl⟩
    rw [← hx] at hd hdm ⊢
    have hpres : (x.tier u).present = (s.tier u).present := by rw [hd.frame]; rfl
    have hmade : x.skewMade u = s.skewMade u := by rw [hd.frame]; rfl
    cases hp : (s.tier u).present with
    | false =>
      rw [checkSkew_absent (hpres.trans hp), if_neg Bool.false_ne_true]
      exact ⟨hd, fun _ _ h => by cases h⟩
    | true =>
      obtain ⟨hc, hcm⟩ := checkSkew_spec (hpres.trans hp) g k
      rw [hd.pair, hmade] at hc hcm
      rw [if_pos rfl]
      refine ⟨hd.trans hc, fun k' hk' _ => ?_⟩
      obtain rfl := Option.some.inj hk'
      refine ⟨fun ha hb => hc.sent _ (hdm hp ha hb), fun c h => ?_⟩
      have hcause : x.skewCause u c k = s.skewCause u c k := by
        unfold State.skewCause
        rw [hd.pair]
      rw [← hcause]
      exact hcm c h

theorem jackReported_none {s : State} {u : Tier} (h : (s.tier u).tilt = none) (j : Jack) (r : Reported) :
    s.jackReported u j r = s.modPair u fun p => { p with latest := (s.pair u).latest.setJack j r } := by
  unfold State.jackReported
  dsimp only
  rw [State.modPair_tier, h]

/-- A jack's report at a tier with a tilt group, evaluation by evaluation (R114 to R117, R122). -/
theorem jackReported_some {s : State} {u : Tier} {g : TiltRec} (h : (s.tier u).tilt = some g) (j : Jack) (r : Reported) :
    ∃ x y, PairSet s x u ((s.pair u).reported ((s.pair u).latest.setJack j r)) ∧ y = x.evalSkew u g ∧
      s.jackReported u j r = y.decideStowed u := by
  have h1 := pairSet_modPair s u fun p => { p with latest := (s.pair u).latest.setJack j r }
  have h2 := h1.trans (pairSet_modPair _ u fun p => { p with skew := skewOf ((s.pair u).latest.setJack j r) })
  rw [h1.pair] at h2
  refine ⟨_, _, h2, rfl, ?_⟩
  generalize hz : s.jackReported u j r = z
  unfold State.jackReported at hz
  dsimp only at hz
  rw [State.modPair_tier, h] at hz
  unfold State.evalSkew
  rw [h2.pair]
  exact hz.symm

end Sys2Proof.Machine

/-! SUPPORT. A jack's report as a whole, and O52. -/

namespace Sys2Proof.Machine

open Sys2Proof

/-- Degrade and skew evaluations leave the rest of the pair unit. -/
theorem skewed_keeps (p : PairUnit) (g : TiltRec) (present made : Bool) :
    p.skewed g present made = { p with
      degrade := (p.skewed g present made).degrade, markSkew := (p.skewed g present made).markSkew
      markSevere := (p.skewed g present made).markSevere } := by
  unfold PairUnit.skewed
  split
  · rfl
  · cases present <;> rfl

/-- Whether a tier with tilt group `g` is stowed, from its jacks' reports (R122). -/
theorem stowedNow_eq {s : State} {u : Tier} {g : TiltRec} (h : (s.tier u).tilt = some g) :
    s.stowedNow u =
      decide (((s.pair u).latest.a.valid = true ∧
          (s.pair u).latest.a.position ≤ 256 * (g.stow : Int) + (s.axisRec ⟨u, .A⟩).window) ∧
        ((s.pair u).latest.b.valid = true ∧
          (s.pair u).latest.b.position ≤ 256 * (g.stow : Int) + (s.axisRec ⟨u, .B⟩).window)) := by
  rw [Bool.eq_iff_iff, decide_eq_true_iff, stowedNow_iff, h]
  simp only [Option.some.injEq, forall_eq']
  exact ⟨fun hj => ⟨hj .A, hj .B⟩, fun ⟨ha, hb⟩ j => by cases j; exacts [ha, hb]⟩

/-- What a jack's report leaves of a tier with a tilt group (R114 to R117, R122). -/
structure JackMet (s t : State) (u : Tier) (g : TiltRec) (latest : Both Reported) : Prop where
  others : ∀ v, v ≠ u → t.pair v = s.pair v
  touches : TouchesOnlySeq { s with pairs := t.pairs } t u
  pair : ∃ stowed, stowed =
      decide ((latest.a.valid = true ∧ latest.a.position ≤ 256 * (g.stow : Int) + (s.axisRec ⟨u, .A⟩).window) ∧
        (latest.b.valid = true ∧ latest.b.position ≤ 256 * (g.stow : Int) + (s.axisRec ⟨u, .B⟩).window)) ∧
      t.pair u = { ((s.pair u).reported latest).skewed g (s.tier u).present (s.skewMade u) with
        stowed := stowed, toldStowed := if (s.tier u).present then stowed else (s.pair u).toldStowed } ∧
      ((s.tier u).present = true → stowed ≠ (s.pair u).toldStowed → Instr.stowedChangeReport u stowed ∈ t.mail) ∧
      ((s.tier u).present = true → stowed = false → (s.pair u).toldStowed = true → StowLostMeets s t u)
  skew : ∀ k, skewOf latest = some k → (s.tier u).present = true →
    (degradeAfter g.skewWarn (s.pair u).degrade k = true → (s.pair u).degrade = false →
      Instr.latchEvent (.tier u .degrade) ∈ t.mail) ∧
    ∀ c : Kind, (c = .skew ∧ (t.pair u).markSkew = true ∧ (s.pair u).markSkew = false ∨
        c = .skewSevere ∧ (t.pair u).markSevere = true ∧ (s.pair u).markSevere = false) →
      Instr.causeReport ⟨c, some u, some (jackAxis u (if 0 < k then .A else .B)), (s.pair u).served,
        if (s.pair u).phase = .travel ∨ (s.pair u).phase = .stopping then (s.pair u).demand else none,
        some (latest.jack (if 0 < k then .A else .B)).position, none⟩ ∈ t.mail

theorem jackReported_met {s : State} {u : Tier} {g : TiltRec} (h : (s.tier u).tilt = some g) (j : Jack) (r : Reported) :
    JackMet s (s.jackReported u j r) u g ((s.pair u).latest.setJack j r) := by
  obtain ⟨x, y, hx, hy, e⟩ := jackReported_some h j r
  obtain ⟨latest, hlatest⟩ : ∃ l, l = (s.pair u).latest.setJack j r := ⟨_, rfl⟩
  rw [← hlatest] at hx ⊢
  obtain ⟨hxy, hmail⟩ := evalSkew_spec x u g
  have hpres : (x.tier u).present = (s.tier u).present := by rw [hx.frame]; rfl
  have hmade : x.skewMade u = s.skewMade u := by rw [hx.frame]; rfl
  rw [← hy] at hxy hmail
  rw [hx.pair, hpres, hmade] at hxy hmail
  have hsy := hx.trans hxy
  obtain ⟨h1, h2, h3, h4, h5, h6⟩ := decideStowed_meets y u _ e
  have htier : y.tier u = s.tier u := by rw [hsy.frame]; rfl
  have hkeep := skewed_keeps ((s.pair u).reported latest) g (s.tier u).present (s.skewMade u)
  have hylatest : (y.pair u).latest = latest := by rw [hsy.pair, hkeep]; rfl
  have hytold : (y.pair u).toldStowed = (s.pair u).toldStowed := by rw [hsy.pair, hkeep]; rfl
  have hstowed := stowedNow_eq (htier ▸ h : (y.tier u).tilt = some g)
  rw [hylatest, show y.axisRec = s.axisRec by rw [hsy.frame]; rfl] at hstowed
  rw [htier, hytold, hsy.pair] at h3
  rw [htier, hytold] at h5 h6
  refine ⟨fun v hv => (h2 v hv).trans (hsy.others v hv), ?_, ⟨_, hstowed, h3, h5, fun a b c => ?_⟩, fun k hk hp => ?_⟩
  · rw [hsy.frame] at h1
    exact h1
  · exact (h6 a b c).congr (by rw [hsy.frame]; rfl) (by rw [hsy.frame])
  · obtain ⟨g1, g2⟩ := hmail k hk hp
    refine ⟨fun ha hb => h4 _ (g1 ha hb), fun c hc => h4 _ ?_⟩
    have hcause := g2 c (by rw [h3] at hc; exact hc)
    unfold State.skewCause at hcause
    rw [hx.pair] at hcause
    exact hcause

/-- What the skew found leaves of the marks (R115 to R117). -/
theorem skewed_marks {p q : PairUnit} {g : TiltRec} {present made : Bool} {latest : Both Reported}
    (hd : q.degrade = ((p.reported latest).skewed g present made).degrade)
    (hm : q.markSkew = ((p.reported latest).skewed g present made).markSkew)
    (hs : q.markSevere = ((p.reported latest).skewed g present made).markSevere) :
    (skewOf latest = none → q.degrade = p.degrade ∧ q.markSkew = p.markSkew ∧ q.markSevere = p.markSevere) ∧
    ∀ k, skewOf latest = some k → q.degrade = degradeAfter g.skewWarn p.degrade k ∧
      (present = true → q.markSevere = decide (2 * g.skewTrip * 256 ≤ k.natAbs) ∧
        q.markSkew = if made then decide (g.skewTrip * 256 ≤ k.natAbs) else p.markSkew) := by
  rw [hd, hm, hs]
  refine ⟨fun h => ?_, fun k h => ?_⟩
  · rw [skewed_none (p := p.reported latest) h]
    exact ⟨rfl, rfl, rfl⟩
  · rw [skewed_some (p := p.reported latest) h]
    cases present with
    | true => exact ⟨rfl, fun _ => ⟨rfl, rfl⟩⟩
    | false => exact ⟨rfl, fun h => by cases h⟩

/-- Settles O52: updates phase by phase, a jack's report by `jackReported_met`. -/
theorem pairUpdatesAndJackReports : Obligations.PairUpdatesAndJackReports := by
  unfold Obligations.PairUpdatesAndJackReports
  intro u s hs
  refine ⟨?_, fun j x b => ?_⟩
  · have he := exec_live (f := fun s => s.updatePair u) (.pairUpdate u) (execPairUpdate.eq_1 ..) hs
    have still (h : (s.pair u).phase = .idle ∨ (s.pair u).phase = .settle ∨ (s.pair u).phase = .still ∨
        ((s.pair u).phase = .travel ∨ (s.pair u).phase = .stopping) ∧ (s.pair u).bothValid = false) :
        exec (.pairUpdate u) s = .next (s.taken (.pairUpdate u)) :=
      he.trans (congrArg _ (updatePair_still (s := s.taken _) h))
    cases hp : (s.pair u).phase with
    | travel =>
      cases hv : (s.pair u).bothValid with
      | true =>
        have hspec := updatePair_travel (s := s.taken (.pairUpdate u)) hp hv _ rfl
        obtain ⟨h1, h2, h3, -⟩ := hspec _ rfl
        exact ⟨_, he, h1, h2, h3, fun m hm => (hspec m hm).2.2.2⟩
      | false => exact ⟨_, still (.inr (.inr (.inr ⟨.inl hp, hv⟩))), fun _ _ => rfl, fun _ _ _ => rfl, .refl .., rfl⟩
    | stopping =>
      cases hv : (s.pair u).bothValid with
      | true =>
        have hspec := updatePair_stopping (s := s.taken (.pairUpdate u)) hp hv _ rfl
        obtain ⟨h1, h2, h3, -⟩ := hspec _ rfl
        exact ⟨_, he, h1, h2, h3, fun m hm => (hspec m hm).2.2.2⟩
      | false => exact ⟨_, still (.inr (.inr (.inr ⟨.inr hp, hv⟩))), fun _ _ => rfl, fun _ _ _ => rfl, .refl .., rfl⟩
    | lifting =>
      obtain ⟨h1, h2, h3⟩ := updatePair_lifting (s := s.taken (.pairUpdate u)) hp _ rfl
      refine ⟨_, he, fun v hv => (h1 v).trans (if_neg hv), fun _ _ _ => by rw [h2]; rfl, ?_, ?_, ?_, ?_, h3⟩
      · rw [h2]; exact .refl ..
      · exact (h1 u).trans (if_pos rfl)
      · rw [h2]; rfl
      · rw [h2]; rfl
    | setting =>
      obtain ⟨h1, h2, h3, h4⟩ := updatePair_setting (s := s.taken (.pairUpdate u)) hp _ rfl
      refine ⟨_, he, h1, fun _ _ _ => by rw [h2]; rfl, ?_, h3, ?_, ?_, h4⟩
      · rw [h2]; exact .refl ..
      · rw [h2]; rfl
      · rw [h2]; rfl
    | idle => exact ⟨_, still (.inl hp), fun _ _ => rfl, fun _ _ _ => rfl, .refl .., rfl⟩
    | settle => exact ⟨_, still (.inr (.inl hp)), fun _ _ => rfl, fun _ _ _ => rfl, .refl .., rfl⟩
    | still => exact ⟨_, still (.inr (.inr (.inl hp))), fun _ _ => rfl, fun _ _ _ => rfl, .refl .., rfl⟩
  · have he := exec_live (f := fun s => s.jackReported u j ⟨x, b⟩) (.jackPositionReport u j x b)
      (execJackPositionReport.eq_1 ..) hs
    cases ht : (s.tier u).tilt with
    | none =>
      rw [jackReported_none (s := s.taken _) ht] at he
      have hpair := State.modPair_pair (s.taken (.jackPositionReport u j x b)) u
        (fun p => { p with latest := (s.pair u).latest.setJack j ⟨x, b⟩ })
      exact ⟨_, he, fun v hv => (hpair v).trans (if_neg hv), .refl ..,
        congrArg PairUnit.latest ((hpair u).trans (if_pos rfl)), (hpair u).trans (if_pos rfl)⟩
    | some g =>
      have hmet := jackReported_met (s := s.taken (.jackPositionReport u j x b)) ht j ⟨x, b⟩
      obtain ⟨t, htt⟩ : ∃ t, t = (s.taken (.jackPositionReport u j x b)).jackReported u j ⟨x, b⟩ := ⟨_, rfl⟩
      obtain ⟨latest, hl⟩ : ∃ l, l = (s.pair u).latest.setJack j ⟨x, b⟩ := ⟨_, rfl⟩
      rw [← htt] at hmet he
      change JackMet _ t u g ((s.pair u).latest.setJack j ⟨x, b⟩) at hmet
      rw [← hl] at hmet ⊢
      obtain ⟨stowed, hst, hpair, htold, hlost⟩ := hmet.pair
      have hkeep := skewed_keeps ((s.pair u).reported latest) g (s.tier u).present (s.skewMade u)
      have hlatest : (t.pair u).latest = latest := by
        rw [hpair]
        exact congrArg PairUnit.latest hkeep
      have hskew : (t.pair u).skew = skewOf latest := by
        rw [hpair]
        exact congrArg PairUnit.skew hkeep
      have hstowed : (t.pair u).stowed = stowed := by rw [hpair]
      obtain ⟨hnone, hsome⟩ := skewed_marks (p := s.pair u) (q := t.pair u) (g := g) (present := (s.tier u).present)
        (made := s.skewMade u) (latest := latest) (by rw [hpair]; rfl) (by rw [hpair]; rfl) (by rw [hpair]; rfl)
      refine ⟨t, he, hmet.others, hmet.touches, hlatest, ?_⟩
      dsimp only
      rw [hskew, hlatest, hstowed]
      refine ⟨rfl, hst, fun hp hne => ⟨?_, htold hp hne⟩, hlost, ?_⟩
      · rw [hpair]
        exact if_pos hp
      · cases hk : skewOf latest with
        | none => exact hnone hk
        | some k =>
          obtain ⟨hd, hmarks⟩ := hsome k hk
          refine ⟨hd, fun hp ha hb => (hmet.skew k hk hp).1 (hd ▸ ha) hb, fun hp => ⟨(hmarks hp).1, (hmarks hp).2, ?_⟩⟩
          exact (hmet.skew k hk hp).2

end Sys2Proof.Machine

/-! SUPPORT. The load monitor: slots, polls, misses, the overload check and TARE (O53). -/

namespace Sys2Proof.Machine

open Sys2Proof

/-! ### A cell changed -/

/-- From `s` to `t` nothing differs but the load monitor, the flag of a pass asked for and the reports in flight. -/
def OnlyLoad (s t : State) : Prop :=
  t = { s with mon := t.mon, arb := { s.arb with passRequested := t.arb.passRequested }, mail := t.mail }

/-- From `s` to `t` tier `u` has the cells `l`, with its figures found again, and its tare; no other tier is touched. -/
structure CellsFound (s t : State) (u : Tier) (l : List LoadCell) : Prop where
  cells : (t.loadOf u).cells = l
  tare : (t.loadOf u).tare = (s.loadOf u).tare
  found : FoundAgain s t u
  others : ∀ v, v ≠ u → t.loadOf v = s.loadOf v
  pollAt : t.mon.pollAt = s.mon.pollAt
  transaction : t.mon.transaction = s.mon.transaction
  recoveryOwed : t.mon.recoveryOwed = s.mon.recoveryOwed
  only : OnlyLoad s t

/-- What reads the figures of a tier before a recomputation reads neither its cells nor its tare. -/
theorem FoundAgain.congr {s x t : State} {u : Tier} {l : List LoadCell} {tare : Int} (h : FoundAgain x t u)
    (hload : x.loadOf u = { s.loadOf u with cells := l, tare := tare }) (htier : x.tier u = s.tier u) :
    FoundAgain s t u := by
  unfold FoundAgain at h ⊢
  rw [hload, htier] at h
  exact h

theorem recomputeLoad_only (s : State) (u : Tier) :
    OnlyLoad s (s.recomputeLoad u) ∧ (s.recomputeLoad u).mon.pollAt = s.mon.pollAt ∧
      (s.recomputeLoad u).mon.transaction = s.mon.transaction ∧
      (s.recomputeLoad u).mon.recoveryOwed = s.mon.recoveryOwed := by
  obtain ⟨-, -, -, -, -, hf⟩ := recomputeLoad_found s u
  unfold OnlyLoad
  rw [hf]
  exact ⟨rfl, rfl, rfl, rfl⟩

theorem updateCell_found (s : State) (u : Tier) (i : Nat) (f : LoadCell → LoadCell) :
    CellsFound s (s.updateCell u i f) u ((s.loadOf u).cells.modify i f) := by
  have hload := State.modLoad_loadOf s u fun l => { l with cells := l.cells.modify i f }
  unfold State.updateCell
  obtain ⟨hfound, hcells, htare, hothers, -, -⟩ :=
    recomputeLoad_found (s.modLoad u fun l => { l with cells := l.cells.modify i f }) u
  obtain ⟨honly, hpoll, htrans, howed⟩ := recomputeLoad_only (s.modLoad u fun l => { l with cells := l.cells.modify i f }) u
  have hu := (hload u).trans (if_pos rfl)
  exact {
    cells := hcells.trans (by rw [hu])
    tare := htare.trans (by rw [hu])
    found := FoundAgain.congr (s := s) hfound hu rfl
    others := fun v hv => (hothers v hv).trans ((hload v).trans (if_neg hv))
    pollAt := hpoll
    transaction := htrans
    recoveryOwed := howed
    only := honly }

/-! ### Cells and readings -/

/-- A cell that is there and changed is one place of the list set. -/
theorem modify_eq_set {l : List LoadCell} {i : Nat} {old : LoadCell} (h : l[i]? = some old) (f : LoadCell → LoadCell) :
    l.modify i f = l.set i (f old) := by
  rw [List.modify_eq_set_getElem?, h]
  rfl

/-- The reading of three bytes: 18 bits, two's complement, the low six of the last byte left out (R126). -/
theorem readingOf_eq (b1 b2 b3 : Byte) : readingOf b1 b2 b3 =
    ((b1.toNat * 1024 + b2.toNat * 4 + b3.toNat / 64 : Nat) : Int) - if 128 ≤ b1.toNat then 262144 else 0 := by
  have h1 := b1.isLt
  have h2 := b2.isLt
  have h3 := b3.isLt
  have hcat : (b1 ++ b2 ++ b3 : BitVec 24).toNat = b1.toNat * 65536 + b2.toNat * 256 + b3.toNat := by
    rw [BitVec.toNat_append, BitVec.toNat_append, ← Nat.shiftLeft_add_eq_or_of_lt h3,
      ← Nat.shiftLeft_add_eq_or_of_lt h2]
    simp only [Nat.shiftLeft_eq]
    omega
  have hnat : (((b1 ++ b2 ++ b3 : BitVec 24) >>> 6).setWidth 18).toNat =
      b1.toNat * 1024 + b2.toNat * 4 + b3.toNat / 64 := by
    rw [BitVec.toNat_setWidth, BitVec.toNat_ushiftRight, hcat, Nat.shiftRight_eq_div_pow]
    omega
  unfold readingOf
  rw [BitVec.toInt_eq_toNat_cond, hnat]
  split <;> split <;> omega

/-- A miss, as R128 states it. -/
theorem miss_eq (old : LoadCell) : old.miss = { old with
    misses := min 255 (old.misses + 1), saturated := old.reading.isSome && old.saturated
    state := if old.reading.isSome = true ∧ old.misses < 3 then .stale else .failed } := by
  obtain ⟨reading, saturated, misses, state⟩ := old
  cases reading with
  | none => simp [LoadCell.miss, Config.missMax]
  | some r =>
    have hlt : min 255 (misses + 1) < 4 ↔ misses < 3 := by omega
    simp [LoadCell.miss, Config.missMax, Config.failedMisses, hlt]

theorem polled_fault (c : LoadCell) {b1 b2 b3 : Byte} (h : b3.getLsbD 0 = true) :
    c.polled (.data b1 b2 b3) = c.miss := if_pos h

theorem polled_good (c : LoadCell) {b1 b2 b3 : Byte} (h : b3.getLsbD 0 = false) :
    c.polled (.data b1 b2 b3) = ⟨some ((b1.toNat * 1024 + b2.toNat * 4 + b3.toNat / 64 : Nat) -
      if 128 ≤ b1.toNat then 262144 else 0), b3.getLsbD 1, 0, .fresh⟩ :=
  (if_neg (by rw [h]; exact Bool.false_ne_true)).trans (by rw [LoadCell.good, readingOf_eq])

/-! ### Slots -/

theorem beginSlot_polls {s : State} (h : s.mon.recoveryOwed = false) : s.beginSlot = { s with
    mon :=
      match s.nextCell with
      | some c => { s.mon with pollAt := some c, transaction := .poll c.1 c.2 }
      | none => s.mon } := by
  unfold State.beginSlot
  rw [h]
  cases s.nextCell <;> rfl

/-- A slot spent on the recovery that is owed: the cell it takes counts a miss. -/
theorem beginSlot_recovers {s : State} (h : s.mon.recoveryOwed = true) :
    s.beginSlot.mon.transaction = .recovery ∧ s.beginSlot.mon.recoveryOwed = false ∧ OnlyLoad s s.beginSlot ∧
      ∀ c, s.nextCell = some c → s.beginSlot.mon.pollAt = some c ∧
        (s.beginSlot.loadOf c.1).cells = (s.loadOf c.1).cells.modify c.2 LoadCell.miss ∧
        (s.beginSlot.loadOf c.1).tare = (s.loadOf c.1).tare ∧ FoundAgain s s.beginSlot c.1 ∧
        ∀ v, v ≠ c.1 → s.beginSlot.loadOf v = s.loadOf v := by
  unfold State.beginSlot
  rw [h]
  cases hc : s.nextCell with
  | none => exact ⟨rfl, rfl, rfl, by simp⟩
  | some c =>
    have hu := updateCell_found
      (s.modMon fun m => { m with pollAt := some c, transaction := .recovery, recoveryOwed := false }) c.1 c.2 LoadCell.miss
    refine ⟨hu.transaction, hu.recoveryOwed, hu.only, fun d hd => ?_⟩
    obtain rfl := Option.some.inj hd
    exact ⟨hu.pollAt, hu.cells, hu.tare, hu.found, hu.others⟩

/-! ### The ends of a transaction -/

/-- The end of a poll, by its result or by a held bus: its cell is as the end leaves it. -/
theorem poll_ends {s : State} {u : Tier} {i : Nat} {old new : LoadCell} {c : Instr} (hs : s.held = false)
    (ht : s.mon.transaction = .poll u i) (hold : (s.loadOf u).cells[i]? = some old)
    (hend : (c = .busHeldLow ∧ new = old.miss) ∨ ∃ r, c = .pollEnd r ∧ new = old.polled r) :
    ∃ t, exec c s = .next t ∧ (t.loadOf u).cells = (s.loadOf u).cells.set i new ∧
      t.mon.transaction = .idle ∧ t.mon.recoveryOwed = (s.mon.recoveryOwed || decide (c = .busHeldLow)) ∧
      (∀ v, v ≠ u → t.loadOf v = s.loadOf v) ∧ (t.loadOf u).tare = (s.loadOf u).tare ∧
      FoundAgain s t u ∧ OnlyLoad s t := by
  obtain ⟨rfl, rfl⟩ | ⟨r, rfl, rfl⟩ := hend
  · have hu := updateCell_found (((s.taken .busHeldLow).endTransaction).modMon fun m => { m with recoveryOwed := true })
      u i LoadCell.miss
    refine ⟨_, (exec_live .busHeldLow (execBusHeldLow.eq_1 ..) hs).trans ?_, hu.cells.trans (modify_eq_set hold _),
      hu.transaction, ?_, hu.others, hu.tare, hu.found, hu.only⟩
    · have ht' : (s.taken .busHeldLow).mon.transaction = .poll u i := ht
      rw [ht']
    · exact hu.recoveryOwed.trans (by simp [State.endTransaction])
  · have hu := updateCell_found (s.taken (.pollEnd r)).endTransaction u i fun c => c.polled r
    refine ⟨_, (exec_live (.pollEnd r) (execPollEnd.eq_1 ..) hs).trans ?_, hu.cells.trans (modify_eq_set hold _),
      hu.transaction, ?_, hu.others, hu.tare, hu.found, hu.only⟩
    · have ht' : (s.taken (.pollEnd r)).mon.transaction = .poll u i := ht
      rw [ht']
    · exact hu.recoveryOwed.trans (by simp [State.endTransaction])

/-- What ends no running poll leaves the monitor. -/
theorem pollEnd_idle {s : State} (hs : s.held = false) (ht : s.mon.transaction = .idle ∨ s.mon.transaction = .recovery)
    {c : Instr} (hc : c = .busHeldLow ∨ ∃ r, c = .pollEnd r) : exec c s = .next (s.taken c) := by
  obtain rfl | ⟨r, rfl⟩ := hc
  · refine (exec_live .busHeldLow (execBusHeldLow.eq_1 ..) hs).trans ?_
    have ht' : (s.taken .busHeldLow).mon.transaction = .idle ∨ (s.taken .busHeldLow).mon.transaction = .recovery := ht
    obtain h | h := ht' <;> rw [h]
  · refine (exec_live (.pollEnd r) (execPollEnd.eq_1 ..) hs).trans ?_
    have ht' : (s.taken (.pollEnd r)).mon.transaction = .idle ∨ (s.taken (.pollEnd r)).mon.transaction = .recovery := ht
    obtain h | h := ht' <;> rw [h]

/-- The end of a poll whose cell is no longer configured. -/
theorem pollEnd_lost {s : State} (hs : s.held = false) (ht : s.mon.transaction = .lost) (r : PollResult) :
    exec (.pollEnd r) s =
      .next { s with mon := { s.mon with transaction := .idle }, mail := s.mail.erase (.pollEnd r) } := by
  refine (exec_live (.pollEnd r) (execPollEnd.eq_1 ..) hs).trans ?_
  have ht' : (s.taken (.pollEnd r)).mon.transaction = .lost := ht
  dsimp only
  rw [ht']
  rfl

theorem busHeldLow_lost {s : State} (hs : s.held = false) (ht : s.mon.transaction = .lost) :
    exec .busHeldLow s =
      .next { s with mon := { s.mon with transaction := .idle, recoveryOwed := true }, mail := s.mail.erase .busHeldLow } := by
  refine (exec_live .busHeldLow (execBusHeldLow.eq_1 ..) hs).trans ?_
  have ht' : (s.taken .busHeldLow).mon.transaction = .lost := ht
  dsimp only
  rw [ht']
  rfl

theorem busRecoveryEnd_ends {s : State} (hs : s.held = false) (ht : s.mon.transaction = .recovery) (low : Bool) :
    exec (.busRecoveryEnd low) s =
      .next { s with mon := { s.mon with transaction := .idle, recoveryOwed := low }
                     mail := s.mail.erase (.busRecoveryEnd low) } := by
  refine (exec_live (.busRecoveryEnd low) (execBusRecoveryEnd.eq_1 ..) hs).trans ?_
  have ht' : (s.taken (.busRecoveryEnd low)).mon.transaction = .recovery := ht
  dsimp only
  rw [ht']
  rfl

theorem busRecoveryEnd_idle {s : State} (hs : s.held = false) (ht : s.mon.transaction ≠ .recovery) (low : Bool) :
    exec (.busRecoveryEnd low) s = .next (s.taken (.busRecoveryEnd low)) := by
  refine (exec_live (.busRecoveryEnd low) (execBusRecoveryEnd.eq_1 ..) hs).trans ?_
  have ht' : (s.taken (.busRecoveryEnd low)).mon.transaction ≠ .recovery := ht
  cases h : (s.taken (.busRecoveryEnd low)).mon.transaction with
  | recovery => exact absurd h ht'
  | idle | lost => rfl
  | poll u i => rfl

/-! ### The overload check -/

/-- An entry into TRAVEL is checked at once (R135). -/
theorem travelMark_checked {s : State} (u : Tier) (n : Nat) {t : State}
    (ht : t = (s.modLoad u fun l => { l with inTravel := some n, overMark := false }).checkOverload u) :
    (t.loadOf u).inTravel = some n ∧ (∀ v, v ≠ u → t.loadOf v = s.loadOf v) ∧
      t = { s with mon := t.mon, mail := t.mail } ∧
      (t.loadOf u).overMark = decide (((s.tier u).overload : Int) < (s.loadOf u).net) ∧
      (((s.tier u).overload : Int) < (s.loadOf u).net →
        Instr.causeReport ⟨.overload, some u, none, .move n, none, none, some (s.loadOf u).net⟩ ∈ t.mail) := by
  have hload := State.modLoad_loadOf s u fun l => { l with inTravel := some n, overMark := false }
  have hu := (hload u).trans (if_pos rfl)
  obtain ⟨hown, hothers, hcause, -, hf⟩ :=
    checkOverload_found (s.modLoad u fun l => { l with inTravel := some n, overMark := false }) u
  rw [← ht, hu] at hown
  rw [hu] at hcause
  refine ⟨by rw [hown], fun v hv => ?_, ?_, by rw [hown]; rfl, fun h => ?_⟩
  · rw [ht, hothers v hv]
    exact (hload v).trans (if_neg hv)
  · rw [ht, hf]
    rfl
  · rw [ht]
    exact hcause n rfl h rfl

theorem travelMarkReport_taken {s : State} (hs : s.held = false) (u : Tier) (mark : Option Nat) :
    ∃ t, exec (.travelMarkReport u mark) s = .next t ∧ (t.loadOf u).inTravel = mark ∧
      (∀ v, v ≠ u → t.loadOf v = s.loadOf v) ∧ t = { s with mon := t.mon, mail := t.mail } ∧
      (∀ n, mark = some n → (t.loadOf u).overMark = decide (((s.tier u).overload : Int) < (s.loadOf u).net) ∧
        (((s.tier u).overload : Int) < (s.loadOf u).net →
          Instr.causeReport ⟨.overload, some u, none, .move n, none, none, some (s.loadOf u).net⟩ ∈ t.mail)) := by
  refine ⟨_, exec_live _ (execTravelMarkReport.eq_1 ..) hs, ?_⟩
  cases mark with
  | none =>
    have hload := State.modLoad_loadOf (s.taken (.travelMarkReport u none)) u fun l => { l with inTravel := none }
    exact ⟨congrArg TierLoad.inTravel ((hload u).trans (if_pos rfl)), fun v hv => (hload v).trans (if_neg hv), rfl,
      by simp⟩
  | some n =>
    obtain ⟨hmark, hothers, honly, hover, hcause⟩ :=
      travelMark_checked (s := s.taken (.travelMarkReport u (some n))) u n rfl
    refine ⟨hmark, hothers, honly, fun k hk => ?_⟩
    obtain rfl := Option.some.inj hk
    exact ⟨hover, hcause⟩

/-! ### TARE -/

theorem tareAnswer_of_holder {s : State} {q : Src} {u : Tier} (hm : s.auth.mode = .setup)
    (hq : s.auth.holder = some q.port) (hb : s.tierBusy u = false) (hv : (s.loadOf u).valid = true) :
    s.tareAnswer q (Idx8.num u) = (s.tareTier u).answer .ok (beSigned 4 (((s.loadOf u).cells.map fun x =>
      x.reading.getD 0).sum) ++ beBytes 1 ((s.loadOf u).cells.filter fun x => x.state == .stale).length) := by
  have hsetup : s.inSetup = true := (inSetup_iff s).2 hm
  have hholder : s.isHolder q = true := (isHolder_iff s q).2 hq
  simp only [State.tareAnswer, ofNat?_num, hsetup, hholder, hb, hv]
  rfl

theorem tareTier_spec (s : State) (u : Tier) :
    ((s.tareTier u).loadOf u).tare = ((s.loadOf u).cells.map fun x => x.reading.getD 0).sum ∧
      ((s.tareTier u).loadOf u).cells = (s.loadOf u).cells ∧ FoundAgain s (s.tareTier u) u ∧
      (∀ v, v ≠ u → (s.tareTier u).loadOf v = s.loadOf v) ∧ OnlyLoad s (s.tareTier u) := by
  have hload := State.modLoad_loadOf s u fun l => { l with tare := loadSum l.cells }
  have hu := (hload u).trans (if_pos rfl)
  obtain ⟨hfound, hcells, htare, hothers, -, -⟩ :=
    recomputeLoad_found (s.modLoad u fun l => { l with tare := loadSum l.cells }) u
  exact ⟨htare.trans (by rw [hu]; rfl), hcells.trans (by rw [hu]), FoundAgain.congr (s := s) hfound hu rfl,
    fun v hv => (hothers v hv).trans ((hload v).trans (if_neg hv)), (recomputeLoad_only _ u).1⟩

/-- TARE from the holder, of a tier at rest whose load is valid. -/
theorem tare_taken {s : State} {q : Src} {u : Tier} (hs : s.held = false) (hm : s.auth.mode = .setup)
    (hq : s.auth.holder = some q.port) (hb : s.tierBusy u = false) (hv : (s.loadOf u).valid = true) :
    ∃ t, exec (.tare q (Idx8.num u)) s = .next t ∧
      (t.loadOf u).tare = ((s.loadOf u).cells.map fun x => x.reading.getD 0).sum ∧
      (t.loadOf u).cells = (s.loadOf u).cells ∧
      (t.loadOf u).net = ((s.loadOf u).cells.map fun x => x.reading.getD 0).sum - (t.loadOf u).tare ∧
      FoundAgain s t u ∧ (∀ v, v ≠ u → t.loadOf v = s.loadOf v) ∧
      Replied s t q 0x2E .ok (beSigned 4 (t.loadOf u).tare ++
        beBytes 1 ((s.loadOf u).cells.filter fun x => x.state == .stale).length) ∧
      t = { s with
        mon := t.mon, arb := { s.arb with passRequested := t.arb.passRequested }, ports := t.ports, mail := t.mail } := by
  have hanswer := tareAnswer_of_holder (s := s.taken (.tare q (Idx8.num u))) hm hq hb hv
  obtain ⟨htare, hcells, hfound, hothers, honly⟩ := tareTier_spec (s.taken (.tare q (Idx8.num u))) u
  obtain ⟨t, ht, hports, hreplied, hsent⟩ := exec_replied (.tare q (Idx8.num u)) (execTare.eq_1 ..) hs hanswer
    (by rw [OnlyLoad] at honly; rw [honly]; rfl)
  obtain ⟨-, -, hload, -, -⟩ := hports.reads
  unfold OnlyPorts at hports
  have hpass : t.arb = ((s.taken (.tare q (Idx8.num u))).tareTier u).arb := by rw [hports]
  have hfound' : FoundAgain s t u :=
    FoundAgain.mono (s := s) hfound (hload u) (by rw [hpass]; exact id) hsent
  have htare' : (t.loadOf u).tare = ((s.loadOf u).cells.map fun x => x.reading.getD 0).sum := by
    rw [hload]
    exact htare
  have hcells' : (t.loadOf u).cells = (s.loadOf u).cells := by
    rw [hload]
    exact hcells
  refine ⟨t, ht, htare', hcells', ?_, hfound', fun v hv => (hload v).trans (hothers v hv), ?_, ?_⟩
  · rw [hfound'.2.1, hcells']
  · rw [htare']
    exact hreplied
  · unfold OnlyLoad at honly
    rw [hports, honly]
    rfl

/-- Settles O53: clause by clause, from what a changed cell, a slot, an end, a mark and a TARE leave. -/
theorem loadIsPolledTaredAndWatched : Obligations.LoadIsPolledTaredAndWatched := by
  unfold Obligations.LoadIsPolledTaredAndWatched
  intro s hs
  refine ⟨fun h => ⟨_, exec_live .pollSlot (execPollSlot.eq_1 ..) hs, ?_⟩,
    fun h => ⟨_, exec_live .pollSlot (execPollSlot.eq_1 ..) hs, ?_⟩,
    fun low h => ⟨_, busRecoveryEnd_ends hs h low, rfl⟩, fun u i old c new h hold hend => ?_,
    fun h => ⟨pollEnd_lost hs h, busHeldLow_lost hs h⟩, fun h _ => pollEnd_idle hs h,
    fun h => busRecoveryEnd_idle hs h, miss_eq, travelMarkReport_taken hs,
    fun q u hm hq hb hv => tare_taken hs hm hq hb hv⟩
  · exact beginSlot_polls (s := s.taken .pollSlot) h
  · obtain ⟨htrans, howed, honly, hcell⟩ := beginSlot_recovers (s := s.taken .pollSlot) h
    exact ⟨htrans, howed, honly, hcell⟩
  · refine poll_ends hs h hold ?_
    obtain ⟨rfl, rfl⟩ | ⟨rfl, rfl⟩ | ⟨b1, b2, b3, rfl, hb, rfl⟩ | ⟨b1, b2, b3, rfl, hb, rfl⟩ := hend
    · exact .inl ⟨rfl, rfl⟩
    · exact .inr ⟨_, rfl, rfl⟩
    · exact .inr ⟨_, rfl, (polled_fault old hb).symm⟩
    · exact .inr ⟨_, rfl, (polled_good old hb).symm⟩

end Sys2Proof.Machine

/-! SUPPORT. The plan executor: submission in step order, and the ends of a plan (O54, O55). -/

namespace Sys2Proof.Machine

open Sys2Proof

/-! ### Codes, conditions and events -/

theorem running_iff (p : Plans) : p.running = true ↔ p.state = .running ∨ p.state = .held := by
  simp [Plans.running]

theorem raisePlan_eq {s : State} {p : PlanNo} (h : s.plans.plan = some p) (d : PlanDetail) :
    s.raisePlan d = s.raise (.plan p s.plans.state d) := by
  unfold State.raisePlan
  rw [h]

/-- The PLAN event leaves everything but the reports in flight, which it joins. -/
theorem raisePlan_frame (s : State) (d : PlanDetail) :
    s.raisePlan d = { s with mail := (s.raisePlan d).mail } ∧ (∀ c ∈ s.mail, c ∈ (s.raisePlan d).mail) ∧
      ∀ p, s.plans.plan = some p → Instr.latchEvent (.plan p s.plans.state d) ∈ (s.raisePlan d).mail := by
  cases hp : s.plans.plan with
  | none =>
    have h : s.raisePlan d = s := by
      unfold State.raisePlan
      rw [hp]
    rw [h]
    exact ⟨rfl, fun _ h => h, by simp⟩
  | some p =>
    rw [raisePlan_eq hp]
    refine ⟨rfl, fun c hc => ?_, fun q hq => ?_⟩
    · simp [State.raise, State.emit_mail, hc]
    · obtain rfl := Option.some.inj hq
      simp [State.raise, State.emit_mail]

theorem storedGoal_eq_stepGoal (s : State) (x : PlanStep) : s.storedGoal x.tier x.goal = stepGoal s x := by
  unfold State.storedGoal stepGoal
  cases x.goal <;> cases (s.tier x.tier).tilt <;> rfl

theorem status_eq (p : Plans) (k : Nat) : p.status k = (p.steps[k - 1]?).map (·.status) := rfl

/-- The start condition of a step that the plan has (R141). -/
theorem conditionMet_iff {p : Plans} {k : Nat} {x : PlanStep} (hx : p.contents[k - 1]? = some x) (hk : 1 ≤ k)
    (hlen : k ≤ p.steps.length) : p.conditionMet k = true ↔ CondMet x p.steps k := by
  unfold Plans.conditionMet CondMet
  obtain rfl | hk' := Nat.eq_or_lt_of_le hk
  · simp
  have hprev : k - 1 - 1 < p.steps.length := by omega
  have hone : ¬ k ≤ 1 := by omega
  have hne : k ≠ 1 := by omega
  have htwo : k - 2 = k - 1 - 1 := by omega
  have hall : (p.steps.take (k - 1)).all StepRun.isDone = true ↔
      ∀ j < k - 1, (p.steps[j]?).map (·.status) = some .done := by
    rw [List.all_eq_true]
    refine ⟨fun h j hj => ?_, fun h y hy => ?_⟩
    · have hj' : j < p.steps.length := by omega
      rw [List.getElem?_eq_getElem hj']
      have := h p.steps[j] (List.mem_take_iff_getElem.2 ⟨j, by omega, rfl⟩)
      exact congrArg some (by simpa [StepRun.isDone] using this)
    · obtain ⟨j, hj, rfl⟩ := List.mem_take_iff_getElem.1 hy
      have := h j (by omega)
      rw [List.getElem?_eq_getElem (by omega)] at this
      simpa [StepRun.isDone] using this
  rw [if_neg hone, hx, htwo]
  simp only [status_eq, Option.map_some, List.getElem?_eq_getElem hprev, hne, false_or]
  cases x.cond with
  | barrier => exact hall
  | sequential => simp
  | parallel => cases (p.steps[k - 1 - 1]).status <;> simp [StepStatus.isSubmitted]

/-! ### One submission -/

/-- The record that a step's move has. -/
def State.stepRecord (s : State) (p : PlanNo) (k : Nat) (x : PlanStep) : MoveRec :=
  ⟨s.freshNumber, 0, x.tier, stepGoal s x, x.cls, .plan p k, s.clock, 0, none⟩

/-- A step submitted: its record at the tail of the pending list, its mark, and the next step. -/
def State.stepMarked (s : State) (p : PlanNo) (k : Nat) (x : PlanStep) : State :=
  ((s.appendMove (s.stepRecord p k x)).modStep k fun _ =>
    ⟨.submitted s.freshNumber, decide (stepGoal s x ≠ x.goal)⟩).modPlans fun c => { c with next := c.stepAfter k }

/-- A step submitted, with the PLAN event of a clamped target. -/
def State.stepGone (s : State) (p : PlanNo) (k : Nat) (x : PlanStep) : State :=
  (s.stepMarked p k x).when (decide (stepGoal s x ≠ x.goal)) fun s' => s'.raisePlan (.adjusted k (goalValue (stepGoal s x)))

theorem newRecord_step (s : State) (p : PlanNo) (k : Nat) (x : PlanStep) :
    s.newRecord x.tier x.goal x.cls 0 (.plan p k) = s.stepRecord p k x := by
  unfold State.newRecord State.stepRecord
  rw [storedGoal_eq_stepGoal]

/-- What one submission leaves. -/
structure Gone (s t : State) (p : PlanNo) (k : Nat) (x : PlanStep) : Prop where
  plans : t.plans = { s.plans with
    next := s.plans.stepAfter k
    steps := s.plans.steps.modify (k - 1) fun _ =>
      ⟨.submitted s.freshNumber, decide (stepGoal s x ≠ x.goal)⟩ }
  adm : t.adm = { s.adm with waiting := s.adm.waiting ++ [s.stepRecord p k x], lastNumber := s.freshNumber }
  frame : t = { s with
    plans := t.plans, adm := t.adm, arb := { s.arb with armed := true, passRequested := true }, mail := t.mail }
  kept : ∀ c ∈ s.mail, c ∈ t.mail
  adjusted : ∀ h, stepGoal s x = .tilt h → stepGoal s x ≠ x.goal →
    Instr.latchEvent (.plan p s.plans.state (.adjusted k h)) ∈ t.mail

theorem mem_appendMove_mail (s : State) (m : MoveRec) : ∀ c ∈ s.mail, c ∈ (s.appendMove m).mail := by
  intro c hc
  unfold State.appendMove State.listChanged
  exact mem_requestPass_mail (s := (s.modAdm _).modArb _) hc

theorem stepMarked_frame (s : State) (p : PlanNo) (k : Nat) (x : PlanStep) :
    s.stepMarked p k x = { s with
      plans := { s.plans with
        next := s.plans.stepAfter k
        steps := s.plans.steps.modify (k - 1) fun _ =>
          ⟨.submitted s.freshNumber, decide (stepGoal s x ≠ x.goal)⟩ }
      adm := { s.adm with waiting := s.adm.waiting ++ [s.stepRecord p k x], lastNumber := s.freshNumber }
      arb := { s.arb with armed := true, passRequested := true }, mail := (s.stepMarked p k x).mail } := by
  unfold State.stepMarked
  rw [appendMove_eq]
  rfl

theorem stepGone_gone {s : State} {p : PlanNo} (hp : s.plans.plan = some p) (k : Nat) (x : PlanStep) :
    Gone s (s.stepGone p k x) p k x := by
  have hmark := stepMarked_frame s p k x
  have hkept : ∀ c ∈ s.mail, c ∈ (s.stepMarked p k x).mail := mem_appendMove_mail s (s.stepRecord p k x)
  unfold State.stepGone
  generalize s.stepMarked p k x = y at hmark hkept
  unfold State.when
  split
  · obtain ⟨hframe, hmail, hevent⟩ := raisePlan_frame y (.adjusted k (goalValue (stepGoal s x)))
    dsimp only
    generalize y.raisePlan (.adjusted k (goalValue (stepGoal s x))) = t at hframe hmail hevent
    have hplans : t.plans = y.plans := by rw [hframe]
    have hadm : t.adm = y.adm := by rw [hframe]
    exact {
      plans := by rw [hplans, hmark]
      adm := by rw [hadm, hmark]
      frame := by rw [hframe, hmark]
      kept := fun c hc => hmail c (hkept c hc)
      adjusted := fun h hg _ => by
        have hrun : y.plans.state = s.plans.state := by rw [hmark]
        rw [hg, hrun] at hevent
        exact hevent p (by rw [hmark]; exact hp) }
  · next hadj =>
    exact {
      plans := by rw [hmark]
      adm := by rw [hmark]
      frame := by rw [hmark]
      kept := hkept
      adjusted := fun h _ hne => absurd (decide_eq_true hne) hadj }

/-! ### Admission's answer to a step -/

theorem StepSound.named {s : State} {x : PlanStep} (h : StepSound s x) : StepNamed s x := ⟨h.1, h.2.2⟩

/-- A step that is named fails admission on an inhibit or a full list alone. -/
theorem admissionFails_of_named {s : State} {x : PlanStep} (h : StepNamed s x) :
    s.admissionFails x.tier x.goal =
      if (s.seq x.tier).inhibit.isSome then some .interlock
      else if 32 ≤ s.adm.waiting.length then some .full else none := by
  obtain ⟨hpresent, hstation, htilt⟩ := h
  unfold State.admissionFails
  rw [if_neg (by simp [hpresent])]
  cases hg : x.goal with
  | rotate n =>
    have hn := hstation n hg
    refine (if_neg (by simp [Goal.kind])).trans (if_neg ?_)
    rw [Bool.not_eq_true, Option.isNone_eq_false_iff]
    exact hn
  | tilt h =>
    have ht := htilt h hg
    refine (if_neg fun hk => ?_).trans (if_neg Bool.false_ne_true)
    rw [Option.isNone_iff_eq_none] at hk
    rw [hk.2] at ht
    cases ht

/-- Admission takes the moves of a plan. -/
def PlanTakes (s : State) : Prop :=
  s.auth.mode = .run ∧ (s.man.state = .clear ∨ s.man.state = .holding ∨ s.man.state = .held)

theorem submitStep_eq {s : State} {p : PlanNo} {k : Nat} {x : PlanStep} (h : PlanTakes s) (hx : StepNamed s x) :
    s.submitStep p k x =
      if (s.seq x.tier).inhibit.isSome then (s, .refused .interlock)
      else if 32 ≤ s.adm.waiting.length then (s, .refused .full)
      else (s.appendMove (s.stepRecord p k x), .admitted (s.stepRecord p k x) (decide (stepGoal s x ≠ x.goal))) := by
  obtain ⟨hm, hstop⟩ := h
  have htakes : s.takesMove (.plan p k) = true := by
    unfold State.takesMove
    rw [(admitsMoves_iff _).2 hstop]
    rfl
  have hfails := admissionFails_of_named hx
  unfold State.submitStep
  rw [if_neg (by simp [(inRun_iff s).2 hm])]
  split
  · next hi =>
    rw [if_pos hi] at hfails
    unfold State.admitMove
    rw [if_neg (by simp [htakes]), hfails]
  · next hi =>
    rw [if_neg hi] at hfails
    split
    · next hr =>
      rw [if_pos hr] at hfails
      unfold State.admitMove
      rw [if_neg (by simp [htakes]), hfails]
    · next hr =>
      rw [if_neg hr] at hfails
      rw [admitMove_of_passes htakes hfails, newRecord_step, storedGoal_eq_stepGoal]

/-! ### Submission, case by case -/

/-- A submission is at step `k`, which is `x`, of the running plan `p`. -/
structure AtStep (s : State) (p : PlanNo) (k : Nat) (x : PlanStep) : Prop where
  running : s.plans.state = .running
  plan : s.plans.plan = some p
  next : s.plans.next = some k
  step : (s.plans.store.get p)[k - 1]? = some x

theorem AtStep.contents {s : State} {p : PlanNo} {k : Nat} {x : PlanStep} (h : AtStep s p k x) :
    s.plans.contents[k - 1]? = some x := by
  unfold Plans.contents
  rw [h.plan]
  exact h.step

/-- The step that a submission is at goes: it waits and is tried again, or its condition is met. -/
def StepGoes (s : State) (retry : Bool) (k : Nat) : Prop :=
  retry = true ∧ s.plans.status k = some .waitingRoom ∨ s.plans.conditionMet k = true

theorem runSteps_goes {s : State} {p : PlanNo} {k : Nat} {x : PlanStep} (h : AtStep s p k x) {retry : Bool}
    (hgoes : StepGoes s retry k) (fuel : Nat) :
    s.runSteps (fuel + 1) retry =
      match s.submitStep p k x with
      | (s1, .admitted m adjusted) =>
        let s2 := (s1.modStep k fun _ => ⟨.submitted m.number, adjusted⟩).modPlans fun c =>
          { c with next := c.stepAfter k }
        let s3 := s2.when adjusted fun s => s.raisePlan (.adjusted k (goalValue m.goal))
        s3.runSteps fuel retry
      | (s1, .refused .full) => s1.modStep k fun r => { r with status := .waitingRoom }
      | (s1, .refused st) =>
        (s1.modStep k fun r => { r with status := .endedBad none }).failPlan k (.refused st) := by
  have hif : ¬(!(retry && s.plans.status k == some .waitingRoom) && !s.plans.conditionMet k) = true := by
    obtain ⟨rfl, hw⟩ | hc := hgoes
    · simp [hw]
    · simp [hc]
  rw [State.runSteps, h.running, h.plan, h.next]
  dsimp only
  rw [h.contents]
  exact if_neg hif

theorem runSteps_submits {s : State} {p : PlanNo} {k : Nat} {x : PlanStep} (h : AtStep s p k x) {retry : Bool}
    (hgoes : StepGoes s retry k) (ht : PlanTakes s) (hx : StepSound s x) (hroom : s.adm.waiting.length < 32) (fuel : Nat) :
    s.runSteps (fuel + 1) retry = (s.stepGone p k x).runSteps fuel retry := by
  refine (runSteps_goes h hgoes fuel).trans ?_
  rw [submitStep_eq ht hx.named, if_neg (by simp [hx.2.1]), if_neg (by omega)]
  rfl

theorem runSteps_waits {s : State} {p : PlanNo} {k : Nat} {x : PlanStep} (h : AtStep s p k x) {retry : Bool}
    (hgoes : StepGoes s retry k) (ht : PlanTakes s) (hx : StepSound s x) (hroom : 32 ≤ s.adm.waiting.length) (fuel : Nat) :
    s.runSteps (fuel + 1) retry = s.modStep k fun r => { r with status := .waitingRoom } := by
  refine (runSteps_goes h hgoes fuel).trans ?_
  rw [submitStep_eq ht hx.named, if_neg (by simp [hx.2.1]), if_pos hroom]

theorem runSteps_refused {s : State} {p : PlanNo} {k : Nat} {x : PlanStep} (h : AtStep s p k x) {retry : Bool}
    (hgoes : StepGoes s retry k) (ht : PlanTakes s) (hx : StepNamed s x) (hi : (s.seq x.tier).inhibit ≠ none)
    (fuel : Nat) :
    s.runSteps (fuel + 1) retry =
      (s.modStep k fun r => { r with status := .endedBad none }).failPlan k (.refused .interlock) := by
  refine (runSteps_goes h hgoes fuel).trans ?_
  rw [submitStep_eq ht hx, if_pos (Option.isSome_iff_ne_none.2 hi)]

/-- A submission whose next step neither waits to be tried again nor has its condition met stops there. -/
theorem runSteps_stops {s : State} {p : PlanNo} {k : Nat} (hp : s.plans.plan = some p) (hn : s.plans.next = some k)
    {retry : Bool} (hgoes : ¬ StepGoes s retry k) (fuel : Nat) : s.runSteps fuel retry = s := by
  cases fuel with
  | zero => rfl
  | succ fuel =>
    have hif : (!(retry && s.plans.status k == some .waitingRoom) && !s.plans.conditionMet k) = true := by
      unfold StepGoes at hgoes
      push Not at hgoes
      obtain ⟨hw, hc⟩ := hgoes
      cases retry
      · simpa using hc
      · simpa using ⟨hw rfl, Bool.not_eq_true _ ▸ hc⟩
    rw [State.runSteps, hp, hn]
    split
    · next k' _ hk' =>
      cases hk'
      split
      · rfl
      · exact if_pos hif
    · rfl

theorem runSteps_not_running {s : State} (h : s.plans.state ≠ .running) (fuel : Nat) (retry : Bool) :
    s.runSteps fuel retry = s := by
  cases fuel with
  | zero => rfl
  | succ fuel =>
    rw [State.runSteps]
    split
    · next hr _ _ => exact absurd hr h
    · rfl

theorem runSteps_over {s : State} (h : s.plans.next = none) (fuel : Nat) (retry : Bool) :
    s.runSteps fuel retry = s := by
  cases fuel with
  | zero => rfl
  | succ fuel =>
    rw [State.runSteps, h]
    split
    · next hn => cases hn
    · rfl

end Sys2Proof.Machine

/-! SUPPORT. Plan steps submitted one after another (O54, O55). -/

namespace Sys2Proof.Machine

open Sys2Proof

/-! ### How far a submission reaches -/

theorem runLength_parallel {l : List PlanStep} {k : Nat} {y : PlanStep} (hy : l[k]? = some y) (hc : y.cond = .parallel) :
    runLength l k = 1 + runLength l (k + 1) := by
  obtain ⟨hk, rfl⟩ := List.getElem?_eq_some_iff.1 hy
  unfold runLength
  rw [List.drop_eq_getElem_cons hk, List.takeWhile_cons_of_pos (by simp [hc])]
  simp [Nat.add_comm]

theorem runLength_one {l : List PlanStep} {k : Nat} (h : ∀ y, l[k]? = some y → y.cond ≠ .parallel) :
    runLength l k = 1 := by
  unfold runLength
  cases hd : l.drop k with
  | nil => rfl
  | cons y rest =>
    have hy : l[k]? = some y := by
      rw [← List.head?_drop, hd]
      rfl
    rw [List.takeWhile_cons_of_neg (by simp [h y hy])]
    rfl

theorem stepSound_congr {s t : State} {x : PlanStep} (htables : t.tables = s.tables) (hseqs : t.seqs = s.seqs)
    (h : StepSound s x) : StepSound t x := by
  unfold StepSound State.stationAngle State.tier State.seq at *
  rw [htables, hseqs]
  exact h

theorem stepGoal_congr {s t : State} (htables : t.tables = s.tables) (x : PlanStep) : stepGoal t x = stepGoal s x := by
  unfold stepGoal State.tier
  rw [htables]

/-- The steps of a submission are its first, and with a PARALLEL step behind it those of the submission from there. -/
theorem RunSound.first {s : State} {l : List PlanStep} {k : Nat} {x : PlanStep} (h : RunSound s l k)
    (hx : l[k - 1]? = some x) : StepSound s x := by
  obtain ⟨hk, rfl⟩ := List.getElem?_eq_some_iff.1 hx
  refine h _ ?_
  rw [List.drop_eq_getElem_cons hk, runLength, Nat.add_comm, List.take_succ_cons]
  exact List.mem_cons_self

theorem RunSound.rest {s : State} {l : List PlanStep} {k : Nat} (hk : 1 ≤ k) (h : RunSound s l k)
    (hlen : k ≤ l.length) (hrun : runLength l k = 1 + runLength l (k + 1)) : RunSound s l (k + 1) := by
  intro y hy
  have hd : l.drop (k - 1) = l[k - 1] :: l.drop k := by
    have := List.drop_eq_getElem_cons (l := l) (i := k - 1) (by omega)
    rwa [Nat.sub_add_cancel hk] at this
  refine h y ?_
  rw [hd, hrun, Nat.add_comm, List.take_succ_cons]
  exact List.mem_cons_of_mem _ hy

/-! ### What a submission leaves -/

/-- From `s` to `t` the steps of plan `p` from step `k` on have been submitted; the rest of the part stands. -/
structure Submitted (s t : State) (p : PlanNo) (l : List PlanStep) (k : Nat) : Prop where
  steps : StepsSubmitted s t p l s.plans.steps k
  plans : t.plans = { s.plans with next := t.plans.next, steps := t.plans.steps }
  frame : t = { s with
    plans := t.plans, adm := t.adm
    arb := { s.arb with armed := t.arb.armed, passRequested := t.arb.passRequested }, mail := t.mail }
  kept : ∀ c ∈ s.mail, c ∈ t.mail
  marks : s.arb.armed = true → s.arb.passRequested = true → t.arb.armed = true ∧ t.arb.passRequested = true

/-- A submission that finds no room: its first step waits. -/
theorem submitted_waits {s : State} {p : PlanNo} {l : List PlanStep} {k : Nat} (hk : 1 ≤ k) (hn : s.plans.next = some k)
    (hlen : k ≤ s.plans.steps.length) (hroom : 32 ≤ s.adm.waiting.length) :
    Submitted s (s.modStep k fun r => { r with status := .waitingRoom }) p l k := by
  refine ⟨fun wanted gone hw hg => ?_, rfl, rfl, fun _ h => h, fun h1 h2 => ⟨h1, h2⟩⟩
  have hwanted : 0 < wanted := by
    rw [hw, runLength]
    omega
  obtain rfl : gone = 0 := by omega
  refine ⟨⟨[], rfl, (List.append_nil _).symm, by simp, rfl, by simp⟩, fun _ => ?_, ?_, fun i hi => ?_, ?_, rfl, by simp⟩
  · have hlt : k - 1 < s.plans.steps.length := by omega
    simp [State.modStep, hlt]
  · rw [if_pos (.inl hwanted)]
    exact hn
  · have hne : k - 1 ≠ i := by omega
    simp [State.modStep, hne]
  · simp [State.modStep]

theorem Gone.step_at {s t : State} {p : PlanNo} {k : Nat} {x : PlanStep} (h : Gone s t p k x) (hlen : k - 1 < s.plans.steps.length) :
    t.plans.steps[k - 1]? = some ⟨.submitted s.freshNumber, decide (stepGoal s x ≠ x.goal)⟩ := by
  rw [h.plans]
  simp [hlen]

theorem Gone.step_other {s t : State} {p : PlanNo} {k i : Nat} {x : PlanStep} (h : Gone s t p k x) (hi : k - 1 ≠ i) :
    t.plans.steps[i]? = s.plans.steps[i]? := by
  rw [h.plans]
  simp [hi]

theorem Gone.steps_length {s t : State} {p : PlanNo} {k : Nat} {x : PlanStep} (h : Gone s t p k x) :
    t.plans.steps.length = s.plans.steps.length := by
  rw [h.plans]
  simp

theorem Gone.reads {s t : State} {p : PlanNo} {k : Nat} {x : PlanStep} (h : Gone s t p k x) :
    t.tables = s.tables ∧ t.seqs = s.seqs ∧ t.clock = s.clock ∧ t.auth = s.auth ∧ t.man = s.man ∧
      t.arb = { s.arb with armed := true, passRequested := true } ∧ t.plans.state = s.plans.state ∧
      t.plans.plan = s.plans.plan ∧ t.plans.store = s.plans.store ∧ t.plans.next = s.plans.stepAfter k := by
  have hp := h.plans
  rw [h.frame]
  dsimp only
  rw [hp]
  exact ⟨rfl, rfl, rfl, rfl, rfl, rfl, rfl, rfl, rfl, rfl⟩

/-- A submission of one step. -/
theorem submitted_one {s t : State} {p : PlanNo} {l : List PlanStep} {k : Nat} {x : PlanStep} (h : Gone s t p k x)
    (hk : 1 ≤ k) (hx : l[k - 1]? = some x) (hlen : k ≤ s.plans.steps.length) (hl : s.plans.contents = l)
    (hr : s.plans.state = .running) (hroom : s.adm.waiting.length < 32) (hrun : runLength l k = 1) :
    Submitted s t p l k := by
  obtain ⟨-, -, -, -, -, harb, -, -, -, hnext⟩ := h.reads
  refine ⟨fun wanted gone hw hg => ?_, by rw [h.plans], ?_, h.kept, fun _ _ => by rw [harb]; exact ⟨rfl, rfl⟩⟩
  · obtain rfl : gone = 1 := by omega
    obtain rfl : wanted = 1 := by omega
    refine ⟨⟨[s.stepRecord p k x], rfl, by rw [h.adm], by simp [State.stepRecord], by rw [h.adm]; rfl,
      fun i m hm => ?_⟩, by simp, ?_, fun i hi => h.step_other (by omega), h.steps_length, by rw [h.adm],
      fun _ => by rw [harb]; exact ⟨rfl, rfl⟩⟩
    · obtain ⟨rfl, rfl⟩ : i = 0 ∧ m = s.stepRecord p k x := by
        cases i with
        | zero => exact ⟨rfl, (Option.some.inj hm).symm⟩
        | succ i => cases hm
      exact ⟨x, hx, rfl, h.step_at (by omega), fun g hg hne => hr ▸ h.adjusted g hg hne⟩
    · rw [hnext, Plans.stepAfter, hl]
      by_cases hkl : k < l.length
      · rw [if_pos hkl, if_pos (.inr hkl)]
      · rw [if_neg hkl, if_neg (by omega)]
  · rw [harb]
    exact h.frame

/-- One step submitted, and those behind it. -/
theorem submitted_more {s x t : State} {p : PlanNo} {l : List PlanStep} {k : Nat} {y : PlanStep} (h : Gone s x p k y)
    (hk : 1 ≤ k) (hy : l[k - 1]? = some y) (hlen : k ≤ s.plans.steps.length) (hr : s.plans.state = .running)
    (hroom : s.adm.waiting.length < 32) (hrun : runLength l k = 1 + runLength l (k + 1))
    (hrest : Submitted x t p l (k + 1)) : Submitted s t p l k := by
  obtain ⟨htables, -, hclock, -, -, harb, -, -, -, -⟩ := h.reads
  obtain ⟨hsteps, hplans, hframe, hkept, hmarks⟩ := hrest
  have htmarks := hmarks (by rw [harb]) (by rw [harb])
  refine ⟨fun wanted gone hw hg => ?_, by rw [hplans, h.plans], ?_, fun c hc => hkept c (h.kept c hc), fun _ _ => htmarks⟩
  · have hxroom : x.adm.waiting.length = s.adm.waiting.length + 1 := by
      rw [h.adm]
      simp
    obtain ⟨⟨recs, hcount, hwaiting, -, hlast, hrecs⟩, hwait, hnext, hothers, hlength, houtcomes, -⟩ :=
      hsteps (wanted - 1) (gone - 1) (by omega) (by omega)
    have hpos : 0 < gone := by omega
    have hback (i : Nat) : k + 1 - 1 + i = k - 1 + (i + 1) := by omega
    have hgone : k + 1 + (gone - 1) = k + gone := by omega
    rw [hback, Nat.sub_add_cancel hpos] at hwait
    rw [hgone] at hnext
    refine ⟨⟨s.stepRecord p k y :: recs, by rw [List.length_cons, hcount]; omega, ?_, by simp [State.stepRecord], ?_,
      fun i m hm => ?_⟩, fun hlt => hwait (by omega), ?_, fun i hi => ?_, hlength.trans h.steps_length, ?_,
      fun _ => htmarks⟩
    · rw [hwaiting, h.adm, List.append_assoc]
      rfl
    · rw [hlast, List.getLast?_cons, h.adm]
      cases recs.getLast? <;> rfl
    · cases i with
      | zero =>
        obtain rfl := Option.some.inj hm
        refine ⟨y, hy, rfl, ?_, fun g hg hne => hkept _ (hr ▸ h.adjusted g hg hne)⟩
        exact (hothers (k - 1) (.inl (by omega))).trans (h.step_at (by omega))
      | succ i =>
        obtain ⟨z, hz, hm', hstep, hadj⟩ := hrecs i m hm
        rw [stepGoal_congr htables, hclock] at hm'
        rw [stepGoal_congr htables] at hstep hadj
        rw [hback] at hz hstep
        have hnum : k + 1 + i = k + (i + 1) := by omega
        rw [hnum] at hm' hadj
        exact ⟨z, hz, hm', hstep, hadj⟩
    · rw [hnext]
      exact if_congr (by omega) rfl rfl
    · exact (hothers i (by omega)).trans (h.step_other (by omega))
    · rw [houtcomes, h.adm]
  · have harb' : t.arb = { s.arb with armed := t.arb.armed, passRequested := t.arb.passRequested } := by
      rw [congrArg State.arb hframe, harb]
    rw [← harb']
    rw [hframe, h.frame]

/-- The run context is at step `k` of plan `p`, whose contents are `l`; no step behind that one waits; and admission takes
the plan's moves. -/
structure RunAt (s : State) (p : PlanNo) (l : List PlanStep) (k : Nat) : Prop where
  running : s.plans.state = .running
  plan : s.plans.plan = some p
  contents : s.plans.store.get p = l
  next : s.plans.next = some k
  pos : 1 ≤ k
  inside : k ≤ l.length
  length : s.plans.steps.length = l.length
  waits : ∀ j r, s.plans.steps[j]? = some r → r.status = .waitingRoom → j < k
  takes : PlanTakes s

theorem RunAt.atStep {s : State} {p : PlanNo} {l : List PlanStep} {k : Nat} {x : PlanStep} (h : RunAt s p l k)
    (hx : l[k - 1]? = some x) : AtStep s p k x := ⟨h.running, h.plan, h.next, by rw [h.contents]; exact hx⟩

theorem RunAt.plan_contents {s : State} {p : PlanNo} {l : List PlanStep} {k : Nat} (h : RunAt s p l k) :
    s.plans.contents = l := by
  unfold Plans.contents
  rw [h.plan]
  exact h.contents

/-- One step submitted leaves the run context at the step behind it. -/
theorem RunAt.gone {s t : State} {p : PlanNo} {l : List PlanStep} {k : Nat} {x : PlanStep} (h : RunAt s p l k)
    (hg : Gone s t p k x) (hk : k < l.length) : RunAt t p l (k + 1) := by
  obtain ⟨-, -, -, hauth, hman, -, hstate, hplan, hstore, hnext⟩ := hg.reads
  have htakes := h.takes
  have hpos := h.pos
  unfold PlanTakes at htakes
  exact {
    running := hstate.trans h.running
    plan := hplan.trans h.plan
    contents := by rw [hstore]; exact h.contents
    next := by rw [hnext, Plans.stepAfter, h.plan_contents, if_pos hk]
    pos := by omega
    inside := hk
    length := hg.steps_length.trans h.length
    waits := fun j r hj hr => by
      by_cases hjk : k - 1 = j
      · omega
      · rw [hg.step_other hjk] at hj
        exact Nat.lt_succ_of_lt (h.waits j r hj hr)
    takes := by unfold PlanTakes; rw [hauth, hman]; exact htakes }

/-- Behind a step submitted, the next goes exactly when it is PARALLEL. -/
theorem stepGoes_behind {s t : State} {p : PlanNo} {l : List PlanStep} {k : Nat} {x y : PlanStep} (h : RunAt s p l k)
    (hg : Gone s t p k x) (hy : l[k]? = some y) (retry : Bool) :
    StepGoes t retry (k + 1) ↔ y.cond = .parallel := by
  have hk : k < l.length := (List.getElem?_eq_some_iff.1 hy).1
  have ht := h.gone hg hk
  have hpos := h.pos
  have hlength := h.length
  have hstatus : (t.plans.steps[k - 1]?).map (·.status) = some (.submitted s.freshNumber) := by
    rw [hg.step_at (by omega)]
    rfl
  have hwait : t.plans.status (k + 1) ≠ some .waitingRoom := by
    intro hw
    obtain ⟨r, hr, hrw⟩ := Option.map_eq_some_iff.1 hw
    rw [Nat.add_sub_cancel, hg.step_other (by omega)] at hr
    exact absurd (h.waits k r hr hrw) (Nat.lt_irrefl k)
  have hcond := conditionMet_iff (p := t.plans) (k := k + 1) (x := y) (by rw [ht.plan_contents]; exact hy) ht.pos
    (by rw [hg.steps_length, hlength]; exact hk)
  have htwo : k + 1 - 2 = k - 1 := by omega
  have hone : k + 1 ≠ 1 := by omega
  unfold StepGoes
  rw [hcond, CondMet, htwo]
  simp only [hwait, and_false, false_or, hone]
  cases y.cond with
  | sequential => simp [hstatus]
  | parallel => simp [hstatus]
  | barrier =>
    refine iff_of_false (fun hall => ?_) (by simp)
    have := hall (k - 1) (by omega)
    rw [hstatus] at this
    cases this

/-- A submission whose first step goes, by the steps it has left to try. -/
theorem runSteps_submitted (fuel : Nat) (retry : Bool) : ∀ {s : State} {p : PlanNo} {l : List PlanStep} {k : Nat},
    RunAt s p l k → RunSound s l k → StepGoes s retry k → l.length < fuel + k →
    Submitted s (s.runSteps fuel retry) p l k := by
  induction fuel with
  | zero => intro s p l k h _ _ hf; have := h.inside; omega
  | succ fuel ih =>
    intro s p l k h hsound hgoes hf
    have hpos := h.pos
    have hinside := h.inside
    have hlen : k ≤ s.plans.steps.length := by rw [h.length]; exact hinside
    obtain ⟨x, hx⟩ : ∃ x, l[k - 1]? = some x := ⟨_, List.getElem?_eq_getElem (by omega)⟩
    have hfirst := hsound.first hx
    by_cases hroom : s.adm.waiting.length < 32
    · rw [runSteps_submits (h.atStep hx) hgoes h.takes hfirst hroom]
      have hg := stepGone_gone h.plan k x
      generalize s.stepGone p k x = y at hg
      by_cases hlast : k < l.length
      · obtain ⟨z, hz⟩ : ∃ z, l[k]? = some z := ⟨_, List.getElem?_eq_getElem hlast⟩
        have hbehind := stepGoes_behind h hg hz retry
        have hy := h.gone hg hlast
        by_cases hpar : z.cond = .parallel
        · have hrun := runLength_parallel hz hpar
          obtain ⟨htables, hseqs, -⟩ := hg.reads
          have hrest : RunSound y l (k + 1) := fun w hw =>
            stepSound_congr htables hseqs (hsound.rest hpos hinside hrun w hw)
          exact submitted_more hg hpos hx hlen h.running hroom hrun (ih hy hrest (hbehind.2 hpar) (by omega))
        · rw [runSteps_stops hy.plan hy.next (fun hgo => hpar (hbehind.1 hgo))]
          exact submitted_one hg hpos hx hlen h.plan_contents h.running hroom
            (runLength_one fun w hw => by rw [hz] at hw; cases hw; exact hpar)
      · have hnext : y.plans.next = none := by
          obtain ⟨-, -, -, -, -, -, -, -, -, hnext⟩ := hg.reads
          rw [hnext, Plans.stepAfter, h.plan_contents, if_neg hlast]
        rw [runSteps_over hnext]
        exact submitted_one hg hpos hx hlen h.plan_contents h.running hroom
          (runLength_one fun w hw => by rw [List.getElem?_eq_none (by omega)] at hw; cases hw)
    · rw [runSteps_waits (h.atStep hx) hgoes h.takes hfirst (by omega)]
      exact submitted_waits hpos h.next hlen (by omega)

end Sys2Proof.Machine

/-! SUPPORT. The end of a plan: its pending moves cancelled, and its context closed (O54, O55). -/

namespace Sys2Proof.Machine

open Sys2Proof

/-! ### Pending moves ended one after another -/

/-- Some pending moves ended, whatever the outcomes list holds. -/
theorem endEach_spec (l : List MoveRec) (o : MoveOutcome) (r : Reason) : ∀ s t : State,
    t = (s.forEach l fun m s => s.endPending m o r) →
    t.adm.waiting = (s.adm.waiting.filter fun y => !(l.map (·.number)).contains y.number) ∧
      t.adm.lastNumber = s.adm.lastNumber ∧
      t = { s with
        adm := t.adm, arb := { s.arb with armed := t.arb.armed, passRequested := t.arb.passRequested }, mail := t.mail } ∧
      (∀ m ∈ l, Instr.latchEvent (.moveEnd (endRecord m o r s.clock)) ∈ t.mail ∧
        (m.origin ≠ .direct → Instr.stepEnd m.number o r ∈ t.mail)) ∧
      ∀ c ∈ s.mail, c ∈ t.mail := by
  induction l with
  | nil =>
    rintro s t rfl
    simp
  | cons m rest ih =>
    intro s t ht
    obtain ⟨ha, hf, he, -, hk⟩ := endPending_frame s m o r
    have hplan (p : PlanNo) (k : Nat) (hm : m.origin = .plan p k) := endPending_stepEnd s o r hm
    obtain ⟨iw, il, jf, ie, ik⟩ := ih (s.endPending m o r) t ht
    generalize s.endPending m o r = x at ha hf he hk hplan iw il jf ie ik
    have hclock : x.clock = s.clock := by rw [hf]
    have harb : x.arb = { s.arb with armed := true, passRequested := true } := by rw [hf]
    rw [hclock] at ie
    refine ⟨?_, by rw [il, ha], ?_, fun y hy => ?_, fun c hc => ik c (hk c hc)⟩
    · rw [iw, ha, List.filter_filter]
      refine List.filter_congr fun y _ => ?_
      by_cases e : y.number = m.number <;> simp [e]
    · have harb' : t.arb = { s.arb with armed := t.arb.armed, passRequested := t.arb.passRequested } := by
        rw [congrArg State.arb jf, harb]
      rw [← harb', jf, hf]
    · obtain rfl | hy := List.mem_cons.1 hy
      · refine ⟨ik _ he, fun hd => ?_⟩
        cases ho : y.origin with
        | direct => exact absurd ho hd
        | plan p k => exact ik _ (hplan p k ho)
      · exact ie y hy

/-- The numbers of the moves of steps still SUBMITTED. -/
def planNumbers (steps : List StepRun) : List Nat :=
  steps.filterMap fun x => match x.status with | .submitted n => some n | _ => none

/-- What the end of a plan cancels. -/
theorem cancelPlanMoves_spec {s t : State} (ht : t = s.cancelPlanMoves) :
    PlanMovesCancelled s t ∧
      t = { s with
        adm := t.adm, arb := { s.arb with armed := t.arb.armed, passRequested := t.arb.passRequested }, mail := t.mail } ∧
      ∀ c ∈ s.mail, c ∈ t.mail := by
  have hl : ∃ l, l = s.adm.waiting.filter fun m => (planNumbers s.plans.steps).contains m.number := ⟨_, rfl⟩
  obtain ⟨l, hl⟩ := hl
  have ht' : t = s.forEach l fun m s => s.endPending m .cancelled .planEnded := by
    rw [ht, hl]
    rfl
  obtain ⟨hwaiting, hlast, hframe, hsent, hkept⟩ := endEach_spec l .cancelled .planEnded s t ht'
  refine ⟨fun numbers hn => ?_, hframe, hkept⟩
  have hplans : t.plans = s.plans := by rw [hframe]
  have hnumbers : numbers = planNumbers s.plans.steps := by
    rw [hn, hplans]
    rfl
  rw [← hnumbers] at hl
  refine ⟨?_, hlast, fun houtcomes => ?_, fun m hm hc => hsent m ?_⟩
  · rw [hwaiting]
    refine List.filter_congr fun y hy => congrArg not ?_
    rw [Bool.eq_iff_iff, List.contains_iff_mem, List.contains_iff_mem, List.mem_map]
    refine ⟨fun ⟨m, hm, hmy⟩ => ?_, fun hy' => ⟨y, ?_, rfl⟩⟩
    · rw [hl, List.mem_filter, List.contains_iff_mem] at hm
      rw [← hmy]
      exact hm.2
    · rw [hl, List.mem_filter, List.contains_iff_mem]
      exact ⟨hy, hy'⟩
  · rw [ht', (endEach_frame l .cancelled .planEnded s houtcomes).1, hl]
  · rw [hl, List.mem_filter]
    exact ⟨hm, hc⟩

/-- The moves cancelled stay so where nothing but reports join those in flight. -/
theorem PlanMovesCancelled.mono {s x t : State} (h : PlanMovesCancelled s x) (hplans : t.plans = x.plans)
    (hadm : t.adm = x.adm) (hmail : ∀ c ∈ x.mail, c ∈ t.mail) : PlanMovesCancelled s t := by
  intro numbers hn
  rw [hplans] at hn
  obtain ⟨hw, hl, ho, hm⟩ := h numbers hn
  rw [hadm]
  exact ⟨hw, hl, ho, fun m hmem hc => ⟨hmail _ (hm m hmem hc).1, fun hd => hmail _ ((hm m hmem hc).2 hd)⟩⟩

/-! ### A plan ends -/

/-- From `s` to `t` the running plan has ended with a state, a failing step, a reason and the event of it; the rest of the
part but the two marks of the arbiter stands. -/
structure PlanClosed (s t : State) (st : PlanState) (failing : Option Nat) (r : PlanReason) (d : PlanDetail) : Prop where
  ended : PlanEnded s.plans t.plans s.plans.steps st failing r
  cancelled : PlanMovesCancelled s t
  raised : ∀ p, s.plans.plan = some p → Instr.latchEvent (.plan p st d) ∈ t.mail
  frame : t = { s with
    plans := t.plans, adm := t.adm
    arb := { s.arb with armed := t.arb.armed, passRequested := t.arb.passRequested }, mail := t.mail }
  kept : ∀ c ∈ s.mail, c ∈ t.mail

theorem planClosed_of_cancel (s : State) (st : PlanState) (failing : Option Nat) (r : PlanReason) (d : PlanDetail) :
    PlanClosed s (((s.closePlan st failing r).cancelPlanMoves).raisePlan d) st failing r d := by
  obtain ⟨hended, hclose⟩ := closePlan_ended s st failing r
  have hmail : (s.closePlan st failing r).mail = s.mail := rfl
  have hstate : (s.closePlan st failing r).plans.state = st ∧ (s.closePlan st failing r).plans.plan = s.plans.plan :=
    ⟨rfl, rfl⟩
  have hadm : (s.closePlan st failing r).adm = s.adm ∧ (s.closePlan st failing r).clock = s.clock := ⟨rfl, rfl⟩
  generalize s.closePlan st failing r = x at hended hclose hmail hstate hadm
  obtain ⟨hcancel, hframe, hkept⟩ := cancelPlanMoves_spec (s := x) rfl
  generalize x.cancelPlanMoves = y at hcancel hframe hkept
  obtain ⟨hraise, hkept', hevent⟩ := raisePlan_frame y d
  generalize y.raisePlan d = t at hraise hkept' hevent
  have hplans : y.plans = x.plans := by rw [hframe]
  have htplans : t.plans = y.plans := by rw [hraise]
  have htadm : t.adm = y.adm := by rw [hraise]
  have htarb : t.arb = y.arb := by rw [hraise]
  have harb : t.arb = { s.arb with armed := t.arb.armed, passRequested := t.arb.passRequested } := by
    rw [htarb, congrArg State.arb hframe, hclose]
  rw [hplans, hstate.1, hstate.2] at hevent
  exact {
    ended := by rw [htplans, hplans]; exact hended
    cancelled := fun numbers hn => by
      have := hcancel.mono htplans htadm hkept' numbers hn
      rw [hadm.1, hadm.2] at this
      exact this
    raised := hevent
    frame := by
      rw [← harb]
      rw [hraise, hframe, hclose]
    kept := fun c hc => hkept' c (hkept c (hmail.symm ▸ hc)) }

theorem failPlan_closed (s : State) (k : Nat) (r : PlanReason) :
    PlanClosed s (s.failPlan k r) .failed (some k) r (.failed k r) := planClosed_of_cancel ..

theorem abortPlan_closed (s : State) :
    PlanClosed s s.abortPlan .aborted none (.aborted .operator) (.aborted (.aborted .operator)) := planClosed_of_cancel ..

/-- A stop aborts a running plan; its moves are left to the stop (R147). -/
theorem stopPlan_spec {s : State} (h : s.plans.running = true) (r : Reason) :
    PlanEnded s.plans (s.stopPlan r).plans s.plans.steps .aborted none (.aborted r) ∧
      (∀ p, s.plans.plan = some p →
        Instr.latchEvent (.plan p .aborted (.aborted (.aborted r))) ∈ (s.stopPlan r).mail) ∧
      s.stopPlan r = { s with plans := (s.stopPlan r).plans, mail := (s.stopPlan r).mail } := by
  unfold State.stopPlan
  rw [if_pos h]
  obtain ⟨hended, hclose⟩ := closePlan_ended s .aborted none (.aborted r)
  have hstate : (s.closePlan .aborted none (.aborted r)).plans.state = .aborted ∧
    (s.closePlan .aborted none (.aborted r)).plans.plan = s.plans.plan := ⟨rfl, rfl⟩
  generalize s.closePlan .aborted none (.aborted r) = x at hended hclose hstate
  obtain ⟨hraise, -, hevent⟩ := raisePlan_frame x (.aborted (.aborted r))
  generalize x.raisePlan (.aborted (.aborted r)) = t at hraise hevent
  rw [hstate.1, hstate.2] at hevent
  have hplans : t.plans = x.plans := by rw [hraise]
  refine ⟨by rw [hplans]; exact hended, hevent, ?_⟩
  rw [hraise, hclose]

/-- A plan fails with its step `k`, refused INTERLOCK. -/
theorem stepRefused_of_closed {s : State} {p : PlanNo} (hp : s.plans.plan = some p) (k : Nat) :
    StepRefused s ((s.modStep k fun r => { r with status := .endedBad none }).failPlan k (.refused .interlock)) p
      s.plans.steps k := by
  have hc := failPlan_closed (s.modStep k fun r => { r with status := .endedBad none }) k (.refused .interlock)
  generalize (s.modStep k fun r => { r with status := .endedBad none }).failPlan k (.refused .interlock) = t at hc
  refine ⟨fun r hr => ?_, hc.cancelled, hc.raised p hp, hc.frame⟩
  have hsteps : (s.modStep k fun r => { r with status := .endedBad none }).plans.steps =
      s.plans.steps.set (k - 1) { r with status := .endedBad none } := by
    show s.plans.steps.modify (k - 1) (fun r => { r with status := .endedBad none }) = _
    rw [List.modify_eq_set_getElem?, hr]
    rfl
  have hended := hc.ended
  rw [hsteps] at hended
  exact hended

end Sys2Proof.Machine

/-! SUPPORT. The plan requests (O54). -/

namespace Sys2Proof.Machine

open Sys2Proof

/-! ### Steps as PLAN_WRITE sends them -/

theorem planStep?_rawStep (x : PlanStep) : planStep? (rawStep x) = some x := by
  obtain ⟨t, g, c, d⟩ := x
  unfold planStep? rawStep
  cases g <;> cases c <;> cases d <;>
    simp [ofNat?_num, kindOfCode?, goalOf?, classOfCode?, condOfCode?]

theorem cls_of_code {x : PlanStep} {n : Nat} (h : classOfCode? n = some x.cls) : n = (rawStep x).cls := by
  obtain ⟨t, g, c, d⟩ := x
  unfold classOfCode? at h
  split at h <;> cases h <;> rfl

theorem cond_of_code {x : PlanStep} {n : Nat} (h : condOfCode? n = some x.cond) : n = (rawStep x).cond := by
  obtain ⟨t, g, c, d⟩ := x
  unfold condOfCode? at h
  split at h <;> cases h <;> rfl

theorem ofNat?_some {n : Nat} {t : Idx8} (h : Idx8.ofNat? n = some t) : n = Idx8.num t := by
  obtain ⟨hnone, -⟩ | ⟨u, hu, hsome⟩ := ofNat?_cases n
  · rw [hnone] at h
    cases h
  · rw [hsome] at h
    rw [hu, Option.some.inj h]

theorem goal_of_code {x : PlanStep} {kind target : Nat}
    (h : ((kindOfCode? kind).bind fun k => goalOf? k target) = some x.goal) :
    kind = (rawStep x).kind ∧ target = (rawStep x).target := by
  obtain ⟨t, g, c, d⟩ := x
  obtain ⟨k, hk, hg⟩ := Option.bind_eq_some_iff.1 h
  unfold kindOfCode? at hk
  unfold goalOf? at hg
  split at hk <;> cases hk
  · obtain ⟨n, hn, rfl⟩ := Option.map_eq_some_iff.1 hg
    exact ⟨rfl, ofNat?_some hn⟩
  · obtain rfl := Option.some.inj hg
    exact ⟨rfl, rfl⟩

theorem eq_rawStep_of_planStep? {r : RawStep} {x : PlanStep} (h : planStep? r = some x) : r = rawStep x := by
  unfold planStep? at h
  split at h
  · next t g c d ht hg hc hd =>
    have hx := Option.some.inj h
    obtain ⟨hkind, htarget⟩ := goal_of_code (x := ⟨t, g, c, d⟩) hg
    have hcls := cls_of_code (x := ⟨t, g, c, d⟩) hc
    have hcond := cond_of_code (x := ⟨t, g, c, d⟩) hd
    rw [hx] at hkind htarget hcls hcond
    have htier : r.tier = (rawStep x).tier := by
      rw [← hx]
      exact ofNat?_some ht
    obtain ⟨tier, kind, target, cls, cond⟩ := r
    generalize rawStep x = y at *
    subst htier hkind htarget hcls hcond
    rfl
  · cases h

theorem mapM_rawStep (l : List PlanStep) : (l.map rawStep).mapM planStep? = some l := by
  induction l with
  | nil => rfl
  | cons x rest ih =>
    rw [List.map_cons, List.mapM_cons, planStep?_rawStep, ih]
    rfl

theorem eq_map_rawStep {raw : List RawStep} : ∀ {l : List PlanStep}, raw.mapM planStep? = some l → raw = l.map rawStep := by
  induction raw with
  | nil =>
    intro l h
    obtain rfl := Option.some.inj h
    rfl
  | cons r rest ih =>
    intro l h
    rw [List.mapM_cons] at h
    obtain ⟨x, hx, h⟩ := Option.bind_eq_some_iff.1 h
    obtain ⟨tail, htail, h⟩ := Option.bind_eq_some_iff.1 h
    obtain rfl := Option.some.inj h
    rw [eq_rawStep_of_planStep? hx, ih htail]
    rfl

theorem stepRunnable_iff (s : State) (x : PlanStep) : s.stepRunnable x = true ↔ StepNamed s x := by
  unfold State.stepRunnable StepNamed
  cases x.goal <;> simp

/-! ### The store -/

theorem planInUse_iff (s : State) (p : PlanNo) : s.planInUse p = true ↔ s.plans.running = true ∧ s.plans.plan = some p := by
  simp [State.planInUse]

/-- A PLAN_WRITE that names no plan or sends no list of 1 to 24 sound steps (R138). -/
theorem planWrite_unsound {q : Src} {s : State} (hs : s.held = false) (hq : s.auth.holder = some q.port) {n : Nat}
    {raw : List RawStep} (h : n = 0 ∨ 8 < n ∨ raw = [] ∨ 24 < raw.length ∨ ∃ x ∈ raw, ∀ y, x ≠ rawStep y) :
    ∃ t, exec (.planWrite q n raw) s = .next t ∧ OnlyPorts s t ∧
      Answered s t (.planWrite q n raw) q 0x30 .badValue [] [] := by
  refine exec_unchanged _ (execPlanWrite.eq_1 ..) hs ?_
  have hholder : (s.taken (.planWrite q n raw)).isHolder q = true := (isHolder_iff _ q).2 hq
  simp only [hholder]
  refine (if_neg (by simp)).trans ?_
  split
  · next p l hp hl =>
    obtain rfl := eq_map_rawStep hl
    refine if_pos ?_
    have hn : ¬(n = 0 ∨ 8 < n) := fun hn => by
      rw [(ofNat?_eq_none_iff n).2 hn] at hp
      cases hp
    have hsound : ¬∃ x ∈ l.map rawStep, ∀ y, x ≠ rawStep y := fun ⟨x, hx, hy⟩ => by
      obtain ⟨y, -, rfl⟩ := List.mem_map.1 hx
      exact hy y rfl
    obtain hl | hl : l = [] ∨ 24 < l.length := by
      rw [← or_assoc, or_iff_right hn, List.map_eq_nil_iff, List.length_map, or_iff_left hsound] at h
      exact h
    · simp [hl]
    · simp [Config.planSteps, hl]
  · rfl

/-- A plan of the store replaced, unless it is the one that runs. -/
theorem planWrite_stored {q : Src} {s : State} (hs : s.held = false) (hq : s.auth.holder = some q.port) (p : PlanNo)
    {l : List PlanStep} (hne : l ≠ []) (hlen : l.length ≤ 24) :
    ∃ t, exec (.planWrite q (Idx8.num p) (l.map rawStep)) s = .next t ∧
      if s.plans.running = true ∧ s.plans.plan = some p then
        OnlyPorts s t ∧ Answered s t (.planWrite q (Idx8.num p) (l.map rawStep)) q 0x30 .busy [] []
      else
        t = { s with plans := { s.plans with store := s.plans.store.set p l }, ports := t.ports, mail := t.mail } ∧
        Answered s t (.planWrite q (Idx8.num p) (l.map rawStep)) q 0x30 .ok
          (beBytes 1 (Idx8.num p) ++ beBytes 1 l.length) [] := by
  have hholder : (s.taken (.planWrite q (Idx8.num p) (l.map rawStep))).isHolder q = true := (isHolder_iff _ q).2 hq
  have hsize : ¬(l.isEmpty || decide (Config.planSteps < l.length)) = true := by
    have hlong : ¬ 24 < l.length := Nat.not_lt.2 hlen
    simp [Config.planSteps, hne, hlong]
  have huse := planInUse_iff (s.taken (.planWrite q (Idx8.num p) (l.map rawStep))) p
  split
  · next h =>
    refine exec_unchanged _ (execPlanWrite.eq_1 ..) hs ?_
    simp only [hholder, ofNat?_num, mapM_rawStep]
    exact (if_neg (by simp)).trans ((if_neg hsize).trans (if_pos (huse.2 h)))
  · next h =>
    exact exec_answered (t' := (s.taken (.planWrite q (Idx8.num p) (l.map rawStep))).storePlan p l) (st := .ok)
      (body := beBytes 1 (Idx8.num p) ++ beBytes 1 l.length) _ [] (execPlanWrite.eq_1 ..) hs (by
        simp only [hholder, ofNat?_num, mapM_rawStep]
        exact (if_neg (by simp)).trans ((if_neg hsize).trans (if_neg fun hu => h (huse.1 hu)))) (by rfl)
        (List.append_nil _).symm

theorem planClear_stored {q : Src} {s : State} (hs : s.held = false) (hq : s.auth.holder = some q.port) (p : PlanNo) :
    ∃ t, exec (.planClear q (Idx8.num p)) s = .next t ∧
      if s.plans.running = true ∧ s.plans.plan = some p then
        OnlyPorts s t ∧ Answered s t (.planClear q (Idx8.num p)) q 0x31 .busy [] []
      else
        t = { s with plans := { s.plans with store := s.plans.store.set p [] }, ports := t.ports, mail := t.mail } ∧
        Answered s t (.planClear q (Idx8.num p)) q 0x31 .ok [] [] := by
  have hholder : (s.taken (.planClear q (Idx8.num p))).isHolder q = true := (isHolder_iff _ q).2 hq
  have huse := planInUse_iff (s.taken (.planClear q (Idx8.num p))) p
  split
  · next h =>
    refine exec_unchanged _ (execPlanClear.eq_1 ..) hs ?_
    simp only [hholder, ofNat?_num]
    exact (if_neg (by simp)).trans (if_pos (huse.2 h))
  · next h =>
    exact exec_answered (t' := (s.taken (.planClear q (Idx8.num p))).storePlan p []) (st := .ok) (body := []) _ []
      (execPlanClear.eq_1 ..) hs (by
        simp only [hholder, ofNat?_num]
        exact (if_neg (by simp)).trans (if_neg fun hu => h (huse.1 hu))) (by rfl) (List.append_nil _).symm

theorem planClear_unsound {q : Src} {s : State} (hs : s.held = false) (hq : s.auth.holder = some q.port) {n : Nat}
    (hn : n = 0 ∨ 8 < n) :
    ∃ t, exec (.planClear q n) s = .next t ∧ OnlyPorts s t ∧ Answered s t (.planClear q n) q 0x31 .badValue [] [] := by
  refine exec_unchanged _ (execPlanClear.eq_1 ..) hs ?_
  have hholder : (s.taken (.planClear q n)).isHolder q = true := (isHolder_iff _ q).2 hq
  simp only [hholder, (ofNat?_eq_none_iff n).2 hn]
  exact if_neg (by simp)

/-! ### PLAN_START refused -/

/-- In RUN the holder's PLAN_START of a plan number outside 1 to 8 is unsound. -/
theorem planStartAnswer_unsound {s : State} {q : Src} (hm : s.auth.mode = .run) (hq : s.auth.holder = some q.port) {n : Nat}
    (hn : n = 0 ∨ 8 < n) : s.planStartAnswer q n = s.refuse .badValue := by
  simp only [State.planStartAnswer, (inRun_iff s).2 hm, (isHolder_iff s q).2 hq, (ofNat?_eq_none_iff n).2 hn,
    Bool.not_true, Bool.false_eq_true, if_false]

/-- The checks of R140 behind the mode, the holder and the number, in order. -/
theorem planStartAnswer_named {s : State} {q : Src} (hm : s.auth.mode = .run) (hq : s.auth.holder = some q.port)
    (p : PlanNo) :
    (s.man.state ≠ .clear → s.planStartAnswer q (Idx8.num p) = s.refuse .stopped) ∧
    (s.man.state = .clear → s.plans.running = true → s.planStartAnswer q (Idx8.num p) = s.refuse .busy) ∧
    (s.man.state = .clear → s.plans.running = false → s.plans.store.get p = [] →
      s.planStartAnswer q (Idx8.num p) = s.refuse .notFound) ∧
    (s.man.state = .clear → s.plans.running = false → s.plans.store.get p ≠ [] → ∀ i,
      (s.plans.store.get p).findIdx? (fun x => !s.stepRunnable x) = some i →
      s.planStartAnswer q (Idx8.num p) = s.answer .badValue (beBytes 1 (i + 1))) ∧
    (s.man.state = .clear → s.plans.running = false → s.plans.store.get p ≠ [] →
      (s.plans.store.get p).findIdx? (fun x => !s.stepRunnable x) = none →
      s.planStartAnswer q (Idx8.num p) = (s.startPlan p (s.plans.store.get p)).answer .ok
        (beBytes 1 (Idx8.num p) ++ beBytes 1 (s.plans.store.get p).length)) := by
  have hclear (h : s.man.state = .clear) : s.isClear = true := by simp [State.isClear, h]
  refine ⟨fun h => ?_, fun h hr => ?_, fun h hr hl => ?_, fun h hr hl i hi => ?_, fun h hr hl hi => ?_⟩ <;>
    simp only [State.planStartAnswer, (inRun_iff s).2 hm, (isHolder_iff s q).2 hq, ofNat?_num, Bool.not_true,
      Bool.false_eq_true, if_false]
  · exact if_pos (by simp [State.isClear, h])
  · exact (if_neg (by simp [hclear h])).trans (if_pos hr)
  · exact (if_neg (by simp [hclear h])).trans ((if_neg (by simp [hr])).trans (if_pos (by simp [hl])))
  · refine (if_neg (by simp [hclear h])).trans ((if_neg (by simp [hr])).trans ((if_neg (by simp [hl])).trans ?_))
    rw [hi]
  · refine (if_neg (by simp [hclear h])).trans ((if_neg (by simp [hr])).trans ((if_neg (by simp [hl])).trans ?_))
    rw [hi]

/-- Each refusal of PLAN_START by the first check that fails. -/
theorem planStart_refused {q : Src} {p : PlanNo} {s : State} (hs : s.held = false) (hq : s.auth.holder = some q.port)
    {st : Status} {body : List Byte}
    (h : s.auth.mode = .setup ∧ st = .mode ∧ body = [] ∨
      s.auth.mode = .run ∧ s.man.state ≠ .clear ∧ st = .stopped ∧ body = [] ∨
      s.auth.mode = .run ∧ s.man.state = .clear ∧ s.plans.running = true ∧ st = .busy ∧ body = [] ∨
      s.auth.mode = .run ∧ s.man.state = .clear ∧ s.plans.running = false ∧ s.plans.store.get p = [] ∧ st = .notFound ∧
        body = [] ∨
      s.auth.mode = .run ∧ s.man.state = .clear ∧ s.plans.running = false ∧ st = .badValue ∧
        ∃ i x, (s.plans.store.get p)[i]? = some x ∧ ¬StepNamed s x ∧
          (∀ j < i, ∀ y, (s.plans.store.get p)[j]? = some y → StepNamed s y) ∧ body = beBytes 1 (i + 1)) :
    ∃ t, exec (.planStart q (Idx8.num p)) s = .next t ∧ OnlyPorts s t ∧
      Answered s t (.planStart q (Idx8.num p)) q 0x32 st body [] := by
  refine exec_unchanged _ (execPlanStart.eq_1 ..) hs ?_
  have hnamed (hm : s.auth.mode = .run) :=
    planStartAnswer_named (s := s.taken (.planStart q (Idx8.num p))) (q := q) hm hq p
  obtain ⟨hm, rfl, rfl⟩ | ⟨hm, hc, rfl, rfl⟩ | ⟨hm, hc, hr, rfl, rfl⟩ | ⟨hm, hc, hr, hl, rfl, rfl⟩ |
    ⟨hm, hc, hr, rfl, i, x, hx, hbad, hbefore, rfl⟩ := h
  · have hrun : (s.taken (.planStart q (Idx8.num p))).inRun = false := by
      simp [State.inRun, hm]
    exact if_pos (by simp [hrun])
  · obtain ⟨h1, -, -, -, -⟩ := hnamed hm
    exact h1 hc
  · obtain ⟨-, h2, -, -, -⟩ := hnamed hm
    exact h2 hc hr
  · obtain ⟨-, -, h3, -, -⟩ := hnamed hm
    exact h3 hc hr hl
  · obtain ⟨-, -, -, h4, -⟩ := hnamed hm
    refine h4 hc hr (fun he => ?_) i (List.findIdx?_eq_some_iff_getElem.2 ?_)
    · have he' : s.plans.store.get p = [] := he
      rw [he'] at hx
      cases hx
    · obtain ⟨hi, rfl⟩ := List.getElem?_eq_some_iff.1 hx
      refine ⟨hi, ?_, fun j hj => ?_⟩
      · rw [Bool.not_eq_true', ← Bool.not_eq_true]
        exact fun hrun => hbad ((stepRunnable_iff s _).1 hrun)
      · rw [Bool.not_eq_true, Bool.not_eq_false']
        exact (stepRunnable_iff s _).2 (hbefore j hj _ (List.getElem?_eq_getElem (by omega)))

end Sys2Proof.Machine

/-! SUPPORT. PLAN_START and PLAN_ABORT taken (O54). -/

namespace Sys2Proof.Machine

open Sys2Proof

/-! ### What a submission reads and leaves -/

/-- What is said of the steps submitted reads no more of the states than these fields. -/
theorem StepsSubmitted.congr {s x t y : State} {p : PlanNo} {l : List PlanStep} {before : List StepRun} {k : Nat}
    (h : StepsSubmitted x y p l before k)
    (hx : x.adm = s.adm ∧ x.seqs = s.seqs ∧ x.tables = s.tables ∧ x.clock = s.clock)
    (hy : t.adm = y.adm ∧ t.plans = y.plans ∧ t.arb = y.arb) (hkept : ∀ c ∈ y.mail, c ∈ t.mail) :
    StepsSubmitted s t p l before k := by
  obtain ⟨hadm, hseqs, htables, hclock⟩ := hx
  obtain ⟨htadm, hplans, harb⟩ := hy
  have hfresh : x.freshNumber = s.freshNumber := by
    unfold State.freshNumber State.usedNumbers State.seq
    rw [hadm, hseqs]
  intro wanted gone hw hg
  obtain ⟨⟨recs, hcount, hwaiting, hhead, hlast, hrecs⟩, hwait, hnext, hothers, hlength, houtcomes, harmed⟩ :=
    h wanted gone hw (by rw [hadm]; exact hg)
  simp only [stepGoal_congr htables, hclock, hadm, hfresh] at hwaiting hhead hlast hrecs houtcomes
  rw [htadm, hplans, harb]
  refine ⟨⟨recs, hcount, hwaiting, hhead, hlast, fun i m hm => ?_⟩, hwait, hnext, hothers, hlength, houtcomes, harmed⟩
  obtain ⟨z, hz, hm', hstep, hadj⟩ := hrecs i m hm
  exact ⟨z, hz, hm', hstep, fun g hg hne => hkept _ (hadj g hg hne)⟩

/-! ### PLAN_START taken -/

/-- The run context of a plan that starts, before its first step is submitted. -/
def State.planStarted (s : State) (p : PlanNo) (l : List PlanStep) : State :=
  (s.modPlans fun x =>
    { x with
      plan := some p, state := .running, next := some 1, steps := l.map fun _ => ⟨.notSubmitted, false⟩
      failing := none, reason := none }).raisePlan .plain

theorem startPlan_eq (s : State) (p : PlanNo) (l : List PlanStep) :
    s.startPlan p l = (s.planStarted p l).runSteps 25 false := rfl

theorem planStarted_spec (s : State) (p : PlanNo) (l : List PlanStep) :
    s.planStarted p l = { s with
      plans := { s.plans with
        plan := some p, state := .running, next := some 1, steps := l.map fun _ => ⟨.notSubmitted, false⟩
        failing := none, reason := none }
      mail := (s.planStarted p l).mail } ∧
      Instr.latchEvent (.plan p .running .plain) ∈ (s.planStarted p l).mail := by
  obtain ⟨hframe, -, hevent⟩ := raisePlan_frame (s.modPlans fun x =>
    { x with
      plan := some p, state := .running, next := some 1, steps := l.map fun _ => ⟨.notSubmitted, false⟩
      failing := none, reason := none }) .plain
  exact ⟨hframe, hevent p rfl⟩

/-- A plan that starts is at its first step, which goes. -/
theorem planStarted_runAt {s : State} {p : PlanNo} {l : List PlanStep} (hm : s.auth.mode = .run) (hc : s.man.state = .clear)
    (hl : s.plans.store.get p = l) (hne : l ≠ []) : RunAt (s.planStarted p l) p l 1 := by
  obtain ⟨hframe, -⟩ := planStarted_spec s p l
  generalize s.planStarted p l = x at hframe
  rw [hframe]
  exact {
    running := rfl
    plan := rfl
    contents := hl
    next := rfl
    pos := le_rfl
    inside := List.length_pos_of_ne_nil hne
    length := List.length_map ..
    waits := fun j r hj hr => by
      obtain ⟨y, -, rfl⟩ := List.mem_map.1 (List.mem_of_getElem? hj)
      cases hr
    takes := ⟨hm, .inl hc⟩ }

theorem planStarted_goes (s : State) : StepGoes s false 1 := .inr (if_pos le_rfl)

/-- The steps of a plan that starts, submitted. -/
theorem startPlan_submitted {s t : State} {p : PlanNo} {l : List PlanStep} (ht : t = s.startPlan p l)
    (hm : s.auth.mode = .run) (hc : s.man.state = .clear) (hl : s.plans.store.get p = l) (hne : l ≠ [])
    (hlen : l.length ≤ 24) (hsound : RunSound s l 1) :
    t.plans = { s.plans with
      plan := some p, state := .running, next := t.plans.next, steps := t.plans.steps, failing := none, reason := none } ∧
    StepsSubmitted s t p l (l.map fun _ => ⟨.notSubmitted, false⟩) 1 ∧
    Instr.latchEvent (.plan p .running .plain) ∈ t.mail ∧
    t = { s with
      plans := t.plans, adm := t.adm
      arb := { s.arb with armed := t.arb.armed, passRequested := t.arb.passRequested }, mail := t.mail } := by
  rw [startPlan_eq] at ht
  have hat := planStarted_runAt hm hc hl hne
  obtain ⟨hframe, hevent⟩ := planStarted_spec s p l
  generalize s.planStarted p l = x at ht hat hframe hevent
  have hreads : x.adm = s.adm ∧ x.seqs = s.seqs ∧ x.tables = s.tables ∧ x.clock = s.clock := by
    rw [hframe]
    exact ⟨rfl, rfl, rfl, rfl⟩
  have hplans : x.plans = { s.plans with
      plan := some p, state := .running, next := some 1, steps := l.map fun _ => ⟨.notSubmitted, false⟩
      failing := none, reason := none } := by rw [hframe]
  obtain ⟨hadm, hseqs, htables, hclock⟩ := hreads
  have hsub := runSteps_submitted 25 false hat (fun y hy => stepSound_congr htables hseqs (hsound y hy))
    (planStarted_goes x) (by omega)
  rw [← ht] at hsub
  obtain ⟨hsteps, htplans, htframe, hkept, -⟩ := hsub
  rw [hplans] at hsteps htplans
  refine ⟨htplans, hsteps.congr ⟨hadm, hseqs, htables, hclock⟩ ⟨rfl, rfl, rfl⟩ fun _ h => h, hkept _ hevent, ?_⟩
  have harb : x.arb = s.arb := by rw [hframe]
  rw [harb] at htframe
  rw [htframe, hframe]

/-- With no step SUBMITTED the end of a plan cancels nothing. -/
theorem cancelPlanMoves_none {s : State} (h : planNumbers s.plans.steps = []) : s.cancelPlanMoves = s := by
  have hnone : (s.adm.waiting.filter fun m => (planNumbers s.plans.steps).contains m.number) = [] := by
    rw [h]
    simp
  show s.forEach (s.adm.waiting.filter fun m => (planNumbers s.plans.steps).contains m.number) _ = s
  rw [hnone]
  rfl

/-- A plan whose first step's tier is inhibited fails at its start, with nothing submitted. -/
theorem startPlan_refused {s t : State} {p : PlanNo} {x : PlanStep} {rest : List PlanStep}
    (ht : t = s.startPlan p (x :: rest)) (hm : s.auth.mode = .run) (hc : s.man.state = .clear)
    (hl : s.plans.store.get p = x :: rest) (hx : StepNamed s x) (hi : (s.seq x.tier).inhibit ≠ none) :
    t.plans = { s.plans with
      plan := some p, state := .failed, next := none, failing := some 1, reason := some (.refused .interlock)
      steps := ⟨.endedBad none, false⟩ :: rest.map fun _ => ⟨.notSubmitted, false⟩ } ∧
    Instr.latchEvent (.plan p .failed (.failed 1 (.refused .interlock))) ∈ t.mail ∧
    t = { s with plans := t.plans, mail := t.mail } := by
  rw [startPlan_eq] at ht
  have hat := planStarted_runAt hm hc hl (List.cons_ne_nil x rest)
  obtain ⟨hframe, -⟩ := planStarted_spec s p (x :: rest)
  generalize s.planStarted p (x :: rest) = y at ht hat hframe
  have hy : StepNamed y x ∧ (y.seq x.tier).inhibit ≠ none := by
    rw [hframe]
    exact ⟨hx, hi⟩
  rw [runSteps_refused (hat.atStep rfl) (planStarted_goes y) hat.takes hy.1 hy.2] at ht
  obtain ⟨z, hz⟩ : ∃ z, z = (y.modStep 1 fun r => { r with status := .endedBad none }).closePlan .failed (some 1)
    (.refused .interlock) := ⟨_, rfl⟩
  have hzframe : z = { s with
      plans := { s.plans with
        plan := some p, state := .failed, next := none, failing := some 1, reason := some (.refused .interlock)
        steps := ⟨.endedBad none, false⟩ :: rest.map fun _ => ⟨.notSubmitted, false⟩ }
      mail := y.mail } := by
    rw [hz, hframe]
    simp [State.modStep, State.closePlan, State.modPlans, StepRun.unwait]
  have hnone : planNumbers z.plans.steps = [] := by
    rw [hzframe]
    simp [planNumbers]
  have ht' : t = z.raisePlan (.failed 1 (.refused .interlock)) := by
    rw [ht, ← cancelPlanMoves_none hnone, hz]
    rfl
  obtain ⟨hraise, -, hevent⟩ := raisePlan_frame z (.failed 1 (.refused .interlock))
  rw [← ht'] at hraise hevent
  have hplans : t.plans = z.plans := by rw [hraise]
  have hzplans : z.plans = { s.plans with
        plan := some p, state := .failed, next := none, failing := some 1, reason := some (.refused .interlock)
        steps := ⟨.endedBad none, false⟩ :: rest.map fun _ => ⟨.notSubmitted, false⟩ } := by rw [hzframe]
  rw [hzplans] at hevent
  exact ⟨hplans.trans hzplans, hevent p rfl, by rw [hraise, hzframe]⟩

/-- PLAN_START from the holder, in RUN and CLEAR with no plan running, of a plan whose steps are named. -/
theorem planStart_taken {q : Src} {p : PlanNo} {s : State} (hs : s.held = false) (hq : s.auth.holder = some q.port)
    {l : List PlanStep} (hm : s.auth.mode = .run) (hc : s.man.state = .clear) (hr : s.plans.running = false)
    (hl : s.plans.store.get p = l) (hne : l ≠ []) (hnamed : ∀ x ∈ l, StepNamed s x) {u : State}
    (hu : u = (s.taken (.planStart q (Idx8.num p))).startPlan p l) (hports : u.ports = s.ports) :
    ∃ t, exec (.planStart q (Idx8.num p)) s = .next t ∧ OnlyPorts u t ∧
      Replied s t q 0x32 .ok (beBytes 1 (Idx8.num p) ++ beBytes 1 l.length) ∧ ∀ m ∈ u.mail, m ∈ t.mail := by
  obtain ⟨-, -, -, -, h5⟩ := planStartAnswer_named (s := s.taken (.planStart q (Idx8.num p))) (q := q) hm hq p
  refine exec_replied _ (execPlanStart.eq_1 ..) hs ?_ hports
  rw [hu]
  refine (h5 hc hr (by rw [← hl] at hne; exact hne) ?_).trans ?_
  · rw [List.findIdx?_eq_none_iff]
    intro x hx
    rw [Bool.not_eq_false']
    exact (stepRunnable_iff _ x).2 (hnamed x (hl ▸ hx))
  · have hl' : (s.taken (.planStart q (Idx8.num p))).plans.store.get p = l := hl
    rw [hl']
    rfl

/-! ### PLAN_ABORT -/

theorem planAbort_taken {q : Src} {s : State} (hs : s.held = false) (hq : s.auth.holder = some q.port) :
    ∃ t, exec (.planAbort q) s = .next t ∧
      if s.plans.running then
        PlanEnded s.plans t.plans s.plans.steps .aborted none (.aborted .operator) ∧
        PlanMovesCancelled s t ∧
        Replied s t q 0x33 .ok [BitVec.ofNat 8 (numOr0 s.plans.plan), planCode .aborted] ∧
        (∀ p', s.plans.plan = some p' →
          Instr.latchEvent (.plan p' .aborted (.aborted (.aborted .operator))) ∈ t.mail) ∧
        t = { s with
          plans := t.plans, adm := t.adm
          arb := { s.arb with armed := t.arb.armed, passRequested := t.arb.passRequested }, ports := t.ports
          mail := t.mail }
      else OnlyPorts s t ∧
        Answered s t (.planAbort q) q 0x33 .ok [planCode s.plans.state] [] := by
  have hholder : (s.taken (.planAbort q)).isHolder q = true := (isHolder_iff _ q).2 hq
  have hanswer : ∀ (x : State), x.isHolder q = true → x.planAbortAnswer q =
      if x.plans.running then x.abortPlan.answer .ok (idxByte x.plans.plan ++ [planCode .aborted])
      else x.answer .ok [planCode x.plans.state] := fun x hx => if_neg (by simp [hx])
  have hanswer' := hanswer _ hholder
  split
  · next h =>
    have hclosed := abortPlan_closed (s.taken (.planAbort q))
    obtain ⟨t, ht, hports, hreplied, hkept⟩ := exec_replied (t' := (s.taken (.planAbort q)).abortPlan) (st := .ok)
      (body := [BitVec.ofNat 8 (numOr0 s.plans.plan), planCode .aborted]) (.planAbort q) (execPlanAbort.eq_1 ..) hs
      (hanswer'.trans ((if_pos h).trans (by rw [idxByte, beBytes_one]; rfl))) (by rw [hclosed.frame]; rfl)
    generalize (s.taken (.planAbort q)).abortPlan = u at hclosed hports hkept
    unfold OnlyPorts at hports
    have hplans : t.plans = u.plans := by rw [hports]
    have hadm : t.adm = u.adm := by rw [hports]
    have harb : t.arb = u.arb := by rw [hports]
    refine ⟨t, ht, ?_, hclosed.cancelled.mono hplans hadm hkept, hreplied, fun p hp => hkept _ (hclosed.raised p hp), ?_⟩
    · rw [hplans]
      exact hclosed.ended
    · have harb' : t.arb = { s.arb with armed := t.arb.armed, passRequested := t.arb.passRequested } := by
        rw [harb, congrArg State.arb hclosed.frame]
        rfl
      rw [← harb']
      rw [hports, hclosed.frame]
      rfl
  · next h =>
    exact exec_unchanged _ (execPlanAbort.eq_1 ..) hs (hanswer'.trans (if_neg h))

/-- Settles O54: clause by clause, from what a store, a start and an abort leave. -/
theorem plansAreStoredStartedAndAborted : Obligations.PlansAreStoredStartedAndAborted := by
  unfold Obligations.PlansAreStoredStartedAndAborted
  intro q p s hs hq
  refine ⟨running_iff _, fun n raw h => planWrite_unsound hs hq h, fun n hn => ⟨planClear_unsound hs hq hn, fun hm => ?_⟩,
    fun st body h => planStart_refused hs hq h, fun raw l hraw hne hlen => ?_, planClear_stored hs hq p,
    fun l hm hc hr hl hne hlen hnamed => ⟨fun hsound => ?_, fun x rest hx hi => ?_⟩, planAbort_taken hs hq⟩
  · exact exec_unchanged _ (execPlanStart.eq_1 ..) hs
      (planStartAnswer_unsound (s := s.taken (.planStart q n)) hm hq hn)
  · rw [hraw]
    exact planWrite_stored hs hq p hne hlen
  · obtain ⟨u, hu⟩ : ∃ u, u = (s.taken (.planStart q (Idx8.num p))).startPlan p l := ⟨_, rfl⟩
    obtain ⟨hplans, hsteps, hevent, hframe⟩ := startPlan_submitted hu hm hc hl hne hlen hsound
    obtain ⟨t, ht, hports, hreplied, hkept⟩ := planStart_taken hs hq hm hc hr hl hne hnamed hu (by rw [hframe]; rfl)
    unfold OnlyPorts at hports
    have htplans : t.plans = u.plans := by rw [hports]
    have hadm : t.adm = u.adm := by rw [hports]
    have harb : t.arb = u.arb := by rw [hports]
    refine ⟨t, ht, ?_, hsteps.congr ⟨rfl, rfl, rfl, rfl⟩ ⟨hadm, htplans, harb⟩ hkept, hreplied, hkept _ hevent, ?_⟩
    · rw [htplans]
      exact hplans
    · have harb' : t.arb = { s.arb with armed := t.arb.armed, passRequested := t.arb.passRequested } := by
        rw [harb, congrArg State.arb hframe]
        rfl
      rw [← harb']
      rw [hports, hframe]
      rfl
  · obtain ⟨u, hu⟩ : ∃ u, u = (s.taken (.planStart q (Idx8.num p))).startPlan p (x :: rest) := ⟨_, rfl⟩
    have hfirst : StepNamed s x := hnamed x (by rw [hx]; exact List.mem_cons_self)
    obtain ⟨hplans, hevent, hframe⟩ := startPlan_refused hu hm hc (hl.trans hx) hfirst (Option.isSome_iff_ne_none.1 hi)
    rw [← hx] at hu
    obtain ⟨t, ht, hports, hreplied, hkept⟩ := planStart_taken hs hq hm hc hr hl hne hnamed hu (by rw [hframe]; rfl)
    unfold OnlyPorts at hports
    have htplans : t.plans = u.plans := by rw [hports]
    refine ⟨t, ht, ?_, hreplied, hkept _ hevent, ?_⟩
    · rw [htplans]
      exact hplans
    · rw [hports, hframe]
      rfl

end Sys2Proof.Machine

/-! SUPPORT. The plan executor's neighbours: step ends, freed entries, and the orders of a stop (O55). -/

namespace Sys2Proof.Machine

open Sys2Proof

/-! ### The run context of a plan that runs -/

theorem PlanRuns.takes {s : State} {p : PlanNo} {l : List PlanStep} (h : PlanRuns s p l) : PlanTakes s :=
  ⟨h.2.2.2.2.2.1, h.2.2.2.2.2.2⟩

/-- A running context at its next step, where it differs from one that runs in its state and its steps alone. -/
theorem runAt_of_runs {s x : State} {p : PlanNo} {l : List PlanStep} {k : Nat} (h : PlanRuns s p l)
    (hn : s.plans.next = some k) (hk : 1 ≤ k) (hlen : k ≤ l.length)
    (hplans : x.plans = { s.plans with state := .running, steps := x.plans.steps })
    (hsteps : x.plans.steps.length = s.plans.steps.length)
    (hwaits : ∀ (j : Nat) (r : StepRun), x.plans.steps[j]? = some r → r.status = .waitingRoom → s.plans.steps[j]? = some r)
    (hauth : x.auth = s.auth) (hman : x.man = s.man) : RunAt x p l k := by
  obtain ⟨hplan, hstore, -, hlength, hwait, hm, hstop⟩ := h
  exact {
    running := by rw [hplans]
    plan := by rw [hplans]; exact hplan
    contents := by rw [hplans]; exact hstore
    next := by rw [hplans]; exact hn
    pos := hk
    inside := hlen
    length := hsteps.trans hlength
    waits := fun j r hj hr => by
      have := hwait j r (hwaits j r hj hr) hr
      rw [hn, Option.some.injEq] at this
      omega
    takes := by
      unfold PlanTakes
      rw [hauth, hman]
      exact ⟨hm, hstop⟩ }

theorem RunAt.goes_iff {s : State} {p : PlanNo} {l : List PlanStep} {k : Nat} {x : PlanStep} (h : RunAt s p l k)
    (hx : l[k - 1]? = some x) : StepGoes s false k ↔ CondMet x s.plans.steps k := by
  have hlen : k ≤ s.plans.steps.length := by rw [h.length]; exact h.inside
  rw [← conditionMet_iff (h.atStep hx).contents h.pos hlen]
  simp [StepGoes]

/-- The next step goes on a retry when it waits or its condition is met. -/
theorem RunAt.retry_iff {s : State} {p : PlanNo} {l : List PlanStep} {k : Nat} {x : PlanStep} (h : RunAt s p l k)
    (hx : l[k - 1]? = some x) : StepGoes s true k ↔
      (s.plans.steps[k - 1]?).map (·.status) = some .waitingRoom ∨ CondMet x s.plans.steps k := by
  have hlen : k ≤ s.plans.steps.length := by rw [h.length]; exact h.inside
  rw [← conditionMet_iff (h.atStep hx).contents h.pos hlen, ← status_eq]
  simp [StepGoes]

theorem le_length_of_step {l : List PlanStep} {k : Nat} {x : PlanStep} (hk : 1 ≤ k) (hx : l[k - 1]? = some x) :
    k ≤ l.length := by
  have := (List.getElem?_eq_some_iff.1 hx).1
  omega

/-! ### The step that an end matches -/

theorem stepOf_eq_none {p : Plans} {n : Nat} (h : ∀ x ∈ p.steps, x.status ≠ .submitted n) : p.stepOf n = none := by
  unfold Plans.stepOf
  rw [Option.map_eq_none_iff, List.findIdx?_eq_none_iff]
  intro x hx
  simpa using h x hx

theorem stepOf_eq_some {p : Plans} {n i : Nat} {adj : Bool} (h : p.steps[i]? = some ⟨.submitted n, adj⟩)
    (hbefore : ∀ j < i, (p.steps[j]?).map (·.status) ≠ some (.submitted n)) : p.stepOf n = some (i + 1) := by
  obtain ⟨hi, hx⟩ := List.getElem?_eq_some_iff.1 h
  unfold Plans.stepOf
  rw [List.findIdx?_eq_some_iff_getElem.2 ⟨hi, by simp [hx], fun j hj => ?_⟩]
  · rfl
  · have := hbefore j hj
    rw [List.getElem?_eq_getElem (by omega)] at this
    simpa using this

/-- A step of the run context replaced. -/
def State.setStep (s : State) (i : Nat) (r : StepRun) : State :=
  s.modPlans fun p => { p with steps := p.steps.set i r }

/-- The status that an end gives its step. -/
def endStatus (n : Nat) (o : MoveOutcome) : StepStatus := if o = .done then .done else .endedBad (some n)

theorem modStep_eq_setStep {s : State} {i : Nat} {r : StepRun} (h : s.plans.steps[i]? = some r) (f : StepRun → StepRun) :
    s.modStep (i + 1) f = s.setStep i (f r) := by
  have hset : s.plans.steps.modify (i + 1 - 1) f = s.plans.steps.set i (f r) := by
    rw [Nat.add_sub_cancel, List.modify_eq_set_getElem?, h]
    rfl
  show (s.modPlans fun p => { p with steps := s.plans.steps.modify (i + 1 - 1) f }) = _
  rw [hset]
  rfl

/-- The end of a move that matches step `i + 1`, as the executor takes it (R143). -/
theorem takeStepEnd_eq {s : State} {n i : Nat} {adj : Bool} (o : MoveOutcome) (r : Reason)
    (h : s.plans.steps[i]? = some ⟨.submitted n, adj⟩)
    (hbefore : ∀ j < i, (s.plans.steps[j]?).map (·.status) ≠ some (.submitted n)) {x : State}
    (hx : x = s.setStep i ⟨endStatus n o, adj⟩) :
    s.takeStepEnd n o r =
      if !x.plans.running then x
      else if o = .done then
        if x.plans.steps.all StepRun.isDone then (x.modPlans fun p => { p with state := .done }).raisePlan .plain
        else x.testSteps
      else if stopReason o r then x.stopPlan r
      else x.failPlan (i + 1) (.moveEnd o r) := by
  have hmod : s.modStep (i + 1) (fun y => { y with status := if o == MoveOutcome.done then .done else .endedBad (some n) }) = x := by
    rw [modStep_eq_setStep h, hx, endStatus]
    simp
  unfold State.takeStepEnd
  rw [stepOf_eq_some h hbefore]
  dsimp only
  rw [hmod]
  simp only [beq_iff_eq]

theorem stopReason_iff (o : MoveOutcome) (r : Reason) :
    stopReason o r = true ↔ (o = .cancelled ∨ o = .aborted) ∧ (r = .stop ∨ r = .trip) := by
  simp [stopReason]

theorem allDone_iff (l : List StepRun) : l.all StepRun.isDone = true ↔ ∀ (j : Nat) (y : StepRun), l[j]? = some y → y.status = .done := by
  rw [List.all_eq_true]
  refine ⟨fun h j y hj => by simpa [StepRun.isDone] using h y (List.mem_of_getElem? hj), fun h y hy => ?_⟩
  obtain ⟨j, hj⟩ := List.getElem?_of_mem hy
  simpa [StepRun.isDone] using h j y hj

/-- Behind a step done the plan is done when every other step is. -/
theorem allDone_set {l : List StepRun} {i : Nat} {adj : Bool} (hi : i < l.length) :
    (l.set i ⟨.done, adj⟩).all StepRun.isDone = true ↔
      ∀ (j : Nat) (y : StepRun), l[j]? = some y → j ≠ i → y.status = .done := by
  rw [allDone_iff]
  refine ⟨fun h j y hj hne => h j y (by rw [List.getElem?_set_ne hne.symm]; exact hj), fun h j y hj => ?_⟩
  by_cases hij : i = j
  · subst hij
    rw [List.getElem?_set_self hi, Option.some.injEq] at hj
    rw [← hj]
  · rw [List.getElem?_set_ne hij] at hj
    exact h j y hj (Ne.symm hij)

/-! ### A step end taken -/

/-- A step end that matches step `i + 1`, in the state it is taken in. -/
structure StepEnds (s : State) (n i : Nat) (adj : Bool) : Prop where
  step : s.plans.steps[i]? = some ⟨.submitted n, adj⟩
  first : ∀ j < i, (s.plans.steps[j]?).map (·.status) ≠ some (.submitted n)

theorem StepEnds.inside {s : State} {n i : Nat} {adj : Bool} (h : StepEnds s n i adj) : i < s.plans.steps.length :=
  (List.getElem?_eq_some_iff.1 h.step).1

/-- The plan has ended already: the end is recorded alone. -/
theorem StepEnds.over {s : State} {n i : Nat} {adj : Bool} (h : StepEnds s n i adj) (o : MoveOutcome) (r : Reason)
    (hrun : s.plans.running = false) : s.takeStepEnd n o r = s.setStep i ⟨endStatus n o, adj⟩ := by
  have hx : (s.setStep i ⟨endStatus n o, adj⟩).plans.running = false := hrun
  rw [takeStepEnd_eq o r h.step h.first rfl, if_pos (by rw [hx]; rfl)]

theorem StepEnds.running {s : State} {n i : Nat} {adj : Bool} (h : StepEnds s n i adj) (o : MoveOutcome) (r : Reason)
    (hrun : s.plans.running = true) {x : State} (hx : x = s.setStep i ⟨endStatus n o, adj⟩) :
    s.takeStepEnd n o r =
      if o = .done then
        if x.plans.steps.all StepRun.isDone then (x.modPlans fun p => { p with state := .done }).raisePlan .plain
        else x.testSteps
      else if stopReason o r then x.stopPlan r
      else x.failPlan (i + 1) (.moveEnd o r) := by
  have hxrun : x.plans.running = true := by
    rw [hx]
    exact hrun
  rw [takeStepEnd_eq o r h.step h.first hx]
  exact if_neg (by simp [hxrun])

/-- The end of the last step makes the plan DONE. -/
theorem stepEnd_last {s : State} {n i : Nat} {adj : Bool} (h : StepEnds s n i adj) (r : Reason)
    (hrun : s.plans.running = true)
    (hall : ∀ (j : Nat) (y : StepRun), s.plans.steps[j]? = some y → j ≠ i → y.status = .done) {t : State}
    (ht : t = s.takeStepEnd n .done r) :
    t.plans = { s.plans with state := .done, steps := s.plans.steps.set i ⟨.done, adj⟩ } ∧
      t = { s with plans := t.plans, mail := t.mail } ∧
      ∀ p, s.plans.plan = some p → Instr.latchEvent (.plan p .done .plain) ∈ t.mail := by
  obtain ⟨x, hx⟩ : ∃ x, x = s.setStep i ⟨.done, adj⟩ := ⟨_, rfl⟩
  have hall' : x.plans.steps.all StepRun.isDone = true := by
    rw [hx]
    exact (allDone_set h.inside).2 hall
  rw [h.running .done r hrun hx, if_pos rfl, if_pos hall'] at ht
  obtain ⟨hframe, -, hevent⟩ := raisePlan_frame (x.modPlans fun p => { p with state := .done }) .plain
  rw [← ht, hx] at hframe
  rw [← ht, hx] at hevent
  have hplans : t.plans = { s.plans with state := .done, steps := s.plans.steps.set i ⟨.done, adj⟩ } := by
    rw [hframe]
    rfl
  exact ⟨hplans, by rw [hplans, hframe]; rfl, hevent⟩

/-- With a step left that is not DONE, the end of one goes on to the next. -/
theorem stepEnd_more {s : State} {n i : Nat} {adj : Bool} (h : StepEnds s n i adj) (r : Reason)
    (hrun : s.plans.running = true) {j : Nat} {y : StepRun} (hj : s.plans.steps[j]? = some y) (hne : j ≠ i)
    (hy : y.status ≠ .done) : s.takeStepEnd n .done r = (s.setStep i ⟨.done, adj⟩).runSteps 25 false := by
  rw [h.running .done r hrun rfl]
  refine (if_pos rfl).trans (if_neg fun hall => hy ?_)
  exact (allDone_set h.inside).1 hall j y hj hne

/-- The run context behind a step DONE, at its next step. -/
theorem setStep_runAt {s : State} {i : Nat} {adj : Bool} {p : PlanNo} {l : List PlanStep} {k : Nat}
    (hstate : s.plans.state = .running) (hp : PlanRuns s p l) (hn : s.plans.next = some k) (hk : 1 ≤ k)
    (hlen : k ≤ l.length) : RunAt (s.setStep i ⟨.done, adj⟩) p l k := by
  refine runAt_of_runs hp hn hk hlen ?_ (List.length_set ..) (fun j r hj hr => ?_) rfl rfl
  · have hst : (s.setStep i ⟨.done, adj⟩).plans.state = .running := hstate
    rw [← hst]
    rfl
  · have hj' : (s.plans.steps.set i ⟨.done, adj⟩)[j]? = some r := hj
    rw [List.getElem?_set] at hj'
    split at hj'
    · split at hj'
      · obtain rfl := Option.some.inj hj'
        cases hr
      · cases hj'
    · exact hj'

/-- A step that waits or is not submitted is not the one that ended, and not DONE. -/
theorem StepEnds.other {s : State} {n i k : Nat} {adj : Bool} (h : StepEnds s n i adj)
    (hst : (s.plans.steps[k - 1]?).map (·.status) = some .notSubmitted ∨
      (s.plans.steps[k - 1]?).map (·.status) = some .waitingRoom) :
    ∃ y, s.plans.steps[k - 1]? = some y ∧ k - 1 ≠ i ∧ y.status ≠ .done := by
  have hopen : ∃ y, s.plans.steps[k - 1]? = some y ∧ (y.status = .notSubmitted ∨ y.status = .waitingRoom) := by
    obtain hst | hst := hst <;> obtain ⟨y, hy, hys⟩ := Option.map_eq_some_iff.1 hst
    · exact ⟨y, hy, .inl hys⟩
    · exact ⟨y, hy, .inr hys⟩
  obtain ⟨y, hy, hys⟩ := hopen
  refine ⟨y, hy, fun hki => ?_, fun hd => ?_⟩
  · rw [hki, h.step, Option.some.injEq] at hy
    rw [← hy] at hys
    obtain hys | hys := hys <;> cases hys
  · rw [hd] at hys
    obtain hys | hys := hys <;> cases hys

/-- The next step, met by the end of another, is submitted with those behind it. -/
theorem stepEnd_submits {s : State} {n i : Nat} {adj : Bool} (h : StepEnds s n i adj) (r : Reason) {p : PlanNo}
    {l : List PlanStep} {k : Nat} {x : PlanStep} (hstate : s.plans.state = .running) (hp : PlanRuns s p l)
    (hn : s.plans.next = some k) (hk : 1 ≤ k) (hx : l[k - 1]? = some x)
    (hst : (s.plans.steps[k - 1]?).map (·.status) = some .notSubmitted ∨
      (s.plans.steps[k - 1]?).map (·.status) = some .waitingRoom)
    (hcond : CondMet x (s.plans.steps.set i ⟨.done, adj⟩) k) (hsound : RunSound s l k) :
    Submitted (s.setStep i ⟨.done, adj⟩) (s.takeStepEnd n .done r) p l k := by
  obtain ⟨y, hy, hne, hyd⟩ := h.other hst
  rw [stepEnd_more h r ((running_iff _).2 (.inl hstate)) hy hne hyd]
  have hat := setStep_runAt (i := i) (adj := adj) hstate hp hn hk (le_length_of_step hk hx)
  have hlen : l.length ≤ 24 := hp.2.2.1
  exact runSteps_submitted 25 false hat hsound ((hat.goes_iff hx).2 hcond) (by omega)

/-- The next step, met by the end of another, is refused on its tier's inhibit. -/
theorem stepEnd_refused {s : State} {n i : Nat} {adj : Bool} (h : StepEnds s n i adj) (r : Reason) {p : PlanNo}
    {l : List PlanStep} {k : Nat} {x : PlanStep} (hstate : s.plans.state = .running) (hp : PlanRuns s p l)
    (hn : s.plans.next = some k) (hk : 1 ≤ k) (hx : l[k - 1]? = some x)
    (hst : (s.plans.steps[k - 1]?).map (·.status) = some .notSubmitted ∨
      (s.plans.steps[k - 1]?).map (·.status) = some .waitingRoom)
    (hcond : CondMet x (s.plans.steps.set i ⟨.done, adj⟩) k) (hnamed : StepNamed s x)
    (hi : (s.seq x.tier).inhibit ≠ none) :
    StepRefused s (s.takeStepEnd n .done r) p (s.plans.steps.set i ⟨.done, adj⟩) k := by
  obtain ⟨y, hy, hne, hyd⟩ := h.other hst
  have hat := setStep_runAt (i := i) (adj := adj) hstate hp hn hk (le_length_of_step hk hx)
  rw [stepEnd_more h r ((running_iff _).2 (.inl hstate)) hy hne hyd,
    runSteps_refused (hat.atStep hx) ((hat.goes_iff hx).2 hcond) hat.takes hnamed hi]
  exact stepRefused_of_closed hat.plan k

/-- With the next step held back, or none, the end is recorded alone. -/
theorem stepEnd_alone {s : State} {n i : Nat} {adj : Bool} (h : StepEnds s n i adj) (r : Reason)
    (hrun : s.plans.running = true) {j : Nat} {y : StepRun} (hj : s.plans.steps[j]? = some y) (hne : j ≠ i)
    (hy : y.status ≠ .done)
    (hback : s.plans.state = .held ∨ s.plans.next = none ∨
      ∃ p l k x, PlanRuns s p l ∧ s.plans.next = some k ∧ 1 ≤ k ∧ l[k - 1]? = some x ∧
        ¬ CondMet x (s.plans.steps.set i ⟨.done, adj⟩) k) :
    s.takeStepEnd n .done r = s.setStep i ⟨.done, adj⟩ := by
  rw [stepEnd_more h r hrun hj hne hy]
  by_cases hstate : s.plans.state = .running
  · obtain hheld | hnone | ⟨p, l, k, x, hp, hn, hk, hx, hcond⟩ := hback
    · rw [hheld] at hstate
      cases hstate
    · exact runSteps_over (s := s.setStep i ⟨.done, adj⟩) hnone _ _
    · have hat := setStep_runAt (i := i) (adj := adj) hstate hp hn hk (le_length_of_step hk hx)
      exact runSteps_stops hat.plan hat.next (fun hgo => hcond ((hat.goes_iff hx).1 hgo)) _
  · exact runSteps_not_running (s := s.setStep i ⟨.done, adj⟩) hstate _ _

/-- A step whose move ended otherwise ends the plan: a stop's end aborts it, any other fails it (R144, R147). -/
theorem stepEnd_bad {s : State} {n i : Nat} {adj : Bool} (h : StepEnds s n i adj) {o : MoveOutcome} (ho : o ≠ .done)
    (r : Reason) (hrun : s.plans.running = true) {t : State} (ht : t = s.takeStepEnd n o r) :
    if (o = .cancelled ∨ o = .aborted) ∧ (r = .stop ∨ r = .trip) then
      PlanEnded s.plans t.plans (s.plans.steps.set i ⟨.endedBad (some n), adj⟩) .aborted none (.aborted r) ∧
      (∀ p, s.plans.plan = some p → Instr.latchEvent (.plan p .aborted (.aborted (.aborted r))) ∈ t.mail) ∧
      t = { s with plans := t.plans, mail := t.mail }
    else
      PlanEnded s.plans t.plans (s.plans.steps.set i ⟨.endedBad (some n), adj⟩) .failed (some (i + 1)) (.moveEnd o r) ∧
      PlanMovesCancelled s t ∧
      (∀ p, s.plans.plan = some p → Instr.latchEvent (.plan p .failed (.failed (i + 1) (.moveEnd o r))) ∈ t.mail) ∧
      t = { s with
        plans := t.plans, adm := t.adm
        arb := { s.arb with armed := t.arb.armed, passRequested := t.arb.passRequested }, mail := t.mail } := by
  have hstatus : endStatus n o = .endedBad (some n) := if_neg ho
  rw [h.running o r hrun (hstatus ▸ rfl : s.setStep i ⟨.endedBad (some n), adj⟩ = _), if_neg ho] at ht
  have hreason := stopReason_iff o r
  split
  · next hstop =>
    rw [if_pos (hreason.2 hstop)] at ht
    rw [ht]
    exact stopPlan_spec (s := s.setStep i ⟨.endedBad (some n), adj⟩) hrun r
  · next hstop =>
    rw [if_neg fun hr => hstop (hreason.1 hr)] at ht
    have hclosed := failPlan_closed (s.setStep i ⟨.endedBad (some n), adj⟩) (i + 1) (.moveEnd o r)
    rw [← ht] at hclosed
    exact ⟨hclosed.ended, hclosed.cancelled, hclosed.raised, hclosed.frame⟩

end Sys2Proof.Machine

/-! SUPPORT. Freed entries and the orders at the plan executor, and O55. -/

namespace Sys2Proof.Machine

open Sys2Proof

/-! ### Freed entries -/

/-- A freed entry tries a step in WAITING_ROOM again, and does nothing else. -/
theorem exec_freedEntry {s : State} (hs : s.held = false) :
    (∀ k, s.plans.next = some k → s.plans.status k = some .waitingRoom →
      exec .freedEntry s = .next ((s.taken .freedEntry).runSteps 25 true)) ∧
    ((∀ k, s.plans.next = some k → s.plans.status k ≠ some .waitingRoom) →
      exec .freedEntry s = .next (s.taken .freedEntry)) := by
  have he := exec_live .freedEntry (execFreedEntry.eq_1 s) hs
  refine ⟨fun k hn hw => he.trans (congrArg Host.Outcome.next ?_), fun h => he.trans (congrArg Host.Outcome.next ?_)⟩
  · have hn' : (s.taken .freedEntry).plans.next = some k := hn
    rw [hn']
    exact if_pos hw
  · cases hn : s.plans.next with
    | none =>
      have hn' : (s.taken .freedEntry).plans.next = none := hn
      rw [hn']
    | some k =>
      have hn' : (s.taken .freedEntry).plans.next = some k := hn
      rw [hn']
      exact if_neg (h k hn)

theorem freedEntry_runAt {s : State} {p : PlanNo} {l : List PlanStep} {k : Nat} (hstate : s.plans.state = .running)
    (hp : PlanRuns s p l) (hn : s.plans.next = some k) (hk : 1 ≤ k) (hlen : k ≤ l.length) :
    RunAt (s.taken .freedEntry) p l k :=
  runAt_of_runs hp hn hk hlen (by rw [← hstate]; rfl) rfl (fun _ _ hj _ => hj) rfl rfl

/-- A step in WAITING_ROOM, tried again, is refused on its tier's inhibit. -/
theorem freedEntry_refused {s : State} (hs : s.held = false) {p : PlanNo} {l : List PlanStep} {k : Nat} {x : PlanStep}
    (hstate : s.plans.state = .running) (hp : PlanRuns s p l) (hn : s.plans.next = some k) (hk : 1 ≤ k)
    (hx : l[k - 1]? = some x) (hw : (s.plans.steps[k - 1]?).map (·.status) = some .waitingRoom) (hnamed : StepNamed s x)
    (hi : (s.seq x.tier).inhibit ≠ none) :
    ∃ t, exec .freedEntry s = .next t ∧ StepRefused s t p s.plans.steps k := by
  have hat := freedEntry_runAt hstate hp hn hk (le_length_of_step hk hx)
  obtain ⟨hretry, -⟩ := exec_freedEntry hs
  refine ⟨_, hretry k hn hw, ?_⟩
  rw [runSteps_refused (hat.atStep hx) (.inl ⟨rfl, hw⟩) hat.takes hnamed hi]
  exact stepRefused_of_closed hat.plan k

/-- A step in WAITING_ROOM, tried again, is submitted with those behind it. -/
theorem freedEntry_submits {s : State} (hs : s.held = false) {p : PlanNo} {l : List PlanStep} {k : Nat}
    (hstate : s.plans.state = .running) (hp : PlanRuns s p l) (hn : s.plans.next = some k) (hk : 1 ≤ k)
    (hw : (s.plans.steps[k - 1]?).map (·.status) = some .waitingRoom) (hsound : RunSound s l k) :
    ∃ t, exec .freedEntry s = .next t ∧ StepsSubmitted s t p l s.plans.steps k ∧
      t.plans = { s.plans with next := t.plans.next, steps := t.plans.steps } ∧
      t = { s with
        plans := t.plans, adm := t.adm
        arb := { s.arb with armed := t.arb.armed, passRequested := t.arb.passRequested }, mail := t.mail } := by
  have hlength : s.plans.steps.length = l.length := hp.2.2.2.1
  have hlen : k ≤ l.length := by
    obtain ⟨y, hy, -⟩ := Option.map_eq_some_iff.1 hw
    have := (List.getElem?_eq_some_iff.1 hy).1
    omega
  have hshort : l.length ≤ 24 := hp.2.2.1
  have hat := freedEntry_runAt hstate hp hn hk hlen
  obtain ⟨hretry, -⟩ := exec_freedEntry hs
  obtain ⟨hsteps, hplans, hframe, -, -⟩ := runSteps_submitted 25 true hat hsound (.inl ⟨rfl, hw⟩) (by omega)
  exact ⟨_, hretry k hn hw, hsteps.congr ⟨rfl, rfl, rfl, rfl⟩ ⟨rfl, rfl, rfl⟩ fun _ h => h, hplans, hframe⟩

/-! ### Holds and resumes -/

theorem planHoldOrder_taken {s : State} (hs : s.held = false) :
    ∃ t, exec .planHoldOrder s = .next t ∧
      if s.plans.state = .running then
        t = { s with plans := { s.plans with state := .held }, mail := t.mail } ∧
        ∀ p, s.plans.plan = some p → Instr.latchEvent (.plan p .held .plain) ∈ t.mail
      else t = s.taken .planHoldOrder := by
  have he := exec_live .planHoldOrder (execPlanHoldOrder.eq_1 s) hs
  split
  · next h =>
    obtain ⟨hframe, -, hevent⟩ :=
      raisePlan_frame ((s.taken .planHoldOrder).modPlans fun p => { p with state := .held }) .plain
    exact ⟨_, he.trans (congrArg Host.Outcome.next (if_pos h)), hframe, hevent⟩
  · next h => exact ⟨_, he.trans (congrArg Host.Outcome.next (if_neg h)), rfl⟩

/-- A held plan that is RUNNING again, before its next step is tried. -/
def State.resumed (s : State) : State :=
  ((s.taken .planResumeOrder).modPlans fun p => { p with state := .running }).raisePlan .plain

theorem resumed_spec (s : State) :
    s.resumed = { s with plans := { s.plans with state := .running }, mail := s.resumed.mail } ∧
      ∀ p, s.plans.plan = some p → Instr.latchEvent (.plan p .running .plain) ∈ s.resumed.mail := by
  obtain ⟨hframe, -, hevent⟩ :=
    raisePlan_frame ((s.taken .planResumeOrder).modPlans fun p => { p with state := .running }) .plain
  exact ⟨hframe, hevent⟩

theorem exec_planResumeOrder {s : State} (hs : s.held = false) :
    (s.plans.state ≠ .held → exec .planResumeOrder s = .next (s.taken .planResumeOrder)) ∧
    (s.plans.state = .held → exec .planResumeOrder s = .next (s.resumed.runSteps 25 true)) := by
  have he := exec_live .planResumeOrder (execPlanResumeOrder.eq_1 s) hs
  exact ⟨fun h => he.trans (congrArg Host.Outcome.next (if_neg h)),
    fun h => he.trans (congrArg Host.Outcome.next (if_pos h))⟩

theorem resumed_runAt {s : State} {p : PlanNo} {l : List PlanStep} {k : Nat} (hp : PlanRuns s p l)
    (hn : s.plans.next = some k) (hk : 1 ≤ k) (hlen : k ≤ l.length) : RunAt s.resumed p l k := by
  obtain ⟨hframe, -⟩ := resumed_spec s
  generalize s.resumed = x at hframe
  have hplans : x.plans = { s.plans with state := .running } := by rw [hframe]
  exact runAt_of_runs hp hn hk hlen (by rw [hplans]) (by rw [hplans]) (fun j r hj _ => by rw [hplans] at hj; exact hj)
    (by rw [hframe]) (by rw [hframe])

/-- A resume of a plan with no next step. -/
theorem resume_over {s : State} (hs : s.held = false) (hheld : s.plans.state = .held) (hn : s.plans.next = none) :
    ∃ t, exec .planResumeOrder s = .next t ∧
      t = { s with plans := { s.plans with state := .running }, mail := t.mail } ∧
      ∀ p, s.plans.plan = some p → Instr.latchEvent (.plan p .running .plain) ∈ t.mail := by
  obtain ⟨-, hresume⟩ := exec_planResumeOrder hs
  have hspec := resumed_spec s
  have hnext : s.resumed.plans.next = none := by
    rw [hspec.1]
    exact hn
  refine ⟨_, hresume hheld, ?_⟩
  rw [runSteps_over hnext]
  exact hspec

/-- A resume of a plan at its next step: refused, submitted or left, by the step and its tier. -/
theorem resume_at {s : State} (hs : s.held = false) {p : PlanNo} {l : List PlanStep} {k : Nat} {x : PlanStep}
    (hheld : s.plans.state = .held) (hp : PlanRuns s p l) (hn : s.plans.next = some k) (hk : 1 ≤ k)
    (hx : l[k - 1]? = some x) {st : StepStatus} (hst : (s.plans.steps[k - 1]?).map (·.status) = some st) :
    (st = .waitingRoom ∨ CondMet x s.plans.steps k → StepNamed s x → (s.seq x.tier).inhibit ≠ none →
      ∃ t, exec .planResumeOrder s = .next t ∧ StepRefused s t p s.plans.steps k ∧
        Instr.latchEvent (.plan p .running .plain) ∈ t.mail) ∧
    (st = .waitingRoom ∨ CondMet x s.plans.steps k → RunSound s l k →
      ∃ t, exec .planResumeOrder s = .next t ∧ StepsSubmitted s t p l s.plans.steps k ∧
        t.plans = { s.plans with state := .running, next := t.plans.next, steps := t.plans.steps } ∧
        Instr.latchEvent (.plan p .running .plain) ∈ t.mail ∧
        t = { s with
          plans := t.plans, adm := t.adm
          arb := { s.arb with armed := t.arb.armed, passRequested := t.arb.passRequested }, mail := t.mail }) ∧
    (st = .notSubmitted → ¬ CondMet x s.plans.steps k →
      ∃ t, exec .planResumeOrder s = .next t ∧
        t = { s with plans := { s.plans with state := .running }, mail := t.mail } ∧
        Instr.latchEvent (.plan p .running .plain) ∈ t.mail) := by
  have hplan : s.plans.plan = some p := hp.1
  have hshort : l.length ≤ 24 := hp.2.2.1
  have hat := resumed_runAt hp hn hk (le_length_of_step hk hx)
  obtain ⟨-, hresume⟩ := exec_planResumeOrder hs
  obtain ⟨hframe, hevent⟩ := resumed_spec s
  have hevent' := hevent p hplan
  rw [hresume hheld]
  generalize s.resumed = y at hat hframe hevent hevent'
  have hsteps : y.plans.steps = s.plans.steps := by rw [hframe]
  have hretry := hat.retry_iff hx
  rw [hsteps, hst, Option.some.injEq] at hretry
  have hreads : y.tables = s.tables ∧ y.seqs = s.seqs ∧ y.adm = s.adm ∧ y.clock = s.clock ∧ y.arb = s.arb := by
    rw [hframe]
    exact ⟨rfl, rfl, rfl, rfl, rfl⟩
  obtain ⟨htables, hseqs, hadm, hclock, harb⟩ := hreads
  refine ⟨fun hgo hnamed hi => ⟨_, rfl, ?_⟩, fun hgo hsound => ⟨_, rfl, ?_⟩, fun hopen hcond => ⟨_, rfl, ?_⟩⟩
  · have hnamed' : StepNamed y x := by
      unfold StepNamed State.stationAngle State.tier at *
      rw [htables]
      exact hnamed
    have hi' : (y.seq x.tier).inhibit ≠ none := by
      unfold State.seq at *
      rw [hseqs]
      exact hi
    rw [runSteps_refused (hat.atStep hx) (hretry.2 hgo) hat.takes hnamed' hi']
    have hkept := (failPlan_closed (y.modStep k fun r => { r with status := .endedBad none }) k
      (.refused .interlock)).kept _ hevent'
    obtain ⟨hended, hcancelled, hraised, htframe⟩ := stepRefused_of_closed hat.plan k
    rw [hsteps] at hended
    generalize (y.modStep k fun r => { r with status := .endedBad none }).failPlan k (.refused .interlock) = t at *
    refine ⟨⟨fun r hr => ?_, fun numbers hnum => ?_, hraised, ?_⟩, hkept⟩
    · have := hended r hr
      unfold PlanEnded at *
      rw [this, hframe]
    · have := hcancelled numbers hnum
      rw [hadm, hclock] at this
      exact this
    · rw [harb] at htframe
      rw [htframe, hframe]
  · obtain ⟨hsub, hplans, htframe, hkept, -⟩ := runSteps_submitted 25 true hat
      (fun z hz => stepSound_congr htables hseqs (hsound z hz)) (hretry.2 hgo) (by omega)
    generalize y.runSteps 25 true = t at *
    rw [hsteps] at hsub
    have hyplans : y.plans = { s.plans with state := .running } := by rw [hframe]
    rw [hyplans] at hplans
    rw [harb] at htframe
    refine ⟨hsub.congr ⟨hadm, hseqs, htables, hclock⟩ ⟨rfl, rfl, rfl⟩ fun _ h => h, hplans, hkept _ hevent', ?_⟩
    rw [htframe, hframe]
  · have hstops : ¬ StepGoes y true k := by
      rw [hretry, hopen]
      rintro (h | h)
      · cases h
      · exact hcond h
    rw [runSteps_stops hat.plan hat.next hstops]
    exact ⟨hframe, hevent'⟩

/-! ### Stop orders -/

theorem planStopOrder_taken {s : State} (hs : s.held = false) (r : Reason) :
    ∃ t, exec (.planStopOrder r) s = .next t ∧
      if s.plans.running then
        PlanEnded s.plans t.plans s.plans.steps .aborted none (.aborted r) ∧
        t = { s with plans := t.plans, mail := t.mail } ∧
        ∀ p, s.plans.plan = some p → Instr.latchEvent (.plan p .aborted (.aborted (.aborted r))) ∈ t.mail
      else t = s.taken (.planStopOrder r) := by
  refine ⟨_, exec_live _ (execPlanStopOrder.eq_1 r s) hs, ?_⟩
  split
  · next h =>
    obtain ⟨hended, hevent, hframe⟩ := stopPlan_spec (s := s.taken (.planStopOrder r)) h r
    exact ⟨hended, hframe, hevent⟩
  · next h => exact if_neg h

/-- Settles O55: step ends, freed entries and orders, one after another. -/
theorem plansFollowEndsAndOrders : Obligations.PlansFollowEndsAndOrders := by
  unfold Obligations.PlansFollowEndsAndOrders
  intro s hs
  refine ⟨running_iff _, fun n o r => ⟨fun hnone => ?_, fun i adj hi hbefore => ?_⟩, (exec_freedEntry hs).2,
    fun k hn hw hstate => ?_, fun p l k x hstate hp hn hk hx hw hnamed hi =>
      freedEntry_refused hs hstate hp hn hk hx hw hnamed hi,
    fun p l k hstate hp hn hk hw hsound => freedEntry_submits hs hstate hp hn hk hw hsound, planHoldOrder_taken hs,
    (exec_planResumeOrder hs).1, fun hheld hn => resume_over hs hheld hn,
    fun p l k x hheld hp hn hk hx st hst _ => resume_at hs hheld hp hn hk hx hst, planStopOrder_taken hs⟩
  · refine (exec_live (.stepEnd n o r) (execStepEnd.eq_1 n o r s) hs).trans (congrArg Host.Outcome.next ?_)
    unfold State.takeStepEnd
    rw [stepOf_eq_none (p := (s.taken (.stepEnd n o r)).plans) hnone]
  · have h : StepEnds (s.taken (.stepEnd n o r)) n i adj := ⟨hi, hbefore⟩
    refine ⟨_, exec_live (.stepEnd n o r) (execStepEnd.eq_1 n o r s) hs, ?_, ?_, ?_, ?_, ?_, ?_, ?_⟩
    · rintro rfl hrun hall
      exact stepEnd_last h r hrun hall rfl
    · rintro p l k x rfl hstate hp hn hk hx hst hcond hnamed hinh
      exact stepEnd_refused h r hstate hp hn hk hx hst hcond hnamed hinh
    · rintro p l k x rfl hstate hp hn hk hx hst hcond hsound
      obtain ⟨hsteps, hplans, hframe, -, -⟩ := stepEnd_submits h r hstate hp hn hk hx hst hcond hsound
      exact ⟨hsteps.congr ⟨rfl, rfl, rfl, rfl⟩ ⟨rfl, rfl, rfl⟩ fun _ h => h, hplans, hframe⟩
    · rintro rfl hrun ⟨j, y, hj, hne, hy⟩ hback
      exact stepEnd_alone h r hrun hj hne hy hback
    · rintro rfl hrun
      exact h.over .done r hrun
    · intro ho hrun
      rw [h.over o r hrun, endStatus, if_neg ho]
      rfl
    · intro ho hrun
      exact stepEnd_bad h ho r hrun rfl
  · obtain ⟨hretry, -⟩ := exec_freedEntry hs
    rw [hretry k hn hw, runSteps_not_running (s := s.taken .freedEntry) hstate]

end Sys2Proof.Machine
